-- ==== Sys2Proof/Word.lean ====
section
/-! DEFINITION. The wire words of the Cofsara 9632: bytes, 16-bit keys and fields, 32-bit values (11 R165, section 11.2). -/

namespace Sys2Proof

/-- One byte on either link. -/
abbrev Byte := BitVec 8

/-- A 16-bit key of the depot link or field of the berth link. -/
abbrev Half := BitVec 16

/-- "Every value on the depot link is four bytes, two's complement." (R165) -/
abbrev Value := BitVec 32

end Sys2Proof
end

