-- ==== Sys2Proof/Syntax.lean ====
section
/-! DEFINITION. The commands of the 9632: one constructor of Instr for each row of spec/opcode_table.json. -/

namespace Sys2Proof

/-- The level of a discrete line (08 section 8.1), in the order R165 numbers: RELEASED 0, ASSERTED 1. -/
inductive Level where
  | released | asserted
  deriving DecidableEq, Repr

/-- The five tables a request head names (11 section 11.1.2). -/
inductive TableId where
  | profile | bus | berth | ticket | pledge
  deriving DecidableEq, Repr

/-- R165: "A pair is five bytes: a one-byte field identifier followed by the value." -/
structure Pair where
  ident : Byte
  value : Value
  deriving DecidableEq, Repr

/-- The four bytes of a request head (11 section 11.1.2). -/
structure RequestHead where
  kind : Byte
  table : Byte
  key : Half
  deriving DecidableEq, Repr

/-- The level of the berth link's pair for one bit time (R42). -/
inductive BitLevel where
  | space | mark
  deriving DecidableEq, Repr

/-- One received character of the berth link (R42): its byte, its address mark, and whether its stop bit was at space.
`Machine.readChar` reads it from its eleven bit times. -/
structure RxChar where
  byte : Byte
  mark : Bool
  framingError : Bool
  deriving DecidableEq, Repr

/-- One sent character of the berth link (R42). `Machine.charLevels` lays out its eleven bit times. -/
structure TxChar where
  byte : Byte
  mark : Bool
  deriving DecidableEq, Repr

/-- The pack data of a STATUS body (11 section 11.2). -/
structure PackData where
  energy : Half
  temperature : Byte
  acceptance : Byte
  packFault : Byte
  deriving DecidableEq, Repr

/-- The body of a STATUS reply (11 section 11.2). -/
structure StatusBody where
  connector : Byte
  vehicle : Half
  output : Half
  faultCode : Byte
  pack : Option PackData
  deriving DecidableEq, Repr

/-- The body of a METER reply (11 section 11.2). -/
structure MeterBody where
  measured : Half
  voltage : Half
  transformer : Byte
  deriving DecidableEq, Repr

/-- The body of a CONFIRM reply (11 section 11.2). -/
structure ConfirmBody where
  accepted : Byte
  output : Half
  deriving DecidableEq, Repr

/-- The commands. The request rows are complete requests of R149 (log entry 1); the event rows are events of the
block's own engines or of its lines. -/
inductive Instr where
  /-- SEND (R147): the bytes shifted in after the direction byte. -/
  | send (bytes : List Byte)
  /-- FETCH (R150): the number of whole bytes clocked after the direction byte. -/
  | fetch (clocked : Nat)
  /-- IGNORED_TRANSACTION (R145): whether the status byte went out whole, the direction byte, the bytes after it. -/
  | ignoredTransaction (statusWhole : Bool) (direction : Byte) (bytes : List Byte)
  /-- LOOKUP_BUS (R1). -/
  | lookupBus (key : Half)
  /-- LOOKUP_BERTH (R23). -/
  | lookupBerth (key : Half)
  /-- LOOKUP_TICKET (R101). -/
  | lookupTicket (key : Half)
  /-- LOOKUP_PLEDGE (R114). -/
  | lookupPledge (key : Half)
  /-- LOOKUP_PROFILE (R162). -/
  | lookupProfile (key : Half)
  /-- LIST (R153): table, start key, count byte where the body carries one. -/
  | list (table : TableId) (key : Half) (count : Option Byte)
  /-- ENROL_BUS (R3). -/
  | enrolBus (key : Half) (pairs : List Pair)
  /-- ENROL_BERTH (R25). -/
  | enrolBerth (key : Half) (pairs : List Pair)
  /-- ENROL_TICKET (R102). -/
  | enrolTicket (key : Half) (pairs : List Pair)
  /-- ENROL_PLEDGE (R116). -/
  | enrolPledge (key : Half) (pairs : List Pair)
  /-- AMEND_BUS (R4). -/
  | amendBus (key : Half) (pairs : List Pair)
  /-- AMEND_BERTH (R26). -/
  | amendBerth (key : Half) (pairs : List Pair)
  /-- AMEND_TICKET (R103). -/
  | amendTicket (key : Half) (pairs : List Pair)
  /-- AMEND_PLEDGE (R117). -/
  | amendPledge (key : Half) (pairs : List Pair)
  /-- AMEND_PROFILE (R162). -/
  | amendProfile (key : Half) (pairs : List Pair)
  /-- RETIRE_BUS (R5). -/
  | retireBus (key : Half)
  /-- RETIRE_BERTH (R27). -/
  | retireBerth (key : Half)
  /-- RETIRE_TICKET (R105). -/
  | retireTicket (key : Half)
  /-- RETIRE_PLEDGE (R130). -/
  | retirePledge (key : Half)
  /-- SUMMARY (R154). -/
  | summary
  /-- ATTEND (R158): the cause numbers acknowledged. -/
  | attend (causes : List Byte)
  /-- RUN_START (R64). -/
  | runStart
  /-- RUN_STOP (R72). -/
  | runStop
  /-- PAUSE (R67). -/
  | pause
  /-- RESUME (R67). -/
  | resume
  /-- ALL_STOP (R138). -/
  | allStop
  /-- CLEAR_STOP (R139). -/
  | clearStop
  /-- ACK_TRIP (R135). -/
  | ackTrip
  /-- WITHDRAW (R129): the pledge id, in the key of the request head. -/
  | withdraw (key : Half)
  /-- SET_CLOCK (R99): the pairs after the function byte. -/
  | setClock (pairs : List Pair)
  /-- SAVE_PROFILE (R164). -/
  | saveProfile
  /-- PROFILE_WRITE_END (R164). -/
  | profileWriteEnd
  /-- RECORDS_RESET (R41 and the other blocks' reset rules). -/
  | recordsReset
  /-- POWER_ON (R163). -/
  | powerOn
  /-- NEXT_EXCHANGE_CHOICE (R47). -/
  | nextExchangeChoice
  /-- PREAMBLE_END (R60). -/
  | preambleEnd
  /-- POLL (R49): the chosen POLL frame is sent. -/
  | poll
  /-- GRANT (R55): the chosen GRANT frame is sent. -/
  | grant
  /-- STATUS (R52): the responder address and the body. -/
  | status (responder : Byte) (body : StatusBody)
  /-- METER (R53). -/
  | meter (body : MeterBody)
  /-- CONFIRM (R56): the responder address and the body. -/
  | confirm (responder : Byte) (body : ConfirmBody)
  /-- INVALID_REPLY (R44): the characters received. -/
  | invalidReply (chars : List RxChar)
  /-- REPLY_TIMEOUT (R45). -/
  | replyTimeout
  /-- ALLOCATION_PASS (R81). -/
  | allocationPass
  /-- HOLD_TIMER_EXPIRY (R66). -/
  | holdTimerExpiry
  /-- SUPERVISION_EXPIRY (R161). -/
  | supervisionExpiry
  /-- MINUTE_EVENT (R98). -/
  | minuteEvent
  /-- TRIP_ASSERTION (R134). -/
  | tripAssertion
  /-- TRIP_RELEASE (R136). -/
  | tripRelease
  /-- STOP_ASSERTION (R138). -/
  | stopAssertion
  /-- STOP_RELEASE (R139). -/
  | stopRelease
  /-- LINE_SAMPLE (R133): the sampled levels of TRIP and STOP. -/
  | lineSample (trip : Level) (stop : Level)
  /-- POWER_FAILURE (R164). -/
  | powerFailure
  deriving DecidableEq, Repr

end Sys2Proof
end

