-- ==== Sys2Proof/Decode.lean ====
section
/-! DEFINITION. Decoding a word: no row of spec/opcode_table.json gives bits, so no word spells a command (log entry 34). -/

namespace Sys2Proof

/-- The command that a word spells by the opcode table's bits: none, since no row gives any. -/
def decodeTableWord (_nbits _w : Nat) : Option Instr := none

end Sys2Proof
end

