-- ==== Sys2Proof/Config.lean ====
section
/-! DEFINITION. What the part fixes (slot counts, buffer sizes) and the free values the manual leaves open. -/

namespace Sys2Proof

/-- R1: "The bus table has 96 slots." -/
def Config.busSlots : Nat := 96

/-- R101: "The ticket table has 128 slots." -/
def Config.ticketSlots : Nat := 128

/-- R114: "The pledge table has 16 slots." -/
def Config.pledgeSlots : Nat := 16

/-- R97: the last depot minute, minute 1439 of day 65535, as day times 1440 plus minute (R165). -/
def Config.lastMinute : Nat := 94371839

/-- FREE VALUE, log entry 3: the order in which timers that run out in the same second are taken. -/
opaque Config.tickOrder : Nat → Nat

/-- FREE VALUE, log entry 12: what a power failure leaves of an image that was being written (R164). -/
opaque Config.tornImage : Nat → List Byte

end Sys2Proof
end

