-- ==== Sys2Proof/Machine/State.lean ====
section
/-! DEFINITION. The state of the 9632, block by block (00 section 2.1), and its value at POWER_ON. -/

namespace Sys2Proof.Machine

/-! ## The bus table (chapter 1) -/

/-- R6, R7. Numbered as R165: AWAY 0, ATTACHED 1. -/
inductive BusState where
  | away | attached
  deriving DecidableEq, Repr

/-- R11. -/
inductive Band where
  | frozen | cold | normal | hot
  deriving DecidableEq, Repr

/-- R13: NONE, FRESH, STALE. -/
inductive Freshness where
  | noReport | fresh | stale
  deriving DecidableEq, Repr

/-- One bus record (section 1.1). Energies are in units of 0.1 kWh, powers in whole kilowatts. The last two fields are
the demand terms of R15 and R16, which LOOKUP does not return. -/
structure Bus where
  fleet : Nat
  capacity : Nat
  rateCap : Nat
  reserveEligible : Bool
  inService : Bool
  state : BusState
  berth : Option Nat
  ticket : Option Nat
  held : Option Nat
  temperature : Option Int
  band : Option Band
  acceptance : Option Nat
  packFault : Bool
  freshness : Freshness
  floor : Nat
  exportEligible : Bool
  thermal : Nat
  charge : Nat
  deriving DecidableEq, Repr

/-! ## The berth table (chapter 2) -/

/-- Section 2.4. -/
inductive BerthState where
  | vacant | awaitingId | occupied | foreign | faulted | outOfService
  deriving DecidableEq, Repr

/-- R35. -/
inductive ForeignReason where
  | unknown | duplicate
  deriving DecidableEq, Repr

/-- Section 2.5. -/
inductive FaultCause where
  | silent | dispenser | refused
  deriving DecidableEq, Repr

/-- One berth record (section 2.1) with its retry wait (R57). The occupant of a FOREIGN berth is a raw vehicle id; of
any other berth, a fleet number. -/
structure Berth where
  number : Nat
  branch : Nat
  trench : Nat
  position : Nat
  maxImport : Nat
  maxExport : Nat
  correction : Int
  outOfService : Bool
  state : BerthState
  occupant : Option Nat
  foreignReason : Option ForeignReason
  faultCause : Option FaultCause
  dispenserCode : Option Nat
  missCount : Nat
  reported : Int
  wanted : Int
  decided : Int
  sent : Int
  grantDue : Bool
  retryWait : Bool
  deriving DecidableEq, Repr

/-! ## The berth link controller (chapter 3) -/

/-- R59, R60. -/
inductive LineCondition where
  | frames | brk | preamble
  deriving DecidableEq, Repr

/-- The kind of the exchange in flight; a GRANT holds its carried target (R46). -/
inductive ExchangeKind where
  | poll
  | grant (target : Int)
  deriving DecidableEq, Repr

/-- The exchange in flight (R46). `void` says that its outcome is to be discarded (R58). -/
structure Exchange where
  address : Nat
  kind : ExchangeKind
  void : Bool
  deriving DecidableEq, Repr

/-- R49: the last poll sent in the round in progress. -/
inductive SweepPosition where
  | start | meter
  | berth (number : Nat)
  deriving DecidableEq, Repr

/-- The frame R47 has chosen and whose first character has not been sent yet (the turnaround of R42; log entry 5). -/
inductive NextSend where
  | pollMeter
  | pollBerth (number : Nat)
  | grantTo (number : Nat)
  deriving DecidableEq, Repr

/-- The berth link controller's own state. `restart` is R47's exception: the next exchange begins a new round. -/
structure BerthLine where
  condition : LineCondition
  exchange : Option Exchange
  nextSend : Option NextSend
  restart : Bool
  roundList : List Nat
  sweep : SweepPosition
  roundOpen : Bool
  qualifying : Bool
  roundCounter : Nat
  firstRound : Bool
  grantCount : Nat
  meterMiss : Nat
  txd : List TxChar
  deriving DecidableEq, Repr

/-! ## Run control (chapter 4) -/

/-- R63. -/
inductive RunState where
  | idle | starting | running | paused
  deriving DecidableEq, Repr

/-- R69, R70. -/
inductive AbortCause where
  | meterSilent | overdraw
  deriving DecidableEq, Repr

/-- R65. -/
inductive InvalidReason where
  | clockUnset | noBerth | branchLimit | sharedPlace
  deriving DecidableEq, Repr

/-- Run control (section 4.1). The ABORTED flag is set while an abort cause is present, the INVALID_PLAN flag while a
reason is. A stopped hold timer is `none`; a running one holds its remaining seconds. -/
structure RunControl where
  state : RunState
  hostPause : Bool
  thermalPause : Bool
  holdTimer : Option Nat
  holdExpired : Bool
  overdraw : Nat
  abortCause : Option AbortCause
  invalidReason : Option InvalidReason
  invalidDetail : Option Nat
  deriving DecidableEq, Repr

/-! ## The feeder allocator (chapter 5) -/

/-- R77. -/
inductive BindingTerm where
  | feeder | curtail | trip | held
  deriving DecidableEq, Repr

/-- The allocator's own items (section 5.1). -/
structure Allocator where
  baseLoad : Nat
  importCeiling : Nat
  binding : BindingTerm
  exportCeiling : Nat
  passRequested : Bool
  deriving DecidableEq, Repr

/-! ## The depot clock and the ticket table (chapter 6) -/

/-- A depot time: day and minute of day (00 section 5.2). -/
structure DepotMoment where
  day : Nat
  minute : Nat
  deriving DecidableEq, Repr

/-- The depot clock (section 6.1): UNSET while it holds no time. -/
structure DepotClock where
  time : Option DepotMoment
  seconds : Nat
  deriving DecidableEq, Repr

/-- Section 6.2. -/
inductive TicketState where
  | opened | assigned | released | missed
  deriving DecidableEq, Repr

/-- R108. -/
inductive TicketGrade where
  | unknown | atRisk | onTrack | ready
  deriving DecidableEq, Repr

/-- One ticket record (section 6.2). The departure is day times 1440 plus minute (R165). -/
structure Ticket where
  id : Nat
  route : Nat
  departure : Nat
  need : Nat
  lead : Nat
  power : Nat
  bus : Option Nat
  lastBus : Option Nat
  state : TicketState
  grade : Option TicketGrade
  projected : Option Nat
  readyAtRelease : Option Bool
  deriving DecidableEq, Repr

/-! ## The pledge table (chapter 7) -/

/-- Section 7.1: CURTAIL, EXPORT. -/
inductive PledgeKind where
  | curtail | exporting
  deriving DecidableEq, Repr

/-- Section 7.1. -/
inductive PledgeState where
  | booked | armed | active | complete
  deriving DecidableEq, Repr

/-- R120. -/
inductive Forecast where
  | covered | shortForecast
  deriving DecidableEq, Repr

/-- R123. -/
inductive PledgeGrade where
  | meeting | short
  deriving DecidableEq, Repr

/-- Section 7.1. -/
inductive PledgeOutcome where
  | met | short | withdrawn | lapsed | unattended
  deriving DecidableEq, Repr

/-- One pledge record (section 7.1). -/
structure Pledge where
  id : Nat
  kind : PledgeKind
  start : Nat
  duration : Nat
  committed : Nat
  yields : Bool
  state : PledgeState
  forecast : Option Forecast
  grade : Option PledgeGrade
  delivered : Nat
  shortMinutes : Nat
  worst : Nat
  outcome : Option PledgeOutcome
  deriving DecidableEq, Repr

/-- An entry of the yield list (section 7.5). -/
structure YieldEntry where
  ticket : Nat
  power : Nat
  deriving DecidableEq, Repr

/-- The yield list and the three values the pledge table hands to the allocator (R128). -/
structure Reserve where
  yieldList : List YieldEntry
  curtailCommitment : Nat
  readinessYield : Nat
  exportCommitment : Nat
  deriving DecidableEq, Repr

/-! ## The grid line monitor (chapter 8) -/

/-- The grid line monitor's items. -/
structure GridMonitor where
  tripLevel : Level
  tripCount : Nat
  tripLatch : Bool
  tripAck : Bool
  stopLevel : Level
  stopCount : Nat
  stopLatch : Bool
  clearRemembered : Bool
  sag : Bool
  lowCount : Nat
  deriving DecidableEq, Repr

/-! ## The depot link (chapter 9) -/

/-- R145. -/
inductive LinkState where
  | ready | assembling | working | responseWaiting
  deriving DecidableEq, Repr

/-- The request being put together (R147). -/
structure Assembly where
  head : RequestHead
  total : Nat
  body : List Byte
  deriving DecidableEq, Repr

/-- The answer awaiting collection (R149, R150). -/
structure ResponseBuffer where
  bytes : List Byte
  position : Nat
  deriving DecidableEq, Repr

/-- The depot link interface. `miso` is what the latest transaction shifted out (log entry 30). -/
structure DepotLink where
  state : LinkState
  assembly : Option Assembly
  response : Option ResponseBuffer
  overrun : Bool
  miso : List Byte
  deriving DecidableEq, Repr

/-! ## Attention, supervision and the profile (chapter 10) -/

/-- The fourteen attention causes, in the order of their numbers (section 10.1). -/
inductive Cause where
  | stop | trip | sag | runAborted | meterSilent | berthFault | ticketAtRisk | ticketMissed
  | pledgeShort | pledgeComplete | vehicleForeign | fallback | profileDefaulted | linkOverrun
  deriving DecidableEq, Repr

/-- The attention unit: bit n − 1 of `flags` is the pending flag of cause n (R165). -/
structure Attention where
  flags : BitVec 14
  armed : Bool
  deriving DecidableEq, Repr

/-- R160. -/
inductive TimerCondition where
  | off | disarmed | counting | expired
  deriving DecidableEq, Repr

/-- The supervision timer; `remaining` is in seconds. -/
structure Supervision where
  condition : TimerCondition
  remaining : Nat
  fallback : Bool
  deriving DecidableEq, Repr

/-- R135. -/
inductive TripMode where
  | edge | edgeLevel
  deriving DecidableEq, Repr

/-- The depot profile (section 10.3.1). `enables` and `classes` hold cause n in bit n − 1; a set class bit is ROUTINE. -/
structure Profile where
  feederLimit : Nat
  branchLimit1 : Nat
  branchLimit2 : Nat
  branchLimit3 : Nat
  branchLimit4 : Nat
  reserveCeiling : Nat
  exportCeiling : Nat
  tripAllowance : Nat
  tripMode : TripMode
  tripEnabled : Bool
  sagTripLevel : Nat
  sagReleaseMargin : Nat
  sagCount : Nat
  overdrawAbort : Bool
  meterSilentAbort : Bool
  overdrawTolerance : Nat
  highRateThreshold : Nat
  trenchQuota : Nat
  spacingSections : BitVec 8
  startHold : Nat
  reserveMargin : Nat
  idleFloor : Nat
  protectedHorizon : Nat
  releaseWindow : Nat
  grace : Nat
  armingLead : Nat
  coldDerate : Nat
  warmUpPower : Nat
  foreignRate : Nat
  supervisionInterval : Nat
  fallbackRun : Bool
  enables : BitVec 14
  classes : BitVec 14
  deriving DecidableEq, Repr

/-- The write in progress: the bytes being written and the head of the request to answer (R149, R164). -/
structure PendingWrite where
  bytes : List Byte
  head : RequestHead
  deriving DecidableEq, Repr

/-- The profile store: the nonvolatile image and the write in progress. -/
structure ProfileStore where
  image : List Byte
  write : Option PendingWrite
  deriving DecidableEq, Repr

/-! ## The whole machine -/

/-- The 9632. `freeIndex` and `pending` are the model's own: the number of free values taken, and the queue of commands. -/
structure State where
  powered : Bool
  depot : DepotLink
  buses : List Bus
  berths : List Berth
  line : BerthLine
  run : RunControl
  alloc : Allocator
  clock : DepotClock
  tickets : List Ticket
  pledges : List Pledge
  reserve : Reserve
  grid : GridMonitor
  attention : Attention
  supervision : Supervision
  profile : Profile
  store : ProfileStore
  freeIndex : Nat
  pending : List Instr
  deriving DecidableEq, Repr

/-- No command of this block makes it stop (log entry 25): the type has no constructor, so no arm can raise one. -/
inductive Fault where
  deriving DecidableEq, Repr

/-- The refusals. -/
inductive Refusal where
  /-- Raised only by an arm of exec for a command that has no meaning yet. No arm uses it. Safe. -/
  | notModelled (mnemonic : String)
  deriving DecidableEq, Repr

/-! ## Reset -/

/-- The Default column of section 10.3.1. -/
def Profile.defaults : Profile where
  feederLimit := 400
  branchLimit1 := 200
  branchLimit2 := 200
  branchLimit3 := 200
  branchLimit4 := 200
  reserveCeiling := 0
  exportCeiling := 0
  tripAllowance := 0
  tripMode := .edgeLevel
  tripEnabled := false
  sagTripLevel := 900
  sagReleaseMargin := 40
  sagCount := 3
  overdrawAbort := true
  meterSilentAbort := true
  overdrawTolerance := 5
  highRateThreshold := 60
  trenchQuota := 3
  spacingSections := 0#8
  startHold := 2
  reserveMargin := 100
  idleFloor := 30
  protectedHorizon := 90
  releaseWindow := 30
  grace := 15
  armingLead := 10
  coldDerate := 40
  warmUpPower := 8
  foreignRate := 0
  supervisionInterval := 0
  fallbackRun := true
  enables := 0x3FFF#14
  classes := 0x3FC0#14

/-- The state of every block after POWER_ON with a given working profile, berth records, pending flags and image
(R22, R41, R62, R75, R96, R113, R132, R144, R155, R159, R160). -/
def State.afterPowerOn (profile : Profile) (berths : List Berth) (flags : BitVec 14) (image : List Byte)
    (freeIndex : Nat) (queue : List Instr) : State where
  powered := true
  depot := { state := .ready, assembly := none, response := none, overrun := false, miso := [] }
  buses := []
  berths := berths
  line :=
    { condition := .preamble, exchange := none, nextSend := none, restart := false, roundList := [], sweep := .start,
      roundOpen := false, qualifying := false, roundCounter := 0, firstRound := false, grantCount := 0,
      meterMiss := 0, txd := [] }
  run :=
    { state := .idle, hostPause := false, thermalPause := false, holdTimer := none, holdExpired := false,
      overdraw := 0, abortCause := none, invalidReason := none, invalidDetail := none }
  alloc := { baseLoad := 0, importCeiling := 0, binding := .held, exportCeiling := 0, passRequested := false }
  clock := { time := none, seconds := 0 }
  tickets := []
  pledges := []
  reserve := { yieldList := [], curtailCommitment := 0, readinessYield := 0, exportCommitment := 0 }
  grid :=
    { tripLevel := .released, tripCount := 0, tripLatch := false, tripAck := false, stopLevel := .released,
      stopCount := 0, stopLatch := false, clearRemembered := false, sag := false, lowCount := 0 }
  attention := { flags := flags, armed := true }
  supervision := { condition := .disarmed, remaining := 0, fallback := false }
  profile := profile
  store := { image := image, write := none }
  freeIndex := freeIndex
  pending := queue

/-- The machine right after reset: POWER_ON of a part whose image has never been saved (log entry 11), so that the
defaults are taken and PROFILE_DEFAULTED, cause 13, is pending (R163). -/
def State.reset : State := State.afterPowerOn Profile.defaults [] 0x1000#14 [] 0 []

end Sys2Proof.Machine
end

