-- ==== Sys2Proof/Machine/Ops.lean ====
section
/-! DEFINITION. The shared operations: tables in ascending key, records by key, powers in their two directions, sorting,
depot time, the setting of targets (R54, R79, R92), attention raises (R156), and a command's outcome. -/

namespace Sys2Proof.Machine

/-! ## Bytes of words (11, introduction: most significant byte first) -/

/-- A 16-bit word of two bytes. -/
def joinHalf (hi lo : Byte) : Half := hi ++ lo

/-- The more significant byte of a 16-bit word. -/
def hiByte (h : Half) : Byte := h.extractLsb' 8 8

/-- The less significant byte of a 16-bit word. -/
def loByte (h : Half) : Byte := h.extractLsb' 0 8

/-- A 32-bit value of four bytes. -/
def joinValue (a b c d : Byte) : Value := a ++ b ++ c ++ d

/-- The four bytes of a value. -/
def valueBytes (v : Value) : List Byte :=
  [v.extractLsb' 24 8, v.extractLsb' 16 8, v.extractLsb' 8 8, v.extractLsb' 0 8]

/-- The two bytes of a number sent as a 16-bit word. -/
def halfBytes (n : Nat) : List Byte := [hiByte (BitVec.ofNat 16 n), loByte (BitVec.ofNat 16 n)]

/-! ## Tables: records in ascending key, no key twice -/

/-- A record put in its place by key. -/
def insertByKey {α : Type} (key : α → Nat) (x : α) : List α → List α
  | [] => [x]
  | y :: ys => if key x < key y then x :: y :: ys else y :: insertByKey key x ys

/-- The table without the record of a key. -/
def eraseKey {α : Type} (key : α → Nat) (k : Nat) (l : List α) : List α := l.filter fun x => key x != k

/-- The table with the record of a key changed. -/
def updateKey {α : Type} (key : α → Nat) (k : Nat) (f : α → α) (l : List α) : List α :=
  l.map fun x => if key x == k then f x else x

/-- The record of a key. -/
def findKey {α : Type} (key : α → Nat) (k : Nat) (l : List α) : Option α := l.find? fun x => key x == k

/-- The table form: keys strictly rising. -/
def keysRising {α : Type} (key : α → Nat) : List α → Bool
  | [] => true
  | [_] => true
  | x :: y :: rest => decide (key x < key y) && keysRising key (y :: rest)

/-- Insertion of one element into a list that is in order. -/
def insertSorted {α : Type} (before : α → α → Bool) (x : α) : List α → List α
  | [] => [x]
  | y :: ys => if before x y then x :: y :: ys else y :: insertSorted before x ys

/-- The list in order, by insertion from the right, so that equal elements keep their order. -/
def sortBy {α : Type} (before : α → α → Bool) : List α → List α
  | [] => []
  | x :: xs => insertSorted (fun a b => !before b a) x (sortBy before xs)

/-- The sum of a quantity over a list. -/
def sumOf {α : Type} (f : α → Nat) (l : List α) : Nat := (l.map f).sum

/-- The number of elements with a property. -/
def countOf {α : Type} (p : α → Bool) (l : List α) : Nat := (l.filter p).length

/-! ## Signed powers (00 section 5.4) -/

/-- "The import part of a signed power is the power itself when positive and 0 otherwise." -/
def importPart (power : Int) : Nat := power.toNat

/-- "The export part is the magnitude of the power when negative and 0 otherwise." -/
def exportPart (power : Int) : Nat := (-power).toNat

/-- The counted import of a berth. -/
def Berth.countedImport (b : Berth) : Nat := max (importPart b.decided) (importPart b.reported)

/-- The counted export of a berth. -/
def Berth.countedExport (b : Berth) : Nat := max (exportPart b.decided) (exportPart b.reported)

/-- The bus occupant of a berth: a FOREIGN berth's occupant is a raw vehicle id and no bus. -/
def Berth.busOccupant (b : Berth) : Option Nat := if b.state = .foreign then none else b.occupant

/-- A berth FAULTED with cause SILENT. -/
def Berth.faultedSilent (b : Berth) : Bool := b.state == .faulted && b.faultCause == some .silent

/-- R35: the foreign demand of a berth; a berth that is not FOREIGN has none. -/
def Berth.foreignDemand (p : Profile) (b : Berth) : Nat :=
  if b.state = .foreign then min p.foreignRate b.maxImport else 0

/-! ## Records by key -/

/-- The bus record of a fleet number. -/
def State.bus? (s : State) (k : Nat) : Option Bus := findKey Bus.fleet k s.buses

/-- The berth record of a berth number. -/
def State.berth? (s : State) (n : Nat) : Option Berth := findKey Berth.number n s.berths

/-- The ticket record of a ticket id. -/
def State.ticket? (s : State) (k : Nat) : Option Ticket := findKey Ticket.id k s.tickets

/-- The pledge record of a pledge id. -/
def State.pledge? (s : State) (k : Nat) : Option Pledge := findKey Pledge.id k s.pledges

/-- The state with one bus record changed. -/
def State.updBus (k : Nat) (f : Bus → Bus) (s : State) : State := { s with buses := updateKey Bus.fleet k f s.buses }

/-- The state with one berth record changed. -/
def State.updBerth (n : Nat) (f : Berth → Berth) (s : State) : State :=
  { s with berths := updateKey Berth.number n f s.berths }

/-- The state with one ticket record changed. -/
def State.updTicket (k : Nat) (f : Ticket → Ticket) (s : State) : State :=
  { s with tickets := updateKey Ticket.id k f s.tickets }

/-- The state with one pledge record changed. -/
def State.updPledge (k : Nat) (f : Pledge → Pledge) (s : State) : State :=
  { s with pledges := updateKey Pledge.id k f s.pledges }

/-! ## Totals and conditions -/

/-- The total counted import of all berths. -/
def State.totalImport (s : State) : Nat := sumOf Berth.countedImport s.berths

/-- The total counted export of all berths. -/
def State.totalExport (s : State) : Nat := sumOf Berth.countedExport s.berths

/-- R140: "A depot stop is in force while the stop latch is set." -/
def State.stopInForce (s : State) : Bool := s.grid.stopLatch

/-- R137: "A trip is in force while the trip latch is set and the profile's trip enabled is yes." -/
def State.tripInForce (s : State) : Bool := s.grid.tripLatch && s.profile.tripEnabled

/-- R53: the meter is silent from the third consecutive miss until the next valid METER. -/
def State.meterSilent (s : State) : Bool := s.line.meterMiss == 3

/-- The profile's limit of a branch. -/
def Profile.branchLimit (p : Profile) (branch : Nat) : Nat :=
  match branch with
  | 1 => p.branchLimit1
  | 2 => p.branchLimit2
  | 3 => p.branchLimit3
  | 4 => p.branchLimit4
  | _ => 0

/-! ## Depot time (R97, R98) -/

/-- A depot time as a number of minutes, day times 1440 plus minute (R165). `minutesFrom` compares two of them. -/
def DepotMoment.total (t : DepotMoment) : Nat := t.day * 1440 + t.minute

/-- The present depot time, absent while the clock is UNSET. -/
def State.now (s : State) : Option Nat := s.clock.time.map DepotMoment.total

/-- R97: the minutes from one depot time to another, below 0 when the other is the earlier. "A time on day 65535 is earlier
than any time on day 0", and the minutes between two such times run across the wrap of R98; any other two are compared as
numbers (log entry 19). -/
def minutesFrom (a b : Nat) : Int :=
  if a / 1440 = 65535 ∧ b / 1440 = 0 then (b : Int) + 94371840 - a
  else if a / 1440 = 0 ∧ b / 1440 = 65535 then (b : Int) - 94371840 - a
  else (b : Int) - a

/-- R97: one depot time is earlier than another. -/
def earlier (a b : Nat) : Bool := decide (0 < minutesFrom a b)

/-- The place of a depot time in an ascending order of depot times: the minutes to it from the present time, so that the order
runs across the wrap of R98 (log entry 19). -/
def State.timeOrder (s : State) (time : Nat) : Int :=
  match s.now with
  | some now => minutesFrom now time
  | none => time

/-- R98: the next minute; minute 1440 becomes 0 of the next day, and day 65535 advances to 0. -/
def DepotMoment.next (t : DepotMoment) : DepotMoment :=
  if t.minute + 1 < 1440 then { t with minute := t.minute + 1 }
  else { day := if t.day + 1 < 65536 then t.day + 1 else 0, minute := 0 }

/-! ## Attention raises (R156) -/

/-- The number of a cause (section 10.1). -/
def Cause.number : Cause → Nat
  | .stop => 1
  | .trip => 2
  | .sag => 3
  | .runAborted => 4
  | .meterSilent => 5
  | .berthFault => 6
  | .ticketAtRisk => 7
  | .ticketMissed => 8
  | .pledgeShort => 9
  | .pledgeComplete => 10
  | .vehicleForeign => 11
  | .fallback => 12
  | .profileDefaulted => 13
  | .linkOverrun => 14

/-- R165: "bit n − 1 standing for section or cause n". -/
def causeBit (n : Nat) : BitVec 14 := 1#14 <<< (n - 1)

/-- R156: a raise sets the cause's pending flag, whatever its enable. -/
def State.raiseCause (c : Cause) (s : State) : State :=
  { s with attention := { s.attention with flags := s.attention.flags ||| causeBit c.number } }

/-- A raise made only under a condition. -/
def State.raiseIf (raised : Bool) (c : Cause) (s : State) : State := if raised then s.raiseCause c else s

/-! ## Raising a pass (R81) and setting targets (R54, R79, R92) -/

/-- R81: "Raising a pass sets the allocator's pass requested mark to yes". -/
def State.requestPass (s : State) : State := { s with alloc := { s.alloc with passRequested := true } }

/-- A GRANT exchange with this berth is in flight (R54). -/
def State.grantInFlight (s : State) (n : Nat) : Bool :=
  match s.line.exchange with
  | some { address := a, kind := .grant _, void := _ } => a == n
  | _ => false

/-- The setting of a berth's wanted level and decided target. A change of the decided target is handed to the link
controller, which sets the grant due mark by R54. -/
def Berth.setTarget (inFlight : Bool) (wanted decided : Int) (b : Berth) : Berth :=
  { b with
    wanted := wanted
    decided := decided
    grantDue :=
      if decided = b.decided then b.grantDue
      else if inFlight || b.retryWait then false
      else decide (decided ≠ b.sent) }

/-- One berth's wanted level and decided target set, and the change handed on (R92). -/
def State.setTarget (n : Nat) (wanted decided : Int) (s : State) : State :=
  s.updBerth n (Berth.setTarget (s.grantInFlight n) wanted decided)

/-- R79, first list: the wanted level and decided target of every berth become 0. -/
def State.zeroTargets (s : State) : State :=
  { s with berths := s.berths.map fun b => b.setTarget (s.grantInFlight b.number) 0 0 }

/-- R93: the withdrawal of export at the berth a bus occupies, when its decided target is negative. -/
def State.withdrawExport (n : Nat) (k : Nat) (s : State) : State :=
  s.updBerth n fun b =>
    if b.busOccupant = some k ∧ b.decided < 0 then b.setTarget (s.grantInFlight n) 0 0 else b

/-! ## The outcome of a command -/

/-- The outcome of a command whose effect is `effect`: while the part has no power, nothing in it acts (log entry 14). -/
def ifPowered (effect : State → State) (s : State) : Host.Outcome State Fault Refusal :=
  .next (if s.powered then effect s else s)

end Sys2Proof.Machine
end

