-- ==== Sys2Proof/Machine/Operands.lean ====
section
/-! DEFINITION. Formats and encodings (chapter 11): check values, values and pairs, enumerated codes, records and profile
in LOOKUP form, request bodies, responses, frames of the berth link, and the profile image. -/

namespace Sys2Proof.Machine

/-! ## Check values (R168) -/

/-- "At each shift, when the bit shifted out was 1, the register is combined by exclusive-or with the polynomial." -/
def crcShift {w : Nat} (poly : BitVec w) : Nat → BitVec w → BitVec w
  | 0, r => r
  | n + 1, r => crcShift poly n (if r.msb then (r <<< 1) ^^^ poly else r <<< 1)

/-- CRC-8: polynomial 07h, initial value 00h. -/
def crc8 (bytes : List Byte) : BitVec 8 :=
  bytes.foldl (fun r b => crcShift 0x07#8 8 (r ^^^ b)) 0x00#8

/-- CRC-16: polynomial 1021h, initial value FFFFh; each byte goes into the most significant eight bits. -/
def crc16 (bytes : List Byte) : BitVec 16 :=
  bytes.foldl (fun r b => crcShift 0x1021#16 8 (r ^^^ joinHalf b 0#8)) 0xFFFF#16

/-! ## Values and codes (R165) -/

/-- "The code 80000000h is the no-value code." -/
def noValue : Value := 0x80000000#32

/-- A quantity as a value, two's complement. -/
def encodeInt (v : Int) : Value := BitVec.ofInt 32 v

/-- A field as a value: an absent field is the no-value code (R166). -/
def encodeField : Option Int → Value
  | some v => encodeInt v
  | none => noValue

/-- yes 1, no 0. -/
def yesNo (b : Bool) : Int := if b then 1 else 0

/-- A number that may be absent, as a field. -/
def optNat (o : Option Nat) : Option Int := o.map Int.ofNat

/-- Values without identifiers, four bytes each. -/
def valuesBody (fields : List (Option Int)) : List Byte := fields.flatMap fun f => valueBytes (encodeField f)

/-- Pairs of identifier and value, five bytes each. -/
def pairsBody (items : List (Nat × Option Int)) : List Byte :=
  items.flatMap fun p => BitVec.ofNat 8 p.1 :: valueBytes (encodeField p.2)

/-- RELEASED 0, ASSERTED 1. -/
def levelCode : Level → Int
  | .released => 0
  | .asserted => 1

/-- Section 1.1's order. -/
def BusState.code : BusState → Int
  | .away => 0
  | .attached => 1

/-- Section 1.1's order. -/
def Band.code : Band → Int
  | .frozen => 0
  | .cold => 1
  | .normal => 2
  | .hot => 3

/-- Section 1.1's order. -/
def Freshness.code : Freshness → Int
  | .noReport => 0
  | .fresh => 1
  | .stale => 2

/-- Section 2.1's order. -/
def BerthState.code : BerthState → Int
  | .vacant => 0
  | .awaitingId => 1
  | .occupied => 2
  | .foreign => 3
  | .faulted => 4
  | .outOfService => 5

/-- Section 2.1's order. -/
def ForeignReason.code : ForeignReason → Int
  | .unknown => 0
  | .duplicate => 1

/-- Section 2.1's order. -/
def FaultCause.code : FaultCause → Int
  | .silent => 0
  | .dispenser => 1
  | .refused => 2

/-- Chapter 3's order. -/
def LineCondition.code : LineCondition → Int
  | .frames => 0
  | .brk => 1
  | .preamble => 2

/-- Section 4.1's order. -/
def RunState.code : RunState → Int
  | .idle => 0
  | .starting => 1
  | .running => 2
  | .paused => 3

/-- Section 4.1's order; "a value listed as absent is not counted". -/
def AbortCause.code : AbortCause → Int
  | .meterSilent => 0
  | .overdraw => 1

/-- Section 4.1's order. -/
def InvalidReason.code : InvalidReason → Int
  | .clockUnset => 0
  | .noBerth => 1
  | .branchLimit => 2
  | .sharedPlace => 3

/-- Section 5.1's order. -/
def BindingTerm.code : BindingTerm → Int
  | .feeder => 0
  | .curtail => 1
  | .trip => 2
  | .held => 3

/-- Section 6.2's order. -/
def TicketState.code : TicketState → Int
  | .opened => 0
  | .assigned => 1
  | .released => 2
  | .missed => 3

/-- Section 6.2's order. -/
def TicketGrade.code : TicketGrade → Int
  | .unknown => 0
  | .atRisk => 1
  | .onTrack => 2
  | .ready => 3

/-- Section 7.1's order. -/
def PledgeKind.code : PledgeKind → Int
  | .curtail => 0
  | .exporting => 1

/-- Section 7.1's order. -/
def PledgeState.code : PledgeState → Int
  | .booked => 0
  | .armed => 1
  | .active => 2
  | .complete => 3

/-- Section 7.1's order. -/
def Forecast.code : Forecast → Int
  | .covered => 0
  | .shortForecast => 1

/-- Section 7.1's order. -/
def PledgeGrade.code : PledgeGrade → Int
  | .meeting => 0
  | .short => 1

/-- Section 7.1's order. -/
def PledgeOutcome.code : PledgeOutcome → Int
  | .met => 0
  | .short => 1
  | .withdrawn => 2
  | .lapsed => 3
  | .unattended => 4

/-- Section 10.2's order. -/
def TimerCondition.code : TimerCondition → Int
  | .off => 0
  | .disarmed => 1
  | .counting => 2
  | .expired => 3

/-- Section 10.3.1's order. -/
def TripMode.code : TripMode → Int
  | .edge => 0
  | .edgeLevel => 1

/-! ## Records in LOOKUP form: every field in identifier order (R165, section 11.1.4) -/

/-- Identifiers 1 to 16 of a bus. -/
def Bus.values (b : Bus) : List (Option Int) :=
  [some b.fleet, some b.capacity, some b.rateCap, some (yesNo b.reserveEligible), some (yesNo b.inService),
   some b.state.code, optNat b.berth, optNat b.ticket, optNat b.held, b.temperature, b.band.map Band.code,
   optNat b.acceptance, some (yesNo b.packFault), some b.freshness.code, some b.floor, some (yesNo b.exportEligible)]

/-- Identifiers 1 to 19 of a berth. -/
def Berth.values (b : Berth) : List (Option Int) :=
  [some b.number, some b.branch, some b.trench, some b.position, some b.maxImport, some b.maxExport, some b.correction,
   some (yesNo b.outOfService), some b.state.code, optNat b.occupant, b.foreignReason.map ForeignReason.code,
   b.faultCause.map FaultCause.code, optNat b.dispenserCode, some b.missCount, some b.reported, some b.wanted,
   some b.decided, some b.sent, some (yesNo b.grantDue)]

/-- Identifiers 1 to 12 of a ticket. -/
def Ticket.values (t : Ticket) : List (Option Int) :=
  [some t.id, some t.route, some t.departure, some t.need, some t.lead, some t.power, optNat t.bus, optNat t.lastBus,
   some t.state.code, t.grade.map TicketGrade.code, optNat t.projected, t.readyAtRelease.map yesNo]

/-- Identifiers 1 to 13 of a pledge. -/
def Pledge.values (p : Pledge) : List (Option Int) :=
  [some p.id, some p.kind.code, some p.start, some p.duration, some p.committed, some (yesNo p.yields),
   some p.state.code, p.forecast.map Forecast.code, p.grade.map PledgeGrade.code, some p.delivered,
   some p.shortMinutes, some p.worst, p.outcome.map PledgeOutcome.code]

/-- The cause numbers 1 to 14. -/
def causeNumbers : List Nat := [1, 2, 3, 4, 5, 6, 7, 8, 9, 10, 11, 12, 13, 14]

/-- The bit of a cause in a set of causes. -/
def hasCause (set : BitVec 14) (n : Nat) : Bool := set.getLsbD (n - 1)

/-- Identifiers 1 to 59 of the profile. -/
def Profile.values (p : Profile) : List Int :=
  ([p.feederLimit, p.branchLimit1, p.branchLimit2, p.branchLimit3, p.branchLimit4, p.reserveCeiling, p.exportCeiling,
   p.tripAllowance, p.tripMode.code, yesNo p.tripEnabled, p.sagTripLevel, p.sagReleaseMargin, p.sagCount,
   yesNo p.overdrawAbort, yesNo p.meterSilentAbort, p.overdrawTolerance, p.highRateThreshold, p.trenchQuota,
   p.spacingSections.toNat, p.startHold, p.reserveMargin, p.idleFloor, p.protectedHorizon, p.releaseWindow, p.grace,
   p.armingLead, p.coldDerate, p.warmUpPower, p.foreignRate, p.supervisionInterval, yesNo p.fallbackRun] : List Int)
  ++ causeNumbers.map (fun n => yesNo (hasCause p.enables n))
  ++ causeNumbers.map (fun n => yesNo (hasCause p.classes n))

/-- A bit of a set of causes written. -/
def putCause (set : BitVec 14) (n : Nat) (b : Bool) : BitVec 14 :=
  if b then set ||| causeBit n else set &&& ~~~ (causeBit n)

/-- One setting written by its identifier. -/
def Profile.put (ident : Nat) (v : Int) (p : Profile) : Profile :=
  match ident with
  | 1 => { p with feederLimit := v.toNat }
  | 2 => { p with branchLimit1 := v.toNat }
  | 3 => { p with branchLimit2 := v.toNat }
  | 4 => { p with branchLimit3 := v.toNat }
  | 5 => { p with branchLimit4 := v.toNat }
  | 6 => { p with reserveCeiling := v.toNat }
  | 7 => { p with exportCeiling := v.toNat }
  | 8 => { p with tripAllowance := v.toNat }
  | 9 => { p with tripMode := if v = 0 then .edge else .edgeLevel }
  | 10 => { p with tripEnabled := v == 1 }
  | 11 => { p with sagTripLevel := v.toNat }
  | 12 => { p with sagReleaseMargin := v.toNat }
  | 13 => { p with sagCount := v.toNat }
  | 14 => { p with overdrawAbort := v == 1 }
  | 15 => { p with meterSilentAbort := v == 1 }
  | 16 => { p with overdrawTolerance := v.toNat }
  | 17 => { p with highRateThreshold := v.toNat }
  | 18 => { p with trenchQuota := v.toNat }
  | 19 => { p with spacingSections := BitVec.ofNat 8 v.toNat }
  | 20 => { p with startHold := v.toNat }
  | 21 => { p with reserveMargin := v.toNat }
  | 22 => { p with idleFloor := v.toNat }
  | 23 => { p with protectedHorizon := v.toNat }
  | 24 => { p with releaseWindow := v.toNat }
  | 25 => { p with grace := v.toNat }
  | 26 => { p with armingLead := v.toNat }
  | 27 => { p with coldDerate := v.toNat }
  | 28 => { p with warmUpPower := v.toNat }
  | 29 => { p with foreignRate := v.toNat }
  | 30 => { p with supervisionInterval := v.toNat }
  | 31 => { p with fallbackRun := v == 1 }
  | _ =>
    if 32 ≤ ident ∧ ident ≤ 45 then { p with enables := putCause p.enables (ident - 31) (v == 1) }
    else if 46 ≤ ident ∧ ident ≤ 59 then { p with classes := putCause p.classes (ident - 45) (v == 1) }
    else p

/-! ## Ranges of the fields a host may write -/

/-- The value lies in a range, ends included. -/
def within (lo hi v : Int) : Bool := decide (lo ≤ v) && decide (v ≤ hi)

/-- R2, R3: the host fields of a bus and their ranges (section 1.1). -/
def busFieldFits (ident : Nat) (v : Int) : Bool :=
  match ident with
  | 2 => within 200 4000 v
  | 3 => within 10 150 v
  | 4 => within 0 1 v
  | 5 => within 0 1 v
  | _ => false

/-- R24, R25: the host fields of a berth and their ranges (section 2.1). -/
def berthFieldFits (ident : Nat) (v : Int) : Bool :=
  match ident with
  | 2 => within 1 4 v
  | 3 => within 1 8 v
  | 4 => within 1 8 v
  | 5 => within 10 150 v
  | 6 => within 0 100 v
  | 7 => within (-50) 50 v
  | 8 => within 0 1 v
  | _ => false

/-- R101, R102: the host fields of a ticket and their ranges (section 6.2); a bus of 0 is "no bus" (R104). -/
def ticketFieldFits (ident : Nat) (v : Int) : Bool :=
  match ident with
  | 2 => within 1 999 v
  | 3 => within 0 94371839 v
  | 4 => within 10 4000 v
  | 5 => within 0 120 v
  | 6 => within 0 30 v
  | 7 => within 0 9999 v
  | _ => false

/-- R114, R116: the host fields of a pledge and their ranges (section 7.1). -/
def pledgeFieldFits (ident : Nat) (v : Int) : Bool :=
  match ident with
  | 2 => within 0 1 v
  | 3 => within 0 94371839 v
  | 4 => within 15 240 v
  | 5 => within 10 2000 v
  | 6 => within 0 1 v
  | _ => false

/-- R162: the settings of the profile and their ranges (section 10.3.1). -/
def profileFieldFits (ident : Nat) (v : Int) : Bool :=
  match ident with
  | 1 => within 50 4000 v
  | 2 => within 0 4000 v
  | 3 => within 0 4000 v
  | 4 => within 0 4000 v
  | 5 => within 0 4000 v
  | 6 => within 0 4000 v
  | 7 => within 0 3200 v
  | 8 => within 0 4000 v
  | 9 => within 0 1 v
  | 10 => within 0 1 v
  | 11 => within 800 980 v
  | 12 => within 10 100 v
  | 13 => within 2 8 v
  | 14 => within 0 1 v
  | 15 => within 0 1 v
  | 16 => within 1 20 v
  | 17 => within 30 150 v
  | 18 => within 1 3 v
  | 19 => within 0 255 v
  | 20 => within 0 63 v
  | 21 => within 0 500 v
  | 22 => within 0 80 v
  | 23 => within 0 240 v
  | 24 => within 0 120 v
  | 25 => within 0 60 v
  | 26 => within 0 60 v
  | 27 => within 10 100 v
  | 28 => within 0 20 v
  | 29 => within 0 50 v
  | 30 => decide (v = 0) || within 5 600 v
  | 31 => within 0 1 v
  | _ => decide (32 ≤ ident ∧ ident ≤ 59) && within 0 1 v

/-! ## Field pairs (R152, R166) -/

/-- The identifier of a pair as a number. -/
def pairId (p : Pair) : Nat := p.ident.toNat

/-- The value a pair carries: "A pair carrying the no-value code carries no value." -/
def pairCarried (p : Pair) : Option Int := if p.value = noValue then none else some p.value.toInt

/-- The value the pairs carry for an identifier. -/
def carriedFor (pairs : List Pair) (ident : Nat) : Option Int :=
  pairs.findSome? fun p => if pairId p = ident then pairCarried p else none

/-- The pairs carry a value for an identifier. -/
def carries (pairs : List Pair) (ident : Nat) : Bool := (carriedFor pairs ident).isSome

/-- R152: an identifier appears twice; a no-value pair counts as an appearance (R166). -/
def repeats : List Nat → Bool
  | [] => false
  | x :: xs => xs.contains x || repeats xs

/-- The identifier a pair fails with, if any: one that names no field of the record, or a value the field does not take.
A no-value pair of a field of the record never fails (R166); log entry 16 for the other identifiers. -/
def failingPair (fieldCount : Nat) (fits : Nat → Int → Bool) (p : Pair) : Option Nat :=
  if pairId p = 0 ∨ fieldCount < pairId p then some (pairId p)
  else match pairCarried p with
    | none => none
    | some v => if fits (pairId p) v then none else some (pairId p)

/-- The smaller of two failing identifiers. -/
def lowest : List Nat → Option Nat
  | [] => none
  | x :: xs => match lowest xs with
    | none => some x
    | some y => some (min x y)

/-- The statuses (section 11.1.2). -/
inductive Status where
  | done | notFound | existsAlready | full | busy | inUse | conflict | badField | badState | badRequest
  | clockUnset | overCeiling | segmentMismatch | lengthMismatch
  deriving DecidableEq, Repr

/-- The status codes of the response head. -/
def Status.code : Status → Nat
  | .done => 0
  | .notFound => 1
  | .existsAlready => 2
  | .full => 3
  | .busy => 4
  | .inUse => 5
  | .conflict => 6
  | .badField => 7
  | .badState => 8
  | .badRequest => 9
  | .clockUnset => 10
  | .overCeiling => 11
  | .segmentMismatch => 12
  | .lengthMismatch => 13

/-- R152: the check of a body of pairs: a repeated identifier first, then the first failing field in field-identifier
order, where a required field that is not carried fails, and so does each identifier of `alsoFailing`. -/
def checkPairs (fieldCount : Nat) (fits : Nat → Int → Bool) (required alsoFailing : List Nat) (pairs : List Pair) :
    Option (Status × Nat) :=
  if repeats (pairs.map pairId) then some (.badRequest, 0)
  else (lowest (pairs.filterMap (failingPair fieldCount fits)
      ++ required.filter (fun i => !carries pairs i) ++ alsoFailing)).map fun i => (.badField, i)

/-! ## Request bodies (R151, R166, section 11.1.4) -/

/-- The eleven control functions; WITHDRAW names its pledge in the key. -/
inductive Control where
  | runStart | runStop | pause | resume | allStop | clearStop | ackTrip
  | withdraw (key : Nat)
  | setClock (pairs : List Pair)
  | saveProfile | recordsReset
  deriving DecidableEq, Repr

/-- A request, read from its head and body. -/
inductive Request where
  | lookup (table : TableId) (key : Nat)
  | list (table : TableId) (key : Nat) (count : Option Byte)
  | enrol (table : TableId) (key : Nat) (pairs : List Pair)
  | amend (table : TableId) (key : Nat) (pairs : List Pair)
  | retire (table : TableId) (key : Nat)
  | summary
  | attend (causes : List Byte)
  | control (function : Control)
  deriving DecidableEq, Repr

/-- Section 11.1.2: table 0 depot profile, 1 bus, 2 berth, 3 ticket, 4 pledge. -/
def tableCode : TableId → Byte
  | .profile => 0#8
  | .bus => 1#8
  | .berth => 2#8
  | .ticket => 3#8
  | .pledge => 4#8

/-- The table a head's byte names. -/
def tableOf (b : Byte) : Option TableId :=
  match b.toNat with
  | 0 => some .profile
  | 1 => some .bus
  | 2 => some .berth
  | 3 => some .ticket
  | 4 => some .pledge
  | _ => none

/-- A body of pairs, none when its length is not a multiple of five. -/
def parsePairs : List Byte → Option (List Pair)
  | [] => some []
  | i :: a :: b :: c :: d :: rest => (parsePairs rest).map fun ps => { ident := i, value := joinValue a b c d } :: ps
  | _ => none

/-- A CONTROL body: one function byte, 1 to 11; only SET_CLOCK carries more. -/
def parseControl (key : Nat) : List Byte → Option Control
  | [] => none
  | f :: rest =>
    match f.toNat, rest with
    | 1, [] => some .runStart
    | 2, [] => some .runStop
    | 3, [] => some .pause
    | 4, [] => some .resume
    | 5, [] => some .allStop
    | 6, [] => some .clearStop
    | 7, [] => some .ackTrip
    | 8, [] => some (.withdraw key)
    | 9, rest => (parsePairs rest).map Control.setClock
    | 10, [] => some .saveProfile
    | 11, [] => some .recordsReset
    | _, _ => none

/-- A LIST body: empty, or one count byte. -/
def parseList (table : TableId) (key : Nat) : List Byte → Option Request
  | [] => some (.list table key none)
  | [count] => some (.list table key (some count))
  | _ => none

/-- The request a head and a body spell; none where the kind, the table or the form of the body is not one of R151's. -/
def parseRequest (h : RequestHead) (body : List Byte) : Option Request :=
  match h.kind.toNat with
  | 1 => if body.isEmpty then (tableOf h.table).map (Request.lookup · h.key.toNat) else none
  | 2 => (tableOf h.table).bind fun t => parseList t h.key.toNat body
  | 3 => (tableOf h.table).bind fun t => (parsePairs body).map (Request.enrol t h.key.toNat)
  | 4 => (tableOf h.table).bind fun t => (parsePairs body).map (Request.amend t h.key.toNat)
  | 5 => if body.isEmpty then (tableOf h.table).map (Request.retire · h.key.toNat) else none
  | 6 => if body.isEmpty then some .summary else none
  | 7 => some (.attend body)
  | 8 => (parseControl h.key.toNat body).map Request.control
  | _ => none

/-- R153, R166: a LIST count of 0 or above 64 is refused; without one the count is 64. -/
def listCount : Option Byte → Nat
  | none => 64
  | some c => c.toNat

/-- R158: "a list of 0 to 14 cause numbers, without duplicates"; a number outside 1 to 14 makes the body malformed. -/
def causesFit (causes : List Byte) : Bool :=
  (causes.all fun c => within 1 14 c.toNat) && !repeats (causes.map BitVec.toNat)

/-- The rest of the head check of R151 and R166: which kinds apply to the profile, and how many pairs, keys or causes. -/
def Request.formOk : Request → Bool
  | .lookup _ _ => true
  | .list t _ c => t != .profile && within 1 64 (listCount c)
  | .enrol t _ ps => t != .profile && decide (ps.length ≤ 24)
  | .amend _ _ ps => decide (1 ≤ ps.length) && decide (ps.length ≤ 24)
  | .retire t _ => t != .profile
  | .summary => true
  | .attend cs => causesFit cs
  | .control _ => true

/-- The bytes of pairs. -/
def pairBytes (pairs : List Pair) : List Byte := pairs.flatMap fun p => p.ident :: valueBytes p.value

/-- The body of a CONTROL request. -/
def Control.body : Control → List Byte
  | .runStart => [1#8]
  | .runStop => [2#8]
  | .pause => [3#8]
  | .resume => [4#8]
  | .allStop => [5#8]
  | .clearStop => [6#8]
  | .ackTrip => [7#8]
  | .withdraw _ => [8#8]
  | .setClock ps => 9#8 :: pairBytes ps
  | .saveProfile => [10#8]
  | .recordsReset => [11#8]

/-- The body a request carries (section 11.1.4). -/
def Request.body : Request → List Byte
  | .lookup _ _ => []
  | .list _ _ c => c.toList
  | .enrol _ _ ps => pairBytes ps
  | .amend _ _ ps => pairBytes ps
  | .retire _ _ => []
  | .summary => []
  | .attend cs => cs
  | .control f => f.body

/-! ## Responses (section 11.1.2, 11.1.4) -/

/-- The response head and body: status, kind, table, key, failing field, body length. -/
def responseBytes (status : Status) (h : RequestHead) (failing : Nat) (body : List Byte) : List Byte :=
  [BitVec.ofNat 8 status.code, h.kind, h.table, hiByte h.key, loByte h.key, BitVec.ofNat 8 failing]
    ++ halfBytes body.length ++ body

/-- An owner's answer: the status, the failing field it names or 0, the response body, and the state it leaves. -/
structure Answer where
  status : Status
  failing : Nat
  body : List Byte
  state : State

/-- A refusal of a request: nothing changes (R2, R152). -/
def refuse (status : Status) (failing : Nat) (s : State) : Answer :=
  { status := status, failing := failing, body := [], state := s }

/-- R153: the keys at or above the start key, up to the count, and the "more" mark. -/
def listBody (keys : List Nat) (start count : Nat) : List Byte :=
  let above := keys.filter fun k => decide (start ≤ k)
  let shown := above.take count
  BitVec.ofNat 8 shown.length :: shown.flatMap halfBytes ++ [if above.length > count then 1#8 else 0#8]

/-! ## Characters of the berth link (R42) -/

/-- The level of a data bit: a bit that is set is at mark, as the address mark's name has it (log entry 42). -/
def bitLevel (bit : Bool) : BitLevel := if bit then .mark else .space

/-- R42: the eleven bit times of a character: a start bit at space, eight data bits least significant first, the address
mark, and a stop bit at mark. -/
def charLevels (c : TxChar) : List BitLevel :=
  .space :: (List.range 8).map (fun i => bitLevel (c.byte.getLsbD i)) ++ [bitLevel c.mark, .mark]

/-- The byte of data bits, the least significant first. -/
def byteOfLevels (bits : List BitLevel) : Byte :=
  BitVec.ofNat 8 (bits.foldr (fun l n => (if l = .mark then 1 else 0) + 2 * n) 0)

/-- R42: the character that eleven bit times carry, none where they do not begin with a start bit. "A received character
whose stop bit is at space is a framing error." -/
def readChar : List BitLevel → Option RxChar
  | [.space, d0, d1, d2, d3, d4, d5, d6, d7, addressMark, stop] =>
    some
      { byte := byteOfLevels [d0, d1, d2, d3, d4, d5, d6, d7], mark := addressMark == .mark
        framingError := stop == .space }
  | _ => none

/-- R42: the bit times of a frame, each character following the one before it. -/
def frameLevels (frame : List TxChar) : List BitLevel := frame.flatMap charLevels

/-! ## Frames of the berth link (R43, R44, section 11.2) -/

/-- A request frame: the address character alone carries the address mark; the CRC-8 comes last (R42, R43, R168). -/
def requestFrame (address : Nat) (kind : Byte) (body : List Byte) : List TxChar :=
  let covered := BitVec.ofNat 8 address :: kind :: BitVec.ofNat 8 body.length :: body
  match covered ++ [crc8 covered] with
  | [] => []
  | first :: rest => { byte := first, mark := true } :: rest.map fun b => { byte := b, mark := false }

/-- The POLL frame: code 01h, empty body. -/
def pollFrame (address : Nat) : List TxChar := requestFrame address 0x01#8 []

/-- The GRANT frame: code 02h, the target as a signed 16-bit word. -/
def grantFrame (address : Nat) (target : Int) : List TxChar :=
  requestFrame address 0x02#8 [hiByte (BitVec.ofInt 16 target), loByte (BitVec.ofInt 16 target)]

/-- A reply, with its responder address. -/
inductive Reply where
  | status (responder : Byte) (body : StatusBody)
  | meter (responder : Byte) (body : MeterBody)
  | confirm (responder : Byte) (body : ConfirmBody)
  deriving DecidableEq, Repr

/-- A reply body read by its kind and its length (section 11.2). -/
def parseReplyBody (responder kind : Byte) (body : List Byte) : Option Reply :=
  match kind.toNat, body with
  | 0x81, [c, v1, v0, o1, o0, f] =>
    some (.status responder
      { connector := c, vehicle := joinHalf v1 v0, output := joinHalf o1 o0, faultCode := f, pack := none })
  | 0x81, [c, v1, v0, o1, o0, f, e1, e0, t, a, pf] =>
    some (.status responder
      { connector := c, vehicle := joinHalf v1 v0, output := joinHalf o1 o0, faultCode := f,
        pack := some { energy := joinHalf e1 e0, temperature := t, acceptance := a, packFault := pf } })
  | 0x82, [m1, m0, v1, v0, t] =>
    some (.meter responder { measured := joinHalf m1 m0, voltage := joinHalf v1 v0, transformer := t })
  | 0x83, [a, o1, o0] => some (.confirm responder { accepted := a, output := joinHalf o1 o0 })
  | _, _ => none

/-- R44 on received characters: no framing error, no address mark, a length of the kind, a CRC-8 that matches.
Characters after the frame's last one belong to no reply. -/
def parseReply (chars : List RxChar) : Option Reply :=
  match chars with
  | a :: k :: l :: rest =>
    let frame := chars.take (l.byte.toNat + 4)
    let covered := (frame.take (l.byte.toNat + 3)).map RxChar.byte
    let body := (rest.take l.byte.toNat).map RxChar.byte
    if (frame.all fun c => !c.framingError && !c.mark)
        && frame.length == l.byte.toNat + 4
        && (frame.getLast?.map RxChar.byte == some (crc8 covered)) then
      parseReplyBody a.byte k.byte body
    else none
  | _ => none

/-! ## The profile image (section 10.3.2, R163, R168; the layout is log entry 10's) -/

/-- A berth record as enrolled (R25) or as loaded from the image (R41). -/
def newBerth (number branch trench position maxImport maxExport : Nat) (correction : Int) (outOfService : Bool) : Berth where
  number := number
  branch := branch
  trench := trench
  position := position
  maxImport := maxImport
  maxExport := maxExport
  correction := correction
  outOfService := outOfService
  state := if outOfService then .outOfService else .vacant
  occupant := none
  foreignReason := none
  faultCause := none
  dispenserCode := none
  missCount := 0
  reported := 0
  wanted := 0
  decided := 0
  sent := 0
  grantDue := false
  retryWait := false

/-- What the image holds of a berth: its number, its six topology fields and its out-of-service setting. -/
def Berth.imageFields (b : Berth) : List Int :=
  [b.number, b.branch, b.trench, b.position, b.maxImport, b.maxExport, b.correction, yesNo b.outOfService]

/-- The image of a profile and of berth records, its CRC-16 last, most significant byte first. -/
def imageBytes (p : Profile) (berths : List Berth) : List Byte :=
  let content := (p.values ++ berths.flatMap Berth.imageFields).flatMap fun v => valueBytes (encodeInt v)
  content ++ [hiByte (crc16 content), loByte (crc16 content)]

/-- The values of an image's content, none when its length is no multiple of four. -/
def contentValues : List Byte → Option (List Int)
  | [] => some []
  | a :: b :: c :: d :: rest => (contentValues rest).map fun vs => (joinValue a b c d).toInt :: vs
  | _ => none

/-- R163: every setting lies within its range; the settings read in identifier order. -/
def readSettings : Nat → List Int → Profile → Option Profile
  | _, [], p => some p
  | ident, v :: vs, p => if profileFieldFits ident v then readSettings (ident + 1) vs (p.put ident v) else none

/-- R163: the berth entries, each with a number from 1 to 32 and fields within their ranges. An out-of-service value that is
neither 0 nor 1 sets the image aside whole, like a topology field out of its range (log entry 10, the model's choice). -/
def readBerths : List Int → Option (List Berth)
  | [] => some []
  | n :: b :: t :: q :: mi :: me :: c :: o :: rest =>
    if within 1 32 n && berthFieldFits 2 b && berthFieldFits 3 t && berthFieldFits 4 q && berthFieldFits 5 mi
        && berthFieldFits 6 me && berthFieldFits 7 c && berthFieldFits 8 o then
      (readBerths rest).map fun bs => newBerth n.toNat b.toNat t.toNat q.toNat mi.toNat me.toNat c (o == 1) :: bs
    else none
  | _ => none

/-- R163: what an accepted image holds; none when any of its checks fails. -/
def loadImage (image : List Byte) : Option (Profile × List Berth) :=
  let content := image.take (image.length - 2)
  if 2 ≤ image.length ∧ image.drop (image.length - 2) = [hiByte (crc16 content), loByte (crc16 content)] then
    (contentValues content).bind fun vs =>
      if vs.length < 59 then none
      else (readSettings 1 (vs.take 59) Profile.defaults).bind fun p =>
        (readBerths (vs.drop 59)).bind fun bs =>
          if repeats (bs.map Berth.number) then none
          else some (p, sortBy (fun x y => decide (x.number < y.number)) bs)
  else none

end Sys2Proof.Machine
end

