-- ==== Sys2Proof/Machine/Flags.lean ====
section
/-! DEFINITION. The attention flags and what is read from them (section 10.1), and the link status byte (R145). -/

namespace Sys2Proof.Machine

/-- R157: the flags that drive ATTN, pending and enabled. -/
def State.drivingFlags (s : State) : BitVec 14 := s.attention.flags &&& s.profile.enables

/-- R157: "ATTN is asserted while at least one cause whose enable is yes has its pending flag set". A part without power is taken
to release it, whatever flags the state still holds (log entry 14, the model's choice). -/
def State.attn (s : State) : Bool := s.powered && s.drivingFlags != 0#14

/-- R158: enabled pending causes of class URGENT in ascending number, then those of class ROUTINE. -/
def State.firstPending (s : State) : Option Nat :=
  match causeNumbers.find? fun n => hasCause s.drivingFlags n && !hasCause s.profile.classes n with
  | some n => some n
  | none => causeNumbers.find? fun n => hasCause s.drivingFlags n

/-- R158, step 1: the pending flag of every cause in the set becomes clear. -/
def State.acknowledge (causes : List Byte) (s : State) : State :=
  { s with
    attention :=
      { s.attention with flags := causes.foldl (fun f c => f &&& ~~~ (causeBit c.toNat)) s.attention.flags } }

/-- R159: the flags that survive a records reset, STOP, TRIP and SAG. -/
def survivingCauses : BitVec 14 := 0x0007#14

/-- The code of the fault-episode arm, "armed, disarmed" in the order section 10.1 lists them (log entry 26). -/
def armCode (armed : Bool) : Int := if armed then 0 else 1

/-- SUMMARY items 113 to 116 (R159), which are also the body of an ATTEND response. -/
def State.attentionItems (s : State) : List (Nat × Option Int) :=
  [(113, some s.attention.flags.toNat), (114, optNat s.firstPending), (115, some (yesNo s.attn)),
   (116, some (armCode s.attention.armed))]

/-- Section 11.1.1: link state 0 READY, 1 ASSEMBLING, 2 WORKING, 3 RESPONSE_WAITING. -/
def LinkState.code : LinkState → Byte
  | .ready => 0#8
  | .assembling => 1#8
  | .working => 2#8
  | .responseWaiting => 3#8

/-- Section 11.1.1: bits 7 to 4 always 1010, bit 3 the ATTN mirror, bit 2 OVERRUN, bits 1 to 0 the link state. -/
def State.statusByte (s : State) : Byte :=
  0xA0#8 ||| (if s.attn then 0x08#8 else 0#8) ||| (if s.depot.overrun then 0x04#8 else 0#8) ||| s.depot.state.code

/-- The fill byte of MISO, FFh. -/
def fill (n : Nat) : List Byte := List.replicate n 0xFF#8

end Sys2Proof.Machine
end

