-- ==== Sys2Proof/Machine/BusTable.lean ====
section
/-! DEFINITION. The bus table's derived fields (R11, R14 to R20), pack report intake (R9 to R13) and storage totals (R21). -/

namespace Sys2Proof.Machine

/-- The ticket a bus record names. -/
def State.ticketOf (s : State) (b : Bus) : Option Ticket := b.ticket.bind s.ticket?

/-- The berth a bus record names. -/
def State.berthOf (s : State) (b : Bus) : Option Berth := b.berth.bind s.berth?

/-- R14: with a ticket, its need plus the reserve margin, clipped to the capacity; without, the idle floor percentage of
the capacity, rounded up. -/
def floorFor (p : Profile) (ticket : Option Ticket) (b : Bus) : Nat :=
  match ticket with
  | some t => min (t.need + p.reserveMargin) b.capacity
  | none => (p.idleFloor * b.capacity + 99) / 100

/-- R15: the preheat power from departure less lead, inclusive, to departure, exclusive. -/
def preheatTerm (now : Option Nat) (ticket : Option Ticket) : Nat :=
  match now, ticket with
  | some n, some t => if minutesFrom n t.departure ≤ t.lead ∧ earlier n t.departure then t.power else 0
  | _, _ => 0

/-- R15: the warm-up power while the band is FROZEN. -/
def warmUpTerm (p : Profile) (b : Bus) : Nat := if b.band = some .frozen then p.warmUpPower else 0

/-- R15: the thermal demand. -/
def thermalFor (p : Profile) (now : Option Nat) (ticket : Option Ticket) (berth : Option Berth) (b : Bus) : Nat :=
  match berth with
  | none => 0
  | some br =>
    if b.state = .attached ∧ b.inService ∧ b.packFault = false ∧ b.band ≠ some .hot then
      min (max (warmUpTerm p b) (preheatTerm now ticket)) (min b.rateCap br.maxImport)
    else 0

/-- R16: the band limit of a COLD bus, its acceptance times the cold derate, rounded down; a NORMAL bus has none. -/
def bandLimit (p : Profile) (b : Bus) (limit : Nat) : Nat :=
  if b.band = some .cold then min limit (b.acceptance.getD 0 * p.coldDerate / 100) else limit

/-- R16: the charge demand, of a bus whose thermal demand is `thermal`. -/
def chargeFor (p : Profile) (berth : Option Berth) (thermal : Nat) (b : Bus) : Nat :=
  match berth with
  | none => 0
  | some br =>
    if b.state = .attached ∧ b.inService ∧ b.packFault = false ∧ b.freshness = .fresh ∧ b.band ≠ some .frozen
        ∧ b.band ≠ some .hot ∧ b.held ≠ some b.capacity then
      bandLimit p b (min b.rateCap (min (b.acceptance.getD 0) br.maxImport)) - thermal
    else 0

/-- R19: the departure lies within the protected horizon: the present time is at or later than the departure less it. -/
def inHorizon (p : Profile) (now : Option Nat) (ticket : Option Ticket) : Bool :=
  match now, ticket with
  | some n, some t => decide (minutesFrom n t.departure ≤ p.protectedHorizon)
  | _, _ => false

/-- R18: export eligibility, of a bus whose floor is `floor`. -/
def eligibleFor (p : Profile) (now : Option Nat) (ticket : Option Ticket) (berth : Option Berth) (floor : Nat)
    (b : Bus) : Bool :=
  match berth, b.held with
  | some br, some h =>
    b.state == .attached && b.inService && b.reserveEligible && br.state == .occupied && !b.packFault
      && b.freshness == .fresh && b.band == some .normal && decide (floor < h) && decide (0 < br.maxExport)
      && !inHorizon p now ticket
  | _, _ => false

/-- The derived fields of a bus, computed from the records as they stand (R14 to R19). -/
def State.deriveBus (s : State) (b : Bus) : Bus :=
  let ticket := s.ticketOf b
  let berth := s.berthOf b
  let floor := floorFor s.profile ticket b
  let thermal := thermalFor s.profile s.now ticket berth b
  { b with
    floor := floor
    thermal := thermal
    charge := chargeFor s.profile berth thermal b
    exportEligible := eligibleFor s.profile s.now ticket berth floor b }

/-- R17: the derived fields whose change raises a pass. -/
def Bus.demandView (b : Bus) : Nat × Nat × Bool := (b.thermal, b.charge, b.exportEligible)

/-- R20: a bus that has changed from export eligible to not, with the berth it is on. -/
def State.lostExport (s : State) (b : Bus) : Option (Nat × Nat) :=
  if b.exportEligible && !(s.deriveBus b).exportEligible then b.berth.map fun n => (n, b.fleet) else none

/-- Every bus's derived fields recomputed: each loss of export eligibility is handed on and withdraws a negative target
at once (R20, R93), and a change of a demand term or of eligibility raises a pass (R17). -/
def State.refreshBuses (s : State) : State :=
  let derived := { s with buses := s.buses.map s.deriveBus }
  let withdrawn := (s.buses.filterMap s.lostExport).foldl (fun t x => t.withdrawExport x.1 x.2) derived
  if s.buses.any fun b => (s.deriveBus b).demandView != b.demandView then withdrawn.requestPass else withdrawn

/-! ## Attachment and detachment seen from the bus (R6, R7, R13) -/

/-- R13: FRESH becomes STALE; NONE and STALE stay. -/
def Freshness.staled : Freshness → Freshness
  | .fresh => .stale
  | .stale => .stale
  | .noReport => .noReport

/-- R6: the bus becomes ATTACHED at a berth, and a FRESH bus becomes STALE. -/
def Bus.attach (n : Nat) (b : Bus) : Bus :=
  { b with state := .attached, berth := some n, freshness := b.freshness.staled }

/-- R7: the bus becomes AWAY with its berth field absent; its pack fields and freshness keep their values. -/
def Bus.detach (b : Bus) : Bus := { b with state := .away, berth := none }

/-- R13, R37: the bus at a berth's third consecutive miss. -/
def Bus.goStale (b : Bus) : Bus := { b with freshness := b.freshness.staled }

/-! ## Pack reports (R9 to R13) -/

/-- R11: the band of a temperature. -/
def bandOf (t : Int) : Band :=
  if t ≤ -21 then .frozen else if t ≤ 4 then .cold else if t ≤ 44 then .normal else .hot

/-- R11: a temperature limited to −40 to 85 °C. -/
def limitTemperature (t : Int) : Int := max (-40) (min 85 t)

/-- R10 to R13: a taken pack report. -/
def Bus.takePack (pack : PackData) (b : Bus) : Bus :=
  let t := limitTemperature pack.temperature.toInt
  { b with
    held := some (min pack.energy.toNat b.capacity)
    temperature := some t
    band := some (bandOf t)
    acceptance := some (min pack.acceptance.toNat 150)
    packFault := pack.packFault != 0#8
    freshness := .fresh }

/-- R9: the pack data of a STATUS is taken by the occupant when the replying berth is then OCCUPIED, and discarded otherwise. -/
def State.takePackData (n : Nat) (pack : Option PackData) (s : State) : State :=
  match pack, s.berth? n with
  | some p, some b =>
    match b.state, b.occupant with
    | .occupied, some k => s.updBus k (Bus.takePack p)
    | _, _ => s
  | _, _ => s

/-! ## Storage totals (R21), as SUMMARY items 1 to 8 -/

/-- A bus's share of the available reserve energy. -/
def Bus.reserveEnergy (b : Bus) : Nat := if b.exportEligible then b.held.getD 0 - b.floor else 0

/-- R21: the storage totals. -/
def State.storageItems (s : State) : List (Nat × Option Int) :=
  [(1, some s.buses.length), (2, some (Config.busSlots - s.buses.length : Nat)),
   (3, some (countOf (fun b => b.state == .away) s.buses)), (4, some (countOf (fun b => b.state == .attached) s.buses)),
   (5, some (countOf (fun b => b.held.isSome) s.buses)), (6, some (countOf Bus.exportEligible s.buses)),
   (7, some (sumOf (fun b => b.held.getD 0) s.buses)), (8, some (sumOf Bus.reserveEnergy s.buses))]

end Sys2Proof.Machine
end

