-- ==== Sys2Proof/Machine/TicketTable.lean ====
section
/-! DEFINITION. Readiness (R107 to R109), release and missed (R110, R111) and the links between tickets and buses (R104). -/

namespace Sys2Proof.Machine

/-- The ticket is ASSIGNED. -/
def Ticket.isAssigned (t : Ticket) : Bool := t.state == .assigned

/-- R107: the charge component, the import part of the berth's decided target less the thermal demand, 0 when AWAY. -/
def chargeComponent (berth : Option Berth) (b : Bus) : Nat :=
  match berth with
  | none => 0
  | some br => if b.state = .attached then importPart br.decided - b.thermal else 0

/-- R107: minutes to departure, 0 when the present time is at or after it. -/
def minutesTo (now : Option Nat) (departure : Nat) : Nat :=
  match now with
  | some n => (minutesFrom n departure).toNat
  | none => 0

/-- R107: the projected energy, absent while the held energy is. -/
def projectedFor (now : Option Nat) (t : Ticket) (berth : Option Berth) (b : Bus) : Option Nat :=
  b.held.map fun h => min b.capacity (h + chargeComponent berth b * minutesTo now t.departure / 6)

/-- R108: the grade. -/
def gradeFor (t : Ticket) (b : Bus) (projected : Option Nat) : TicketGrade :=
  match b.held, projected with
  | some h, some p =>
    if b.freshness = .stale then .unknown
    else if t.need ≤ h then .ready
    else if t.need ≤ p then .onTrack
    else .atRisk
  | _, _ => .unknown

/-- R109: an ASSIGNED ticket graded afresh, projected energy and grade together; any other ticket as it is. -/
def State.gradeTicket (s : State) (t : Ticket) : Ticket :=
  if t.isAssigned then
    match t.bus.bind s.bus? with
    | some b =>
      let projected := projectedFor s.now t (s.berthOf b) b
      { t with projected := projected, grade := some (gradeFor t b projected) }
    | none => { t with projected := none, grade := some .unknown }
  else t

/-- R108: the tickets that the present grading leaves AT_RISK and that were not so before it. -/
def State.newlyAtRisk (s : State) : List Nat :=
  (s.tickets.filter fun t =>
    t.grade != some .atRisk && (s.gradeTicket t).isAssigned && (s.gradeTicket t).grade == some .atRisk).map Ticket.id

/-- R108, R109: every ASSIGNED ticket graded afresh; TICKET_AT_RISK is raised when one is newly so. -/
def State.regrade (s : State) : State :=
  ({ s with tickets := s.tickets.map s.gradeTicket } : State).raiseIf (!s.newlyAtRisk.isEmpty) .ticketAtRisk

/-- R106: what the ticket table hands to the pledge table: which tickets are ASSIGNED, with grade and projected energy. -/
def handOnView (tickets : List Ticket) : List (Nat × Option TicketGrade × Option Nat) :=
  (tickets.filter Ticket.isAssigned).map fun t => (t.id, t.grade, t.projected)

/-! ## The links of R104 -/

/-- A ticket out of ASSIGNED: "the ticket's grade and projected energy become absent" (R109). -/
def Ticket.leave (state : TicketState) (t : Ticket) : Ticket :=
  { t with state := state, bus := none, grade := none, projected := none }

/-- The bus's ticket field becomes absent (R8, R106). -/
def State.unlinkBus (k : Option Nat) (s : State) : State :=
  match k with
  | some k => s.updBus k fun b => { b with ticket := none }
  | none => s

/-- The bus's ticket field names a ticket (R8, R106). -/
def State.linkBus (k id : Nat) (s : State) : State := s.updBus k fun b => { b with ticket := some id }

/-- R110, R111: ready at release is yes when the bus's held energy is present and at or above the need. -/
def State.readyNow (s : State) (t : Ticket) : Bool :=
  match (t.bus.bind s.bus?).bind Bus.held with
  | some h => decide (t.need ≤ h)
  | none => false

/-- R110, R111: the ticket becomes RELEASED. -/
def State.releaseTicket (t : Ticket) (s : State) : State :=
  (s.updTicket t.id fun x => { x.leave .released with readyAtRelease := some (s.readyNow t) }).unlinkBus t.bus

/-- R111: the ticket becomes MISSED, and TICKET_MISSED is raised. -/
def State.missTicket (t : Ticket) (s : State) : State :=
  ((s.updTicket t.id (Ticket.leave .missed)).unlinkBus t.bus).raiseCause .ticketMissed

/-- R110: the detachment of a bus whose ticket field names an ASSIGNED ticket: within the release window the ticket is
released; before it, it stays ASSIGNED. -/
def State.ticketDetached (k : Nat) (s : State) : State :=
  match (s.bus? k).bind s.ticketOf, s.now with
  | some t, some now =>
    if t.isAssigned ∧ minutesFrom now t.departure ≤ s.profile.releaseWindow then s.releaseTicket t else s
  | _, _ => s

/-- R111: the present time is at or after the departure plus the grace. -/
def State.graceOver (now : Nat) (s : State) (t : Ticket) : Bool :=
  decide (minutesFrom now t.departure + s.profile.grace ≤ 0)

/-- R111: one ticket at a minute event. -/
def State.ticketMinute (now : Nat) (s : State) (t : Ticket) : State :=
  match t.state with
  | .opened => if s.graceOver now t then s.missTicket t else s
  | .assigned =>
    match t.bus.bind s.bus? with
    | some b =>
      match b.state with
      | .attached => if s.graceOver now t then s.missTicket t else s
      | .away => if earlier now t.departure then s else s.releaseTicket t
    | none => s
  | .released => s
  | .missed => s

/-- R111: every ticket at a minute event. -/
def State.ticketsMinute (s : State) : State :=
  match s.now with
  | some now => s.tickets.foldl (State.ticketMinute now) s
  | none => s

/-! ## What SUMMARY shows (R112), items 65 to 76 -/

/-- The number of ASSIGNED tickets with a grade. -/
def State.countGrade (s : State) (g : TicketGrade) : Nat :=
  countOf (fun t => t.isAssigned && t.grade == some g) s.tickets

/-- The number of tickets in a state. -/
def State.countTickets (s : State) (st : TicketState) : Nat := countOf (fun t => t.state == st) s.tickets

/-- SUMMARY items 66 and 67: day and minute, absent while UNSET. -/
def State.clockItems (s : State) : List (Nat × Option Int) :=
  [(66, optNat (s.clock.time.map DepotMoment.day)), (67, optNat (s.clock.time.map DepotMoment.minute))]

/-- R112: the clock's and the ticket table's SUMMARY items. -/
def State.ticketItems (s : State) : List (Nat × Option Int) :=
  (65, some (yesNo s.clock.time.isSome)) :: s.clockItems ++
  ([(68, some (s.countTickets .opened)), (69, some (s.countTickets .assigned)), (70, some (s.countTickets .released)),
   (71, some (s.countTickets .missed)), (72, some (s.countGrade .unknown)), (73, some (s.countGrade .atRisk)),
   (74, some (s.countGrade .onTrack)), (75, some (s.countGrade .ready)),
   (76, some (Config.ticketSlots - s.tickets.length : Nat))] : List (Nat × Option Int))

end Sys2Proof.Machine
end

