-- ==== Sys2Proof/Machine/PledgeTable.lean ====
section
/-! DEFINITION. The pledge table: the commitment test (R115), the minute event's steps (R118 to R124), the yield to
readiness (R125 to R127) and the values handed on (R128). -/

namespace Sys2Proof.Machine

/-- Section 7.1: "The window end is the start plus the duration". -/
def Pledge.windowEnd (p : Pledge) : Nat := p.start + p.duration

/-- Section 7.1: a window covers a minute at or after the start and before the window end. -/
def Pledge.covers (p : Pledge) (minute : Nat) : Bool := decide (p.start ≤ minute) && decide (minute < p.windowEnd)

/-- Section 7.1: "A pledge is live while it is BOOKED, ARMED or ACTIVE." -/
def Pledge.isLive (p : Pledge) : Bool := p.state != .complete

/-- ARMED or ACTIVE. -/
def Pledge.isActing (p : Pledge) : Bool := p.state == .armed || p.state == .active

/-- A CURTAIL pledge that is ARMED or ACTIVE (R77). -/
def Pledge.isCurtailing (p : Pledge) : Bool := p.kind == .curtail && p.isActing

/-- An EXPORT pledge that is ACTIVE (R78). -/
def Pledge.isExporting (p : Pledge) : Bool := p.kind == .exporting && p.state == .active

/-- A CURTAIL pledge with yields to readiness yes that is ARMED or ACTIVE (R125). -/
def Pledge.isYielding (p : Pledge) : Bool := p.isCurtailing && p.yields

/-! ## The commitment test (R115) -/

/-- The committed power of the pledges whose windows cover a minute. -/
def committedAt (set : List Pledge) (minute : Nat) : Nat :=
  sumOf Pledge.committed (set.filter fun p => p.covers minute)

/-- The committed power of the EXPORT pledges whose windows cover a minute. -/
def exportCommittedAt (set : List Pledge) (minute : Nat) : Nat :=
  sumOf Pledge.committed (set.filter fun p => p.kind == .exporting && p.covers minute)

/-- R115 on a set of live pledges. The sums rise only at window starts, so the test at each start is the test at every
covered minute (stated as CommitmentTestCoversEveryMinute; log entry 32). -/
def commitmentTest (reserveCeiling exportCeiling : Nat) (set : List Pledge) : Bool :=
  set.all fun p =>
    decide (committedAt set p.start ≤ reserveCeiling) && decide (exportCommittedAt set p.start ≤ exportCeiling)

/-! ## Yield to readiness -/

/-- R125: a ticket qualifies for the yield list. -/
def State.qualifies (s : State) (t : Ticket) : Bool :=
  match s.now, t.bus.bind s.bus? with
  | some now, some b =>
    t.isAssigned && b.state == .attached && earlier now t.departure
      && s.pledges.any fun p =>
        p.isYielding && decide (minutesFrom now t.departure ≤ minutesFrom now p.windowEnd + 60)
  | _, _ => false

/-- R125: the needed power of a ticket, rounded up to a whole kilowatt. -/
def neededPower (now : Option Nat) (t : Ticket) : Nat :=
  let minutes := minutesTo now t.departure
  ((t.need - t.projected.getD 0) * 6 + (minutes - 1)) / minutes

/-- R126, step 1: the entry stays while its ticket qualifies and is graded neither READY nor UNKNOWN. -/
def State.keepsEntry (s : State) (e : YieldEntry) : Bool :=
  match s.ticket? e.ticket with
  | some t => s.qualifies t && t.grade != some .ready && t.grade != some .unknown
  | none => false

/-- R126, step 2, top-up: a ticket newly AT_RISK in this event has its needed power added to its entry. -/
def State.topUp (s : State) (risk : List Nat) (e : YieldEntry) : YieldEntry :=
  match s.ticket? e.ticket with
  | some t => if risk.contains e.ticket then { e with power := e.power + neededPower s.now t } else e
  | none => e

/-- R126, step 2, entry: the qualifying AT_RISK tickets that have no entry. -/
def State.newEntries (s : State) (kept : List YieldEntry) : List YieldEntry :=
  (s.tickets.filter fun t =>
    s.qualifies t && t.grade == some .atRisk && !(kept.any fun e => e.ticket == t.id)).map fun t =>
      { ticket := t.id, power := neededPower s.now t }

/-- R126, step 3: the entry's power limited to its bus's charge demand. -/
def State.capEntry (s : State) (e : YieldEntry) : YieldEntry :=
  match ((s.ticket? e.ticket).bind Ticket.bus).bind s.bus? with
  | some b => { e with power := min e.power b.charge }
  | none => e

/-- R126: the yield list brought up to date; `risk` are the tickets newly AT_RISK in this event. -/
def State.updatedYields (s : State) (risk : List Nat) : List YieldEntry :=
  let kept := s.reserve.yieldList.filter s.keepsEntry
  let entered := (s.newEntries kept).foldl (fun l e => insertByKey YieldEntry.ticket e l) (kept.map (s.topUp risk))
  entered.map s.capEntry

/-- R127: the smaller of the entries' powers and the yielding pledges' committed power. -/
def readinessYield (yields : List YieldEntry) (pledges : List Pledge) : Nat :=
  min (sumOf YieldEntry.power yields) (sumOf Pledge.committed (pledges.filter Pledge.isYielding))

/-- R126 and R127 in one event. -/
def State.updateYield (risk : List Nat) (s : State) : State :=
  let yields := s.updatedYields risk
  { s with reserve := { s.reserve with yieldList := yields, readinessYield := readinessYield yields s.pledges } }

/-- R128: the curtail and export commitments handed to the allocator. -/
def State.handCommitments (s : State) : State :=
  { s with
    reserve :=
      { s.reserve with
        curtailCommitment := sumOf Pledge.committed (s.pledges.filter Pledge.isCurtailing)
        exportCommitment := sumOf Pledge.committed (s.pledges.filter Pledge.isExporting) } }

/-! ## Assessment (R122, R123) -/

/-- R122: pledges are served in ascending start and then ascending pledge id. -/
def State.servedBefore (s : State) (p q : Pledge) : Bool :=
  decide (s.timeOrder p.start < s.timeOrder q.start)
    || (s.timeOrder p.start == s.timeOrder q.start && decide (p.id < q.id))

/-- R122: each takes the smaller of its committed power and what remains. -/
def shareOut : Nat → List Pledge → List (Nat × Nat)
  | _, [] => []
  | room, p :: rest => (p.id, min p.committed room) :: shareOut (room - min p.committed room) rest

/-- R122: the curtailed power, the feeder limit less base load less counted import, 0 when below 0. -/
def State.curtailedPower (s : State) : Nat := s.profile.feederLimit - s.alloc.baseLoad - s.totalImport

/-- R122: every pledge assessed is credited with 0 when the run is IDLE or a depot stop is in force. -/
def State.unattended (s : State) : Bool := s.run.state == .idle || s.stopInForce

/-- R122: the delivered power of each pledge that is assessed, by pledge id. -/
def State.deliveries (s : State) : List (Nat × Nat) :=
  let assessed := s.pledges.filter fun p => p.state == .active
  shareOut (if s.unattended then 0 else s.curtailedPower)
      (sortBy s.servedBefore (assessed.filter fun p => p.kind == .curtail))
    ++ shareOut (if s.unattended then 0 else s.totalExport)
      (sortBy s.servedBefore (assessed.filter fun p => p.kind == .exporting))

/-- R123: the delivered power of one minute applied to a pledge. -/
def Pledge.assess (power : Nat) (p : Pledge) : Pledge :=
  if power < p.committed then
    { p with
      delivered := p.delivered + power
      shortMinutes := p.shortMinutes + 1
      worst := max p.worst (p.committed - power)
      grade := some .short }
  else { p with delivered := p.delivered + power, grade := some .meeting }

/-- R118, step 1, on one pledge. -/
def Pledge.assessIn (deliveries : List (Nat × Nat)) (p : Pledge) : Pledge :=
  match deliveries.find? fun d => d.1 == p.id with
  | some d => p.assess d.2
  | none => p

/-- R118, step 1: assessment; PLEDGE_SHORT is raised where short minutes becomes 1 (R123). -/
def State.assessPledges (s : State) : State :=
  let deliveries := s.deliveries
  ({ s with pledges := s.pledges.map (Pledge.assessIn deliveries) } : State).raiseIf
    (s.pledges.any fun p => p.shortMinutes == 0 && (p.assessIn deliveries).shortMinutes == 1) .pledgeShort

/-- R124: the entry into COMPLETE. -/
def Pledge.completeWith (outcome : PledgeOutcome) (p : Pledge) : Pledge :=
  { p with state := .complete, forecast := none, grade := none, outcome := some outcome }

/-- R119, R124: the present depot time is at or after the window end. -/
def Pledge.windowOver (now : Nat) (p : Pledge) : Bool := !earlier now p.windowEnd

/-- R124: an ACTIVE pledge whose window end has been reached. -/
def Pledge.endsNow (now : Nat) (p : Pledge) : Bool := p.state == .active && p.windowOver now

/-- R118, step 2: completion, MET when short minutes is 0 and SHORT otherwise. -/
def State.completePledges (now : Nat) (s : State) : State :=
  ({ s with
      pledges := s.pledges.map fun p =>
        if p.endsNow now then p.completeWith (if p.shortMinutes = 0 then .met else .short) else p } : State).raiseIf
    (s.pledges.any (Pledge.endsNow now)) .pledgeComplete

/-! ## Arming, forecast and activation (R119 to R121) -/

/-- R120: what a bus contributes to the forecast of a pledge. -/
def State.forecastShare (s : State) (duration : Nat) (b : Bus) : Nat :=
  if b.exportEligible then
    min (((s.berthOf b).map Berth.maxExport).getD 0) ((b.held.getD 0 - b.floor) * 6 / duration)
  else 0

/-- R120: the forecast of an ARMED pledge. -/
def State.forecastOf (s : State) (p : Pledge) : Forecast :=
  match p.kind with
  | .curtail => .covered
  | .exporting => if p.committed ≤ sumOf (s.forecastShare p.duration) s.buses then .covered else .shortForecast

/-- R119: one BOOKED pledge at a minute event. -/
def State.bookedMinute (now : Nat) (s : State) (p : Pledge) : Pledge :=
  if p.state = .booked then
    if p.windowOver now then p.completeWith .lapsed
    else if minutesFrom now p.start ≤ s.profile.armingLead then
      if s.supervision.fallback then p.completeWith .unattended
      else { p with state := .armed, forecast := some (s.forecastOf p) }
    else p
  else p

/-- R120: the forecast becomes SHORT_FORECAST. -/
def turnsShort (before after : Pledge) : Bool :=
  before.forecast != some .shortForecast && after.forecast == some .shortForecast

/-- R118, step 3: BOOKED pledges. PLEDGE_COMPLETE is raised for LAPSED and UNATTENDED, PLEDGE_SHORT for a short forecast. -/
def State.bookedPledges (now : Nat) (s : State) : State :=
  (({ s with pledges := s.pledges.map (s.bookedMinute now) } : State).raiseIf
    (s.pledges.any fun p => p.isLive && !(s.bookedMinute now p).isLive) .pledgeComplete).raiseIf
    (s.pledges.any fun p => turnsShort p (s.bookedMinute now p)) .pledgeShort

/-- R121: an ARMED pledge becomes ACTIVE; minutes of the window already past are entered as unattended. -/
def Pledge.activate (now : Nat) (p : Pledge) : Pledge :=
  if earlier p.start now then
    { p with
      state := .active, forecast := none, grade := some .short
      shortMinutes := (minutesFrom p.start now).toNat, worst := p.committed }
  else { p with state := .active, forecast := none, grade := some .meeting }

/-- R121: an ARMED pledge whose start is at or before the present depot time. -/
def Pledge.beginsNow (now : Nat) (p : Pledge) : Bool := p.state == .armed && !earlier now p.start

/-- R118, step 4: activation. -/
def State.activatePledges (now : Nat) (s : State) : State :=
  ({ s with pledges := s.pledges.map fun p => if p.beginsNow now then p.activate now else p } : State).raiseIf
    (s.pledges.any fun p => p.beginsNow now && earlier p.start now) .pledgeShort

/-- R120: an EXPORT pledge still ARMED has its forecast computed. -/
def State.reforecast (s : State) (p : Pledge) : Pledge :=
  if p.kind = .exporting ∧ p.state = .armed then { p with forecast := some (s.forecastOf p) } else p

/-- R118, step 5: forecasts. -/
def State.forecastPledges (s : State) : State :=
  ({ s with pledges := s.pledges.map s.reforecast } : State).raiseIf
    (s.pledges.any fun p => turnsShort p (s.reforecast p)) .pledgeShort

/-- R118: the pledge table's steps 1 to 6; `risk` are the tickets the ticket table has newly graded AT_RISK. -/
def State.pledgesMinute (risk : List Nat) (s : State) : State :=
  match s.now with
  | some now =>
    (((((s.assessPledges).completePledges now).bookedPledges now).activatePledges now).forecastPledges).updateYield risk
  | none => s

/-! ## What SUMMARY shows (R131), items 81 to 89 -/

/-- The number of pledges in a state. -/
def State.countPledges (s : State) (st : PledgeState) : Nat := countOf (fun p => p.state == st) s.pledges

/-- R131: the pledge table's SUMMARY items. -/
def State.pledgeItems (s : State) : List (Nat × Option Int) :=
  [(81, some (s.countPledges .booked)), (82, some (s.countPledges .armed)), (83, some (s.countPledges .active)),
   (84, some (s.countPledges .complete)), (85, some (Config.pledgeSlots - s.pledges.length : Nat)),
   (86, some s.reserve.curtailCommitment), (87, some s.reserve.exportCommitment),
   (88, some s.reserve.readinessYield), (89, some s.reserve.yieldList.length)]

end Sys2Proof.Machine
end

