-- ==== Sys2Proof/Machine/Ceilings.lean ====
section
/-! DEFINITION. The allocator's ceilings (R77, R78), what raises a pass (R80), and the end of an event: derived fields,
grades, yields, commitments, ceilings and raises settled once the event's owners have taken every field (R17, R40, R109). -/

namespace Sys2Proof.Machine

/-! ## The ceilings -/

/-- R77: both ceilings are 0 while a stop or sag is in force and while the run is not RUNNING. -/
def State.heldAtZero (s : State) : Bool := s.stopInForce || s.grid.sag || s.run.state != .running

/-- R77: the FEEDER term, the feeder import limit less the base load. -/
def State.feederTerm (s : State) : Nat := s.profile.feederLimit - s.alloc.baseLoad

/-- R77: the CURTAIL term, with the readiness yield added; a result below 0 is taken as 0. -/
def State.curtailTerm (s : State) : Nat :=
  ((s.profile.feederLimit : Int) - s.alloc.baseLoad - s.reserve.curtailCommitment + s.reserve.readinessYield).toNat

/-- R77: a term taken when it is in force and no larger than the smallest so far, so that of equal terms the later one binds. -/
def takeTerm (inForce : Bool) (value : Nat) (term : BindingTerm) (best : Nat × BindingTerm) : Nat × BindingTerm :=
  if inForce ∧ value ≤ best.1 then (value, term) else best

/-- R77: the import ceiling and its binding term; TRIP binds ahead of CURTAIL, and CURTAIL ahead of FEEDER. -/
def State.importCeilingNow (s : State) : Nat × BindingTerm :=
  if s.heldAtZero then (0, .held)
  else takeTerm s.tripInForce s.profile.tripAllowance .trip
    (takeTerm (s.pledges.any Pledge.isCurtailing) s.curtailTerm .curtail (s.feederTerm, .feeder))

/-- R78: the export ceiling, the smaller of the profile's and the ACTIVE EXPORT pledges' committed power. -/
def State.exportCeilingNow (s : State) : Nat :=
  if s.heldAtZero then 0 else min s.profile.exportCeiling s.reserve.exportCommitment

/-- R77, R78: the ceilings recomputed in the event in which an input changes. -/
def State.recomputeCeilings (s : State) : State :=
  { s with
    alloc :=
      { s.alloc with
        importCeiling := s.importCeilingNow.1, binding := s.importCeilingNow.2, exportCeiling := s.exportCeilingNow } }

/-! ## What raises a pass (R80), by comparison with the state before the event -/

/-- R17: the fields of a bus whose change raises a pass. -/
def Bus.passView (b : Bus) : (Nat × Nat × Bool) × BusState × Option Nat × Option Nat × Option Nat × Nat :=
  (b.demandView, b.state, b.berth, b.ticket, b.held, b.capacity)

/-- R17: a bus record that stood before the event and has changed in such a field. -/
def busesChanged (before after : State) : Bool :=
  after.buses.any fun b => match before.bus? b.fleet with
    | some b0 => b.passView != b0.passView
    | none => false

/-- R40: the fields of a berth whose change raises a pass; the list of numbers shows an ENROL or RETIRE. -/
def Berth.passView (p : Profile) (b : Berth) :
    Nat × BerthState × Option Nat × Option ForeignReason × Option FaultCause × Int × Nat :=
  (b.number, b.state, b.occupant, b.foreignReason, b.faultCause, b.reported, b.foreignDemand p)

/-- R40: the berth table has changed in such a field. -/
def berthsChanged (before after : State) : Bool :=
  before.berths.map (Berth.passView before.profile) != after.berths.map (Berth.passView after.profile)

/-- R76 to R78, R80: base load, ceilings and the values the pledge table hands on. -/
def State.feederView (s : State) : (Nat × Nat × BindingTerm × Nat) × Nat × Nat × Nat :=
  ((s.alloc.baseLoad, s.alloc.importCeiling, s.alloc.binding, s.alloc.exportCeiling), s.reserve.curtailCommitment,
    s.reserve.exportCommitment, s.reserve.readinessYield)

/-- R80: the raises of an event that follow from comparing the records before and after it. -/
def State.raisePasses (s before : State) : State :=
  if busesChanged before s || berthsChanged before s || before.feederView != s.feederView then s.requestPass else s

/-! ## The fault episode (R39) -/

/-- The number of berths in FAULTED. -/
def State.faultedCount (s : State) : Nat := countOf (fun b => b.state == .faulted) s.berths

/-- R39: "The episode is re-armed in the event in which the number of berths in FAULTED becomes 0". -/
def State.rearmEpisode (s before : State) : State :=
  if before.faultedCount ≠ 0 ∧ s.faultedCount = 0 then { s with attention := { s.attention with armed := true } } else s

/-! ## The end of an event -/

/-- R106, R126: the grading of the event, with the yield list brought up to date when it hands anything on. -/
def State.settleTickets (s before : State) : State :=
  let risk := s.newlyAtRisk
  let graded := s.regrade
  if handOnView before.tickets != handOnView graded.tickets then graded.updateYield risk else graded

/-- Commitments, ceilings, fault episode and raises. -/
def State.finishEvent (s before : State) : State :=
  ((s.handCommitments.recomputeCeilings).rearmEpisode before).raisePasses before

/-- The end of every event but a minute event: bus table, ticket table, then the allocator's inputs. -/
def State.closeEvent (s before : State) : State :=
  ((s.refreshBuses).settleTickets before).finishEvent before

/-- R98, R118: a minute event, with the clock already at the new time: bus table, ticket table, pledge table. While an
EXPORT pledge is ACTIVE it raises a pass (R80). -/
def State.takeMinute (s before : State) : State :=
  let ticketed := (s.refreshBuses.ticketsMinute).refreshBuses
  let pledged := ticketed.regrade.pledgesMinute ticketed.newlyAtRisk
  (if pledged.pledges.any Pledge.isExporting then pledged.requestPass else pledged).finishEvent before

/-! ## What SUMMARY shows (R95), items 49 to 58 -/

/-- The counted import of a branch's berths. -/
def State.branchImport (s : State) (branch : Nat) : Nat :=
  sumOf Berth.countedImport (s.berths.filter fun b => b.branch == branch)

/-- R95: the allocator's SUMMARY items. -/
def State.feederItems (s : State) : List (Nat × Option Int) :=
  [(49, some s.alloc.baseLoad), (50, some s.alloc.importCeiling), (51, some s.alloc.binding.code),
   (52, some s.alloc.exportCeiling), (53, some s.totalImport), (54, some (s.branchImport 1)),
   (55, some (s.branchImport 2)), (56, some (s.branchImport 3)), (57, some (s.branchImport 4)),
   (58, some s.totalExport)]

end Sys2Proof.Machine
end

