-- ==== Sys2Proof/Machine/RunControl.lean ====
section
/-! DEFINITION. Run control (chapter 4): the plan's validation, the run's changes of state, pause sources and aborts; and
the clearing and setting of the first-round flag (R51), which ends STARTING (R66). -/

namespace Sys2Proof.Machine

/-- R63, R79: the run state set. Each change of it raises a pass, and leaving RUNNING sets every target to 0 at once. -/
def State.setRun (r : RunState) (s : State) : State :=
  let moved : State := { s with run := { s.run with state := r } }
  if s.run.state = r then moved
  else if s.run.state = .running then moved.zeroTargets.requestPass
  else moved.requestPass

/-! ## Abort causes (R69 to R71) -/

/-- R69, R70: the cause is present. -/
def State.causePresent (s : State) : AbortCause → Bool
  | .meterSilent => s.meterSilent
  | .overdraw => s.run.overdraw == 3

/-- R71: "An abort cause is enabled when its profile enable is yes." -/
def State.causeEnabled (s : State) : AbortCause → Bool
  | .meterSilent => s.profile.meterSilentAbort
  | .overdraw => s.profile.overdrawAbort

/-- R66, R68, R71: the enabled cause present at a check; with both, METER_SILENT. -/
def State.presentCause (s : State) : Option AbortCause :=
  if s.causePresent .meterSilent && s.causeEnabled .meterSilent then some .meterSilent
  else if s.causePresent .overdraw && s.causeEnabled .overdraw then some .overdraw
  else none

/-- R71: the run aborts. -/
def State.abortRun (c : AbortCause) (s : State) : State :=
  let idle := s.setRun .idle
  ({ idle with run := { idle.run with holdTimer := none, abortCause := some c } } : State).raiseCause .runAborted

/-- R71: an abort cause arises. -/
def State.causeArises (c : AbortCause) (s : State) : State :=
  if (s.run.state = .starting ∨ s.run.state = .running) ∧ s.causeEnabled c then s.abortRun c else s

/-! ## Starting (R64 to R66) -/

/-- A branch is named by some berth record and its limit is 0 or above the feeder import limit (R65, check 3). -/
def State.badBranch (s : State) (branch : Nat) : Bool :=
  s.berths.any (fun b => b.branch == branch)
    && (s.profile.branchLimit branch == 0 || decide (s.profile.feederLimit < s.profile.branchLimit branch))

/-- Another berth record shares this berth's trench section and position (R65, check 4). -/
def State.sharesPlace (s : State) (b : Berth) : Bool :=
  s.berths.any fun c => c.number != b.number && c.trench == b.trench && c.position == b.position

/-- R65: the reason and detail of an invalid plan, none when the plan is valid. -/
def State.planFault (s : State) : Option (InvalidReason × Option Nat) :=
  if s.clock.time.isNone then some (.clockUnset, none)
  else if !s.berths.any (fun b => !b.outOfService) then some (.noBerth, none)
  else match [1, 2, 3, 4].find? s.badBranch with
    | some branch => some (.branchLimit, some branch)
    | none => match lowest ((s.berths.filter s.sharesPlace).map Berth.number) with
      | some n => some (.sharedPlace, some n)
      | none => none

/-- R51: the first-round flag is cleared; a round in progress is then not qualifying. -/
def State.clearFirstRound (s : State) : State :=
  { s with line := { s.line with firstRound := false, qualifying := false } }

/-- R64: the entry into STARTING of a valid plan. The start hold is in units of 5 s; with 0 it has expired at once. -/
def State.enterStarting (s : State) : State :=
  let entered := s.setRun .starting
  ({ entered with
      run :=
        { entered.run with
          invalidReason := none, invalidDetail := none, abortCause := none
          holdTimer := if s.profile.startHold = 0 then none else some (5 * s.profile.startHold)
          holdExpired := s.profile.startHold == 0 } } : State).clearFirstRound

/-- R64, R73: a start taken in IDLE. -/
def State.startRun (s : State) : State :=
  match s.planFault with
  | some (reason, detail) => { s with run := { s.run with invalidReason := some reason, invalidDetail := detail } }
  | none => s.enterStarting

/-- R66: STARTING ends, by the first outcome that applies. -/
def State.endStarting (s : State) : State :=
  match s.presentCause with
  | some c => s.abortRun c
  | none => if s.run.hostPause || s.run.thermalPause then s.setRun .paused else s.setRun .running

/-- R66: the test of the two conditions. -/
def State.testStarting (s : State) : State :=
  if s.run.state = .starting ∧ s.run.holdExpired ∧ s.line.firstRound then s.endStarting else s

/-! ## Pausing and stopping (R67, R68, R72) -/

/-- R67, R68: the pause sources take new values, and the run follows. -/
def State.setSources (host thermal : Bool) (s : State) : State :=
  let newlySet := (host && !s.run.hostPause) || (thermal && !s.run.thermalPause)
  let lastCleared := (s.run.hostPause || s.run.thermalPause) && !(host || thermal)
  let moved : State := { s with run := { s.run with hostPause := host, thermalPause := thermal } }
  match s.run.state with
  | .running => if newlySet then moved.setRun .paused else moved
  | .paused =>
    if lastCleared then
      match moved.presentCause with
      | some c => moved.abortRun c
      | none => moved.setRun .running
    else moved
  | .idle => moved
  | .starting => moved

/-- R72: a RUN_STOP taken in STARTING, RUNNING or PAUSED; in IDLE it changes nothing. -/
def State.stopRun (s : State) : State :=
  if s.run.state = .idle then s
  else
    let idle := s.setRun .idle
    { idle with run := { idle.run with holdTimer := none } }

/-! ## METER replies at run control (R70) -/

/-- R70, step 2: a reply shows an overdraw. -/
def State.showsOverdraw (s : State) (measured : Nat) : Bool :=
  decide (measured * 100 > s.profile.feederLimit * (100 + s.profile.overdrawTolerance))

/-- R70, step 2: the overdraw count, and the OVERDRAW cause arising when it reaches 3 from 2. -/
def State.countOverdraw (measured : Nat) (s : State) : State :=
  if s.showsOverdraw measured then
    let counted : State := { s with run := { s.run with overdraw := min 3 (s.run.overdraw + 1) } }
    if s.run.overdraw = 2 then counted.causeArises .overdraw else counted
  else { s with run := { s.run with overdraw := 0 } }

/-- R70: a METER reply, the end of silence already taken: overdraw count, then transformer state (0 NORMAL, other WARN). -/
def State.meterToRun (measured : Nat) (warn : Bool) (s : State) : State :=
  let counted := s.countOverdraw measured
  counted.setSources counted.run.hostPause warn

/-! ## What SUMMARY shows (R74), items 33 to 42 -/

/-- SUMMARY item 33. -/
def State.runStateItem (s : State) : Nat × Option Int := (33, some s.run.state.code)

/-- SUMMARY items 40 and 41. -/
def State.reasonItems (s : State) : List (Nat × Option Int) :=
  [(40, s.run.invalidReason.map InvalidReason.code), (41, optNat s.run.invalidDetail)]

/-- R74: run control's SUMMARY items. -/
def State.runItems (s : State) : List (Nat × Option Int) :=
  [s.runStateItem, (34, some (yesNo (s.run.state != .idle))), (35, some (yesNo s.run.hostPause)),
   (36, some (yesNo s.run.thermalPause)), (37, some (yesNo s.run.abortCause.isSome)),
   (38, s.run.abortCause.map AbortCause.code), (39, some (yesNo s.run.invalidReason.isSome))]
  ++ s.reasonItems ++ [(42, some (s.run.overdraw : Int))]

end Sys2Proof.Machine
end

