-- ==== Sys2Proof/Machine/BerthLink.lean ====
section
/-! DEFINITION. The berth link controller (chapter 3): rounds, choice of the next exchange, frames sent, break and
preamble. -/

namespace Sys2Proof.Machine

/-! ## Rounds (R49 to R51) -/

/-- R49: every berth enrolled and not in OUT_OF_SERVICE, in ascending berth number. -/
def State.freshRoundList (s : State) : List Nat :=
  (s.berths.filter fun b => b.state != .outOfService).map Berth.number

/-- R49: the round in progress is abandoned without completing. -/
def State.abandonRound (s : State) : State :=
  { s with line := { s.line with roundList := [], sweep := .start, roundOpen := false } }

/-- R50, R51: the round completes. A qualifying round sets the first-round flag, which is handed to run control (R66). -/
def State.completeRound (s : State) : State :=
  ({ s with
      line :=
        { s.line with
          roundOpen := false, roundCounter := (s.line.roundCounter + 1) % 65536
          firstRound := s.line.firstRound || s.line.qualifying } } : State).testStarting

/-- R49: a round completes at the end of the poll exchange with address `a`: the last berth of the round list, or the
meter node when the list is empty. -/
def State.roundEndsAt (s : State) (a : Nat) : Bool :=
  s.line.roundOpen && (if a = 0 then s.line.roundList.isEmpty else s.line.roundList.getLast? == some a)

/-- R49: the completion of the round with the end of a poll, where it is due. -/
def State.pollEnded (a : Nat) (s : State) : State := if s.roundEndsAt a then s.completeRound else s

/-- R49, R58, R43: a berth the host retires or sets OUT_OF_SERVICE leaves the round list; its exchange in flight is marked
for discard; a frame chosen for it and not yet begun is dropped (log entry 5). -/
def State.leaveLine (n : Nat) (s : State) : State :=
  { s with
    line :=
      { s.line with
        roundList := s.line.roundList.filter fun m => m != n
        exchange := s.line.exchange.map fun e => if e.address = n then { e with void := true } else e
        nextSend :=
          if s.line.nextSend = some (.pollBerth n) ∨ s.line.nextSend = some (.grantTo n) then none
          else s.line.nextSend } }

/-! ## Break and preamble (R59, R60) -/

/-- R59: a berth at the beginning of a break. -/
def Berth.atBreak (b : Berth) : Berth := { b with sent := 0, grantDue := false, retryWait := false }

/-- R59: break begins. -/
def State.beginBreak (s : State) : State :=
  ({ s with
      berths := s.berths.map Berth.atBreak
      line := { s.line with condition := .brk, nextSend := none, grantCount := 0 } } : State).abandonRound

/-- R60: the depot stop ceases to be in force. From BREAK the line enters PREAMBLE; when no break began, the round in
progress is abandoned and the next exchange begins a new round. -/
def State.lineReleased (s : State) : State :=
  match s.line.condition with
  | .brk => ({ s with line := { s.line with condition := .preamble } } : State).clearFirstRound
  | .frames => (({ s with line := { s.line with nextSend := none, restart := true } } : State).abandonRound).clearFirstRound
  | .preamble => s.clearFirstRound

/-- R59, R60: the depot stop comes into force. A preamble is abandoned and break begins again at once; a frame chosen and
not yet begun is dropped, so that the choice that follows finds step 1 of R47 (log entry 5). -/
def State.lineStopped (s : State) : State :=
  match s.line.condition with
  | .preamble => s.beginBreak
  | .frames => { s with line := { s.line with nextSend := none } }
  | .brk => s

/-! ## The choice of the next exchange (R47, R48) -/

/-- R48: the decided target would reduce the dispenser's power in either direction compared with the sent target. -/
def Berth.isLowering (b : Berth) : Bool :=
  decide (importPart b.decided < importPart b.sent) || decide (exportPart b.decided < exportPart b.sent)

/-- R48: the lowest-numbered berth among the lowerings due, else among the raises due. -/
def State.selectGrant (s : State) : Option Nat :=
  let due := s.berths.filter Berth.grantDue
  match lowest ((due.filter Berth.isLowering).map Berth.number) with
  | some n => some n
  | none => lowest (due.map Berth.number)

/-- R49: the first berth in the round list above the sweep position. -/
def State.nextInSweep (s : State) : Option Nat :=
  match s.line.sweep with
  | .start => s.line.roundList.head?
  | .meter => s.line.roundList.head?
  | .berth p => s.line.roundList.find? fun n => decide (p < n)

/-- A frame chosen, to be sent after the turnaround. -/
def State.chooseSend (n : NextSend) (s : State) : State := { s with line := { s.line with nextSend := some n } }

/-- R47, step 3: the poll step. In a round that has no berth above the sweep position the round completes and the meter
poll begins a new one (R49). -/
def State.pollStep (s : State) : State :=
  if s.line.restart || !s.line.roundOpen then s.chooseSend .pollMeter
  else match s.nextInSweep with
    | some n => s.chooseSend (.pollBerth n)
    | none => s.completeRound.chooseSend .pollMeter

/-- R47: the choice. R47's exception comes after step 1 and before step 2. -/
def State.chooseNext (s : State) : State :=
  if s.stopInForce then s.beginBreak
  else if s.line.restart then s.chooseSend .pollMeter
  else if s.line.grantCount < 4 then
    match s.selectGrant with
    | some n => s.chooseSend (.grantTo n)
    | none => s.pollStep
  else s.pollStep

/-- A choice is due: the line carries frames, no exchange is in flight and no frame has been chosen (R46, R47). -/
def State.choiceDue (s : State) : Bool :=
  s.line.condition == .frames && s.line.exchange.isNone && s.line.nextSend.isNone

/-! ## Frames sent (R43, R46, R49, R55) -/

/-- R49: the POLL to the meter node, which begins a round and takes the round list. -/
def State.sendMeterPoll (s : State) : State :=
  { s with
    line :=
      { s.line with
        exchange := some { address := 0, kind := .poll, void := false }
        nextSend := none, restart := false
        roundList := s.freshRoundList, sweep := .meter, roundOpen := true
        qualifying := !s.line.firstRound
        grantCount := 0
        txd := pollFrame 0 } }

/-- R49: the POLL to the next berth of the round. -/
def State.sendBerthPoll (n : Nat) (s : State) : State :=
  { s with
    line :=
      { s.line with
        exchange := some { address := n, kind := .poll, void := false }
        nextSend := none, sweep := .berth n, grantCount := 0
        txd := pollFrame n } }

/-- R55: the GRANT, carrying the decided target as it stands at the moment of sending; grant due becomes no. -/
def State.sendGrant (n : Nat) (target : Int) (s : State) : State :=
  ({ s with
      line :=
        { s.line with
          exchange := some { address := n, kind := .grant target, void := false }
          nextSend := none, grantCount := s.line.grantCount + 1
          txd := grantFrame n target } } : State).updBerth n fun b => { b with grantDue := false }

/-- R42: the levels that the frame sent last puts on TXD, bit time after bit time. -/
def State.txdLevels (s : State) : List BitLevel := frameLevels s.line.txd

/-- POLL: the chosen POLL is sent; where none has been chosen no POLL goes out (log entry 2). -/
def State.sendPoll (s : State) : State :=
  match s.line.nextSend with
  | some .pollMeter => s.sendMeterPoll
  | some (.pollBerth n) => s.sendBerthPoll n
  | some (.grantTo _) => s
  | none => s

/-- GRANT: the chosen GRANT is sent. A grant no longer due is not sent (R54), and the choice is made anew. -/
def State.sendChosenGrant (s : State) : State :=
  match s.line.nextSend with
  | some (.grantTo n) =>
    match s.berth? n with
    | some b => if b.grantDue then s.sendGrant n b.decided else { s with line := { s.line with nextSend := none } }
    | none => { s with line := { s.line with nextSend := none } }
  | some .pollMeter => s
  | some (.pollBerth _) => s
  | none => s

/-- NEXT_EXCHANGE_CHOICE (R47), when a choice is due. -/
def State.takeChoice (s : State) : State := if s.choiceDue then (s.chooseNext).closeEvent s else s

/-- PREAMBLE_END (R60, R62): the POLL to the meter node, or break when a stop is in force. -/
def State.endPreamble (s : State) : State :=
  match s.line.condition with
  | .preamble =>
    if s.stopInForce then s.beginBreak
    else ({ s with line := { s.line with condition := .frames } } : State).sendMeterPoll
  | .frames => s
  | .brk => s

/-- NEXT_EXCHANGE_CHOICE. -/
def execNextExchangeChoice (s : State) : Host.Outcome State Fault Refusal := ifPowered State.takeChoice s

/-- PREAMBLE_END. -/
def execPreambleEnd (s : State) : Host.Outcome State Fault Refusal := ifPowered State.endPreamble s

/-- POLL. -/
def execPoll (s : State) : Host.Outcome State Fault Refusal := ifPowered State.sendPoll s

/-- GRANT. -/
def execGrant (s : State) : Host.Outcome State Fault Refusal := ifPowered State.sendChosenGrant s

/-! ## What SUMMARY shows (R61), items 17 to 21 -/

/-- R61: the link controller's SUMMARY items. -/
def State.lineItems (s : State) : List (Nat × Option Int) :=
  [(17, some s.line.condition.code), (18, some (s.line.roundCounter : Int)), (19, some (yesNo s.line.firstRound)),
   (20, some (s.line.meterMiss : Int)), (21, some (countOf Berth.grantDue s.berths : Int))]

end Sys2Proof.Machine
end

