-- ==== Sys2Proof/Machine/GridLines.lean ====
section
/-! DEFINITION. The grid line monitor (chapter 8): line qualification, trip, depot stop and sag. -/

namespace Sys2Proof.Machine

/-! ## The trip (R134 to R137) -/

/-- R135: "Whenever the latch becomes clear, trip acknowledgement remembered becomes no." -/
def State.clearTrip (s : State) : State := { s with grid := { s.grid with tripLatch := false, tripAck := false } }

/-- R134: a recognised assertion of TRIP. The line's new recognised level comes with it (R133; log entry 6). The row has its
whole effect also where the recognised level is ASSERTED already, as it has in the three operations below (log entry 41, the
model's choice). -/
def State.assertTrip (s : State) : State :=
  ({ s with
      grid := { s.grid with tripLevel := .asserted, tripCount := 0, tripLatch := true, tripAck := false } } : State).raiseCause
    .trip

/-- R136: a recognised release of TRIP (log entry 41). -/
def State.releaseTrip (s : State) : State :=
  let released : State := { s with grid := { s.grid with tripLevel := .released, tripCount := 0 } }
  if s.profile.tripMode = .edgeLevel ∧ s.grid.tripLatch ∧ s.grid.tripAck then released.clearTrip else released

/-- R135: ACK_TRIP at the trip latch. -/
def State.ackTrip (s : State) : State :=
  if s.grid.tripLatch then
    match s.profile.tripMode, s.grid.tripLevel with
    | .edge, _ => s.clearTrip
    | .edgeLevel, .released => s.clearTrip
    | .edgeLevel, .asserted => { s with grid := { s.grid with tripAck := true } }
  else s

/-- R137: the trip mode taken against the latch at an accepted amendment: "When the mode becomes EDGE while the latch is
set and trip acknowledgement remembered is yes, the latch becomes clear". -/
def State.tripModeTaken (s : State) : State :=
  if s.profile.tripMode = .edge ∧ s.grid.tripLatch ∧ s.grid.tripAck then s.clearTrip else s

/-! ## The depot stop (R138 to R140) -/

/-- R140: the stop latch set. When it comes into force every target goes to 0 at once and the line is stopped. -/
def State.latchStop (s : State) : State :=
  let latched : State := { s with grid := { s.grid with stopLatch := true, clearRemembered := false } }
  if s.grid.stopLatch then latched else (latched.zeroTargets.requestPass).lineStopped

/-- R139, R140: the stop latch cleared, clear remembered no; the allocator raises a pass and the line is released. -/
def State.unlatchStop (s : State) : State :=
  (({ s with grid := { s.grid with stopLatch := false, clearRemembered := false } } : State).requestPass).lineReleased

/-- R138: a recognised assertion of STOP (log entry 41). -/
def State.assertStop (s : State) : State :=
  (({ s with grid := { s.grid with stopLevel := .asserted, stopCount := 0 } } : State).latchStop).raiseCause .stop

/-- R138: ALL_STOP; STOP is raised when the latch was clear before the request. -/
def State.allStop (s : State) : State := s.latchStop.raiseIf (!s.grid.stopLatch) .stop

/-- R139: a recognised release of STOP (log entry 41). -/
def State.releaseStop (s : State) : State :=
  let released : State := { s with grid := { s.grid with stopLevel := .released, stopCount := 0 } }
  if s.grid.stopLatch ∧ s.grid.clearRemembered then released.unlatchStop else released

/-- R139: CLEAR_STOP at the stop latch. -/
def State.clearStop (s : State) : State :=
  if s.grid.stopLatch then
    match s.grid.stopLevel with
    | .released => s.unlatchStop
    | .asserted => { s with grid := { s.grid with clearRemembered := true } }
  else s

/-! ## Line samples (R133) -/

/-- R133: a TRIP sample. The third sample in a row at the opposite level is the recognised change. -/
def State.sampleTrip (level : Level) (s : State) : State :=
  if level = s.grid.tripLevel then { s with grid := { s.grid with tripCount := 0 } }
  else if s.grid.tripCount + 1 < 3 then { s with grid := { s.grid with tripCount := s.grid.tripCount + 1 } }
  else match level with
    | .asserted => s.assertTrip
    | .released => s.releaseTrip

/-- R133: a STOP sample. -/
def State.sampleStop (level : Level) (s : State) : State :=
  if level = s.grid.stopLevel then { s with grid := { s.grid with stopCount := 0 } }
  else if s.grid.stopCount + 1 < 3 then { s with grid := { s.grid with stopCount := s.grid.stopCount + 1 } }
  else match level with
    | .asserted => s.assertStop
    | .released => s.releaseStop

/-! ## Sag (R141, R142) -/

/-- R142: sag comes into force. -/
def State.beginSag (s : State) : State :=
  (({ s with grid := { s.grid with sag := true } } : State).zeroTargets.requestPass).raiseCause .sag

/-- R141: the feeder voltage of a METER reply; above 1500‰ it is taken as 1500‰ (R167). -/
def State.takeVoltage (voltage : Nat) (s : State) : State :=
  if voltage < s.profile.sagTripLevel then
    let counted : State := { s with grid := { s.grid with lowCount := min 8 (s.grid.lowCount + 1) } }
    if s.grid.sag = false ∧ s.profile.sagCount ≤ counted.grid.lowCount then counted.beginSag else counted
  else
    let cleared : State := { s with grid := { s.grid with lowCount := 0 } }
    if s.grid.sag ∧ s.profile.sagTripLevel + s.profile.sagReleaseMargin ≤ voltage then
      ({ cleared with grid := { cleared.grid with sag := false } } : State).requestPass
    else cleared

/-! ## The commands of the lines -/

/-- TRIP_ASSERTION. -/
def execTripAssertion (s : State) : Host.Outcome State Fault Refusal :=
  ifPowered (fun s => (s.assertTrip).closeEvent s) s

/-- TRIP_RELEASE. -/
def execTripRelease (s : State) : Host.Outcome State Fault Refusal :=
  ifPowered (fun s => (s.releaseTrip).closeEvent s) s

/-- STOP_ASSERTION. -/
def execStopAssertion (s : State) : Host.Outcome State Fault Refusal :=
  ifPowered (fun s => (s.assertStop).closeEvent s) s

/-- STOP_RELEASE. -/
def execStopRelease (s : State) : Host.Outcome State Fault Refusal :=
  ifPowered (fun s => (s.releaseStop).closeEvent s) s

/-- LINE_SAMPLE. -/
def execLineSample (trip stop : Level) (s : State) : Host.Outcome State Fault Refusal :=
  ifPowered (fun s => ((s.sampleTrip trip).sampleStop stop).closeEvent s) s

/-! ## What SUMMARY shows (R143), items 97 to 105 -/

/-- R135: the body of an ACK_TRIP response. -/
def State.tripAnswer (s : State) : List (Nat × Option Int) :=
  [(99, some (yesNo s.grid.tripLatch)), (100, some (yesNo s.grid.tripAck))]

/-- R138: the body of an ALL_STOP response, the stop latch and the STOP recognised level. -/
def State.allStopAnswer (s : State) : List (Nat × Option Int) :=
  [(102, some (yesNo s.grid.stopLatch)), (98, some (levelCode s.grid.stopLevel))]

/-- R139: the body of a CLEAR_STOP response. -/
def State.clearStopAnswer (s : State) : List (Nat × Option Int) :=
  [(102, some (yesNo s.grid.stopLatch)), (103, some (yesNo s.grid.clearRemembered))]

/-- R143: the grid line monitor's SUMMARY items. -/
def State.gridItems (s : State) : List (Nat × Option Int) :=
  [(97, some (levelCode s.grid.tripLevel)), (98, some (levelCode s.grid.stopLevel))] ++ s.tripAnswer
  ++ [(101, some (yesNo s.tripInForce))] ++ s.clearStopAnswer
  ++ [(104, some (yesNo s.grid.sag)), (105, some (s.grid.lowCount : Int))]

end Sys2Proof.Machine
end

