-- ==== Sys2Proof/Machine/BerthTable.lean ====
section
/-! DEFINITION. The berth table (chapter 2): reported output (R30), STATUS and CONFIRM taken (R31 to R36, R38), third
misses (R37), the fault episode (R39) and the out-of-service setting (R28, R29). -/

namespace Sys2Proof.Machine

/-! ## Reported output (R30) -/

/-- R30: the output times 1000 plus the correction over 1000, rounded to the nearest whole kilowatt with halves away from
zero, and limited to −100 to 150. -/
def correctedOutput (present correction : Int) : Int :=
  let scaled := present * (1000 + correction)
  let magnitude : Int := ((scaled.natAbs + 500) / 1000 : Nat)
  max (-100) (min 150 (if scaled < 0 then -magnitude else magnitude))

/-- R30, R52, R56: the reported output stored and the miss count set to 0. -/
def State.storeOutput (n : Nat) (present : Half) (s : State) : State :=
  s.updBerth n fun b => { b with reported := correctedOutput present.toInt b.correction, missCount := 0 }

/-! ## Detachment and attachment (R6, R7, R32 to R34) -/

/-- R32: a bus unplugged: AWAY (R7), and the ticket table's rule for the unplug (R110). -/
def State.detachBus (k : Nat) (s : State) : State := (s.updBus k Bus.detach).ticketDetached k

/-- R32: the bus occupant of a berth, if any, is detached. -/
def State.detachOccupant (n : Nat) (s : State) : State :=
  match (s.berth? n).bind Berth.busOccupant with
  | some k => (s.updBerth n fun b => { b with occupant := none }).detachBus k
  | none => s

/-- A berth in a state other than FAULTED and FOREIGN, with an occupant or none. -/
def Berth.settle (state : BerthState) (occupant : Option Nat) (b : Berth) : Berth :=
  { b with state := state, occupant := occupant, foreignReason := none, faultCause := none, dispenserCode := none }

/-- R6, R33: the bus is attached at the berth. -/
def State.attachBus (n k : Nat) (s : State) : State :=
  (s.updBerth n (Berth.settle .occupied (some k))).updBus k (Bus.attach n)

/-- R34: the bus is moved from berth `m`, FAULTED SILENT, to berth `n`; the ticket table does not treat it as an unplug. -/
def State.moveBus (m n k : Nat) (s : State) : State :=
  ((s.updBerth m fun b => { b with occupant := none }).updBus k Bus.detach).attachBus n k

/-- R32: EMPTY, or CONNECTED with vehicle id 0: the berth becomes VACANT or AWAITING_ID with both its targets 0. -/
def State.unplugged (n : Nat) (state : BerthState) (s : State) : State :=
  ((s.detachOccupant n).updBerth n (Berth.settle state none)).setTarget n 0 0

/-- R35: the berth holds a raw vehicle id. Each entry and each change of reason raises VEHICLE_FOREIGN; an entry with a
negative decided target sets both targets to 0. -/
def State.toForeign (n vehicle : Nat) (reason : ForeignReason) (s : State) : State :=
  match s.berth? n with
  | some b =>
    let held := s.updBerth n fun b =>
      { b.settle .foreign (some vehicle) with foreignReason := some reason }
    let targeted := if b.state ≠ .foreign ∧ b.decided < 0 then held.setTarget n 0 0 else held
    targeted.raiseIf (b.state != .foreign || b.foreignReason != some reason) .vehicleForeign
  | none => s

/-- R33, the table: a vehicle id at a berth that does not hold it as its occupant. -/
def State.takeVehicle (n vehicle : Nat) (s : State) : State :=
  match s.bus? vehicle with
  | none => s.toForeign n vehicle .unknown
  | some b =>
    match b.state, b.berth with
    | .away, _ => s.attachBus n vehicle
    | .attached, some m =>
      if m ≠ n ∧ ((s.berth? m).map Berth.faultedSilent) = some true then s.moveBus m n vehicle
      else s.toForeign n vehicle .duplicate
    | .attached, none => s.toForeign n vehicle .duplicate

/-- R33: CONNECTED with a vehicle id from 1 to 9999. A previous bus occupant with another number is detached first, and
both targets become 0. -/
def State.plugged (n vehicle : Nat) (s : State) : State :=
  match (s.berth? n).bind Berth.busOccupant with
  | some k =>
    if k = vehicle then s.updBerth n (Berth.settle .occupied (some k))
    else ((s.detachOccupant n).setTarget n 0 0).takeVehicle n vehicle
  | none => s.takeVehicle n vehicle

/-- Section 11.2: connector state 0 is EMPTY, every other CONNECTED. -/
def connected (b : StatusBody) : Bool := b.connector != 0#8

/-- R167: a vehicle id above 9999 is taken as 0. -/
def vehicleId (b : StatusBody) : Nat := if 9999 < b.vehicle.toNat then 0 else b.vehicle.toNat

/-- R32, R33: the plug evaluation. -/
def State.plugEvaluation (n : Nat) (body : StatusBody) (s : State) : State :=
  if connected body then
    if vehicleId body = 0 then s.unplugged n .awaitingId else s.plugged n (vehicleId body)
  else s.unplugged n .vacant

/-- R36: the faulted plug check. -/
def State.faultedPlugCheck (n : Nat) (body : StatusBody) (s : State) : State :=
  match (s.berth? n).bind Berth.busOccupant with
  | some k => if connected body ∧ vehicleId body = k then s else s.detachOccupant n
  | none => s

/-! ## Faults (R36 to R39) -/

/-- R39: an entry into FAULTED from another state raises BERTH_FAULT and disarms the episode while it is armed. -/
def State.episode (entered : Bool) (s : State) : State :=
  if entered && s.attention.armed then
    ({ s with attention := { s.attention with armed := false } } : State).raiseCause .berthFault
  else s

/-- R36 to R39: the berth becomes, or stays, FAULTED with a cause. A bus occupant is kept, a raw vehicle id discarded, and
both targets become 0. -/
def State.fault (n : Nat) (cause : FaultCause) (code : Option Nat) (s : State) : State :=
  match s.berth? n with
  | some b =>
    ((s.updBerth n fun b =>
        { b with
          state := .faulted, occupant := b.busOccupant, foreignReason := none, faultCause := some cause
          dispenserCode := code }).setTarget n 0 0).episode (b.state != .faulted)
  | none => s

/-- The berth is FAULTED with a cause. -/
def Berth.faultedWith (cause : FaultCause) (b : Berth) : Bool := b.state == .faulted && b.faultCause == some cause

/-- R31, third step: the berth's new state. -/
def State.takePlug (n : Nat) (body : StatusBody) (s : State) : State :=
  match s.berth? n with
  | some b =>
    if b.faultedWith .refused then s.faultedPlugCheck n body
    else if body.faultCode ≠ 0#8 then (s.fault n .dispenser (some body.faultCode.toNat)).faultedPlugCheck n body
    else s.plugEvaluation n body
  | none => s

/-- R31: a valid STATUS: reported output and miss count, plug state and fault, then pack data. -/
def State.takeStatus (n : Nat) (body : StatusBody) (s : State) : State :=
  ((s.storeOutput n body.output).takePlug n body).takePackData n body.pack

/-- R37: the bus occupant's freshness becomes STALE. -/
def State.staleOccupant (n : Nat) (s : State) : State :=
  match (s.berth? n).bind Berth.busOccupant with
  | some k => s.updBus k Bus.goStale
  | none => s

/-- R37: the third consecutive miss of a berth. -/
def State.thirdMiss (n : Nat) (s : State) : State :=
  match s.berth? n with
  | some b => (if b.faultedWith .refused then s else s.fault n .silent none).staleOccupant n
  | none => s

/-- R38: a SILENT berth heard by a CONFIRM: OCCUPIED with a bus occupant, else AWAITING_ID. -/
def Berth.heard (b : Berth) : Berth :=
  if b.faultedSilent then b.settle (if b.occupant.isSome then .occupied else .awaitingId) b.occupant else b

/-- R38: the berth table takes a CONFIRM. -/
def State.confirmPlug (n : Nat) (accepted : Bool) (s : State) : State :=
  if accepted then s.updBerth n Berth.heard else s.fault n .refused none

/-! ## The out-of-service setting (R28, R29) -/

/-- R28: a berth in OUT_OF_SERVICE. -/
def Berth.isolate (b : Berth) : Berth :=
  { b.settle .outOfService none with
    outOfService := true
    wanted := 0, decided := 0, sent := 0, reported := 0
    grantDue := false, retryWait := false, missCount := 0 }

/-- R28: the out-of-service setting set to yes. -/
def State.setOutOfService (n : Nat) (s : State) : State :=
  match s.berth? n with
  | some b =>
    if b.state = .outOfService then s else ((s.detachOccupant n).updBerth n Berth.isolate).leaveLine n
  | none => s

/-- R29: the out-of-service setting set to no. -/
def Berth.restore (b : Berth) : Berth :=
  if b.state = .outOfService then { b.settle .vacant none with outOfService := false } else b

end Sys2Proof.Machine
end

