-- ==== Sys2Proof/Machine/Replies.lean ====
section
/-! DEFINITION. The end of an exchange (03 sections 3.1 to 3.7): validity, replies and misses of polls and grants, retry
waits, the meter's contents handed on (R53, R70, R76), and outcomes that are discarded (R58). -/

namespace Sys2Proof.Machine

/-! ## Misses (R52, R53, R56) -/

/-- R52, R56: a miss counted at a berth; a third consecutive miss is handed to the berth table. -/
def State.countMiss (n : Nat) (s : State) : State :=
  match s.berth? n with
  | some b =>
    let counted := s.updBerth n fun b => { b with missCount := min 3 (b.missCount + 1) }
    if b.missCount = 2 ∨ (b.missCount = 3 ∧ b.state ≠ .faulted) then counted.thirdMiss n else counted
  | none => s

/-- R53, R69: a meter miss. The third raises METER_SILENT, and the cause arises at run control. -/
def State.meterMissed (s : State) : State :=
  let counted : State := { s with line := { s.line with meterMiss := min 3 (s.line.meterMiss + 1) } }
  if s.line.meterMiss = 2 then (counted.raiseCause .meterSilent).causeArises .meterSilent else counted

/-! ## Retry waits (R56, R57) -/

/-- R56: a failed grant is held back: retry wait yes, grant due no. -/
def Berth.holdBack (b : Berth) : Berth := { b with retryWait := true, grantDue := false }

/-- R57: the end of the berth's poll ends its retry wait. -/
def Berth.endRetry (b : Berth) : Berth :=
  if b.retryWait then { b with retryWait := false, grantDue := decide (b.decided ≠ b.sent) } else b

/-- R56, accepted yes: the sent target becomes the carried target, and grant due follows the decided target. -/
def Berth.acceptGrant (target : Int) (b : Berth) : Berth :=
  { b with sent := target, grantDue := decide (b.decided ≠ target) }

/-! ## The meter's contents (R53, R70, R76) -/

/-- R76: the base load of a measured import, between 0 and the feeder import limit. -/
def State.baseLoadFor (measured : Nat) (s : State) : Nat :=
  min s.profile.feederLimit (measured - sumOf (fun b => importPart b.reported) s.berths)

/-- R76: the allocator takes the measured import. -/
def State.takeBaseLoad (measured : Nat) (s : State) : State :=
  { s with alloc := { s.alloc with baseLoad := s.baseLoadFor measured } }

/-- R167: a measured import above 4000 kW is taken as 4000 kW. -/
def measuredImport (b : MeterBody) : Nat := min 4000 b.measured.toNat

/-- R167: a feeder voltage above 1500‰ is taken as 1500‰. -/
def feederVoltage (b : MeterBody) : Nat := min 1500 b.voltage.toNat

/-- R53: a valid METER handed on: to the grid line monitor, to run control, to the allocator (log entry 9). -/
def State.takeMeter (body : MeterBody) (s : State) : State :=
  ((({ s with line := { s.line with meterMiss := 0 } } : State).takeVoltage (feederVoltage body)).meterToRun
    (measuredImport body) (body.transformer != 0#8)).takeBaseLoad (measuredImport body)

/-! ## The end of an exchange -/

/-- The exchange in flight is over. -/
def State.endExchange (s : State) : State := { s with line := { s.line with exchange := none } }

/-- R52, R57: the end of a poll of a berth, its outcome already handed on: retry wait, then round (log entry 9). -/
def State.berthPollEnded (n : Nat) (s : State) : State := (s.updBerth n Berth.endRetry).pollEnded n

/-- R52: a valid STATUS ends the poll. -/
def State.pollStatus (n : Nat) (body : StatusBody) (s : State) : State :=
  (s.endExchange.takeStatus n body).berthPollEnded n

/-- R53: a valid METER ends the poll of the meter node. -/
def State.pollMeter (body : MeterBody) (s : State) : State := (s.endExchange.takeMeter body).pollEnded 0

/-- Section 11.2: accepted is yes for 1 and no for every other value. -/
def acceptedYes (b : ConfirmBody) : Bool := b.accepted == 1#8

/-- R56: a valid CONFIRM ends the grant. -/
def State.grantConfirm (n : Nat) (target : Int) (body : ConfirmBody) (s : State) : State :=
  let stored := s.endExchange.storeOutput n body.output
  (stored.updBerth n (if acceptedYes body then Berth.acceptGrant target else Berth.holdBack)).confirmPlug n
    (acceptedYes body)

/-- R52, R53, R56: a miss ends the exchange. -/
def State.exchangeMissed (e : Exchange) (s : State) : State :=
  match e.kind with
  | .poll =>
    if e.address = 0 then (s.endExchange.meterMissed).pollEnded 0
    else (s.endExchange.countMiss e.address).berthPollEnded e.address
  | .grant _ => (s.endExchange.updBerth e.address Berth.holdBack).countMiss e.address

/-- R44: the outcome a reply gives an exchange whose outcome is taken. -/
def State.exchangeReply (e : Exchange) (r : Reply) (s : State) : State :=
  match e.kind, r with
  | .poll, .status a body =>
    if e.address ≠ 0 ∧ a.toNat = e.address then s.pollStatus e.address body else s.exchangeMissed e
  | .poll, .meter a body => if e.address = 0 ∧ a.toNat = 0 then s.pollMeter body else s.exchangeMissed e
  | .grant target, .confirm a body =>
    if a.toNat = e.address then s.grantConfirm e.address target body else s.exchangeMissed e
  | .poll, .confirm _ _ => s.exchangeMissed e
  | .grant _, .status _ _ => s.exchangeMissed e
  | .grant _, .meter _ _ => s.exchangeMissed e

/-- R58: the exchange with a berth set OUT_OF_SERVICE or retired ends, and its outcome is discarded. -/
def State.exchangeVoid (e : Exchange) (s : State) : State :=
  match e.kind with
  | .poll => s.endExchange.pollEnded e.address
  | .grant _ => s.endExchange

/-- A reply taken. While no reply is awaited its characters are discarded and change no record (R42). -/
def State.takeReply (r : Reply) (s : State) : State :=
  match s.line.exchange with
  | some e => (if e.void then s.exchangeVoid e else s.exchangeReply e r).closeEvent s
  | none => s

/-- A miss taken: an invalid reply (R44) or the reply timeout (R45). -/
def State.takeMiss (s : State) : State :=
  match s.line.exchange with
  | some e => (if e.void then s.exchangeVoid e else s.exchangeMissed e).closeEvent s
  | none => s

/-- The characters of an INVALID_REPLY. Where they spell a frame, it is taken as that reply (log entry 24). -/
def State.takeChars (chars : List RxChar) (s : State) : State :=
  match parseReply chars with
  | some r => s.takeReply r
  | none => s.takeMiss

/-! ## The commands -/

/-- STATUS. -/
def execStatus (responder : Byte) (body : StatusBody) (s : State) : Host.Outcome State Fault Refusal :=
  ifPowered (State.takeReply (.status responder body)) s

/-- METER: its responder is the meter node, address 0 (R43). -/
def execMeter (body : MeterBody) (s : State) : Host.Outcome State Fault Refusal :=
  ifPowered (State.takeReply (.meter 0#8 body)) s

/-- CONFIRM. -/
def execConfirm (responder : Byte) (body : ConfirmBody) (s : State) : Host.Outcome State Fault Refusal :=
  ifPowered (State.takeReply (.confirm responder body)) s

/-- INVALID_REPLY. -/
def execInvalidReply (chars : List RxChar) (s : State) : Host.Outcome State Fault Refusal :=
  ifPowered (State.takeChars chars) s

/-- REPLY_TIMEOUT. -/
def execReplyTimeout (s : State) : Host.Outcome State Fault Refusal := ifPowered State.takeMiss s

end Sys2Proof.Machine
end

