-- ==== Sys2Proof/Machine/AllocationPass.lean ====
section
/-! DEFINITION. The allocation pass (05 section 5.5): claimants and stranded values (R82), export (R83, R84), the import
ranking and the trench rules (R85 to R88), and the targets decided (R89 to R91). -/

namespace Sys2Proof.Machine

/-! ## Claimants (R82) -/

/-- R82: OCCUPIED and FOREIGN berths are claimants. -/
def Berth.isClaimant (b : Berth) : Bool := b.state == .occupied || b.state == .foreign

/-- R82: the targets of every berth that is not a claimant become 0. -/
def State.zeroOthers (s : State) : State :=
  { s with berths := s.berths.map fun b => if b.isClaimant then b else b.setTarget (s.grantInFlight b.number) 0 0 }

/-- R82: the berths whose counted values are stranded. -/
def State.others (s : State) : List Berth := s.berths.filter fun b => !b.isClaimant

/-- R86: the import room, the import ceiling less the stranded import. -/
def State.importRoom (s : State) : Nat := s.alloc.importCeiling - sumOf Berth.countedImport s.others

/-- R86: a branch's room, its limit less its own stranded import. -/
def State.branchRoom (s : State) (branch : Nat) : Nat :=
  s.profile.branchLimit branch - sumOf Berth.countedImport (s.others.filter fun b => b.branch == branch)

/-- R83: the export room, the export ceiling less the stranded export. -/
def State.exportRoom (s : State) : Nat := s.alloc.exportCeiling - sumOf Berth.countedExport s.others

/-- The bus at an OCCUPIED berth. -/
def State.occupantBus (s : State) (b : Berth) : Option Bus :=
  if b.state = .occupied then b.occupant.bind s.bus? else none

/-! ## Export (R83, R84) -/

/-- Held energy less floor, in units of 0.1 kWh. -/
def Bus.surplus (b : Bus) : Nat := b.held.getD 0 - b.floor

/-- R84: the remaining window in minutes, at least 1. -/
def State.remainingWindow (s : State) : Nat :=
  ((s.pledges.filter Pledge.isExporting).map fun p => minutesTo s.now p.windowEnd).foldl max 1

/-- R84: the energy-limited power, rounded down. -/
def State.energyLimited (s : State) (b : Bus) : Nat := b.surplus * 6 / s.remainingWindow

/-- An export candidate: its berth's number, its occupant's surplus, and the most it may receive apart from the room. -/
structure Candidate where
  berth : Nat
  surplus : Nat
  limit : Nat
  deriving DecidableEq, Repr

/-- R83: the candidate a berth makes, if any. -/
def State.candidateOf (s : State) (b : Berth) : Option Candidate :=
  match s.occupantBus b with
  | some bus =>
    if bus.exportEligible ∧ bus.thermal = 0 then
      some { berth := b.number, surplus := bus.surplus, limit := min b.maxExport (s.energyLimited bus) }
    else none
  | none => none

/-- R83: candidates in descending surplus; equal ones keep the ascending order of their numbers. -/
def State.candidates (s : State) : List Candidate :=
  sortBy (fun a b => decide (b.surplus < a.surplus)) (s.berths.filterMap s.candidateOf)

/-- R83: what each candidate receives; one that receives 0 is not an exporter. -/
def shareExport : Nat → List Candidate → List (Nat × Nat)
  | _, [] => []
  | room, c :: rest =>
    let received := min c.limit room
    if received = 0 then shareExport room rest else (c.berth, received) :: shareExport (room - received) rest

/-- R83: the exporters, in the order they were chosen, with what each received. -/
def State.exporters (s : State) : List (Nat × Nat) := shareExport s.exportRoom s.candidates

/-! ## The import ranking (R85) -/

/-- An import claim: the claimant's berth and the demand. -/
structure Claim where
  berth : Berth
  demand : Nat
  deriving DecidableEq, Repr

/-- An importer in the ranking: an OCCUPIED berth not chosen as an exporter, with its bus and, if ticketed, the place of its
departure in ascending order. -/
structure Importer where
  berth : Berth
  bus : Bus
  departure : Option Int
  deriving DecidableEq, Repr

/-- R85: the OCCUPIED berths not chosen as exporters, in ascending number. -/
def State.importers (s : State) (exporters : List (Nat × Nat)) : List Importer :=
  s.berths.filterMap fun b =>
    if exporters.any fun e => e.1 == b.number then none
    else (s.occupantBus b).map fun bus =>
      { berth := b, bus := bus, departure := (s.ticketOf bus).map fun t => s.timeOrder t.departure }

/-- R85: occupants with a ticket in ascending departure, then occupants without. -/
def departsBefore (a b : Importer) : Bool :=
  match a.departure, b.departure with
  | some x, some y => decide (x < y)
  | some _, none => true
  | none, some _ => false
  | none, none => false

/-- R85, group 3: held energy as a fraction of usable capacity, compared exactly. -/
def emptierThan (a b : Importer) : Bool :=
  decide (a.bus.held.getD 0 * b.bus.capacity < b.bus.held.getD 0 * a.bus.capacity)

/-- Group 1: thermal demand. -/
def thermalClaims (importers : List Importer) : List Claim :=
  (sortBy departsBefore (importers.filter fun i => i.bus.thermal != 0)).map fun i =>
    { berth := i.berth, demand := i.bus.thermal }

/-- Group 2: charge demand of occupants holding a ticket. -/
def ticketedClaims (importers : List Importer) : List Claim :=
  (sortBy departsBefore (importers.filter fun i => i.bus.charge != 0 && i.departure.isSome)).map fun i =>
    { berth := i.berth, demand := i.bus.charge }

/-- Group 3: charge demand of occupants holding no ticket. -/
def unticketedClaims (importers : List Importer) : List Claim :=
  (sortBy emptierThan (importers.filter fun i => i.bus.charge != 0 && i.departure.isNone)).map fun i =>
    { berth := i.berth, demand := i.bus.charge }

/-- Group 4: foreign demand. -/
def State.foreignClaims (s : State) : List Claim :=
  (s.berths.filter fun b => b.foreignDemand s.profile != 0).map fun b =>
    { berth := b, demand := b.foreignDemand s.profile }

/-- R85: the claims of a pass, in the order they are served. -/
def State.claims (s : State) (exporters : List (Nat × Nat)) : List Claim :=
  let importers := s.importers exporters
  thermalClaims importers ++ ticketedClaims importers ++ unticketedClaims importers ++ s.foreignClaims

/-! ## Serving the claims (R86, R87) -/

/-- What a claimant has been given so far in the pass; the list of these is in the order of first claims. -/
structure Share where
  berth : Berth
  given : Nat
  deriving DecidableEq, Repr

/-- What a berth has been given so far. -/
def givenTo (shares : List Share) (n : Nat) : Nat :=
  ((shares.find? fun x => x.berth.number == n).map Share.given).getD 0

/-- R87: the other berths of a claimant's section that are high-rate in this pass. -/
def highRateMates (p : Profile) (shares : List Share) (b : Berth) : List Berth :=
  (shares.filter fun x =>
    x.berth.number != b.number && x.berth.trench == b.trench && decide (p.highRateThreshold < x.given)).map Share.berth

/-- R87: a section named among the spacing sections. -/
def Profile.isSpacing (p : Profile) (section_ : Nat) : Bool := p.spacingSections.getLsbD (section_ - 1)

/-- R87: the trench rules keep a claimant from being high-rate. -/
def trenchHolds (p : Profile) (shares : List Share) (b : Berth) : Bool :=
  let mates := highRateMates p shares b
  decide (p.trenchQuota ≤ mates.length)
    || (p.isSpacing b.trench && mates.any fun m => m.position == b.position + 1 || m.position + 1 == b.position)

/-- R86: the smallest of the demand, the import room and the branch room remaining. -/
def State.claimAmount (s : State) (shares : List Share) (c : Claim) : Nat :=
  min c.demand (min (s.importRoom - sumOf Share.given shares)
    (s.branchRoom c.berth.branch - sumOf Share.given (shares.filter fun x => x.berth.branch == c.berth.branch)))

/-- R87: the amount reduced to the threshold where the trench rules require. -/
def State.trenchAmount (s : State) (shares : List Share) (c : Claim) : Nat :=
  let amount := s.claimAmount shares c
  let sofar := givenTo shares c.berth.number
  if s.profile.highRateThreshold < sofar + amount ∧ trenchHolds s.profile shares c.berth then
    s.profile.highRateThreshold - sofar
  else amount

/-- R86: an amount added to a claimant's share. -/
def addShare (b : Berth) (amount : Nat) : List Share → List Share
  | [] => [{ berth := b, given := amount }]
  | x :: xs => if x.berth.number = b.number then { x with given := x.given + amount } :: xs else x :: addShare b amount xs

/-- R86: one claim served. -/
def State.serveClaim (s : State) (shares : List Share) (c : Claim) : List Share :=
  addShare c.berth (s.trenchAmount shares c) shares

/-- R85 to R87: every claim served in order. -/
def State.serveClaims (s : State) (exporters : List (Nat × Nat)) : List Share :=
  (s.claims exporters).foldl s.serveClaim []

/-! ## Deciding targets (R88 to R91) -/

/-- R88: the wanted level of a claimant. -/
def wantedLevel (exporters : List (Nat × Nat)) (shares : List Share) (n : Nat) : Int :=
  match exporters.find? fun e => e.1 == n with
  | some e => -(e.2 : Int)
  | none => (givenTo shares n : Int)

/-- R89: the part of a wanted level at or below the counted value in the same direction, decided at once (log entry 36). -/
def Berth.decidedAtOnce (wanted : Int) (b : Berth) : Int :=
  (min (importPart wanted) b.countedImport : Nat) - (min (exportPart wanted) b.countedExport : Nat)

/-- R89: one berth's decision before any raise; berths that are not claimants are as R82 left them. -/
def State.decideBerth (s : State) (exporters : List (Nat × Nat)) (shares : List Share) (b : Berth) : Berth :=
  if b.isClaimant then
    let wanted := wantedLevel exporters shares b.number
    b.setTarget (s.grantInFlight b.number) wanted (b.decidedAtOnce wanted)
  else b

/-- R89: every claimant's decision before any raise. -/
def State.decideAtOnce (exporters : List (Nat × Nat)) (shares : List Share) (s : State) : State :=
  { s with berths := s.berths.map (s.decideBerth exporters shares) }

/-- R90: the import headroom, none below 0. -/
def State.importHeadroom (s : State) : Nat := s.alloc.importCeiling - s.totalImport

/-- R90: a branch's headroom. -/
def State.branchHeadroom (s : State) (branch : Nat) : Nat := s.profile.branchLimit branch - s.branchImport branch

/-- R90: one import raise, within both headrooms. -/
def State.raiseImport (s : State) (n : Nat) : State :=
  match s.berth? n with
  | some b =>
    if b.countedImport < importPart b.wanted then
      s.setTarget n b.wanted
        (min (importPart b.wanted) (b.countedImport + min s.importHeadroom (s.branchHeadroom b.branch)) : Nat)
    else s
  | none => s

/-- R91: the export headroom, none below 0. -/
def State.exportHeadroom (s : State) : Nat := s.alloc.exportCeiling - s.totalExport

/-- R91: one export raise, within the export headroom. -/
def State.raiseExport (s : State) (n : Nat) : State :=
  match s.berth? n with
  | some b =>
    if b.countedExport < exportPart b.wanted then
      s.setTarget n b.wanted (-(min (exportPart b.wanted) (b.countedExport + s.exportHeadroom) : Nat))
    else s
  | none => s

/-- R82 to R92: the pass. -/
def State.allocate (s : State) : State :=
  let cleared := s.zeroOthers
  let exporters := cleared.exporters
  let shares := cleared.serveClaims exporters
  let decided := cleared.decideAtOnce exporters shares
  let imported := (shares.map fun x => x.berth.number).foldl State.raiseImport decided
  (exporters.map Prod.fst).foldl State.raiseExport imported

/-- R81: the pass is taken when one has been raised, and sets pass requested to no. -/
def State.takePass (s : State) : State :=
  if s.alloc.passRequested then
    (({ s with alloc := { s.alloc with passRequested := false } } : State).allocate).closeEvent s
  else s

/-- ALLOCATION_PASS. -/
def execAllocationPass (s : State) : Host.Outcome State Fault Refusal := ifPowered State.takePass s

end Sys2Proof.Machine
end

