-- ==== Sys2Proof/Machine/Timers.lean ====
section
/-! DEFINITION. The timers: start hold (R66), supervision (R160, R161, R73), depot clock (R98), and one second of the
internal time base, which a step takes on an empty queue (log entry 3). -/

namespace Sys2Proof.Machine

/-! ## The start hold (R66) -/

/-- R66: the hold timer reaches 0: it stops, and hold expired becomes yes. A stopped timer does not expire (log entry 2); a
running one expires whatever time it still holds (log entry 40, the model's choice). -/
def State.expireHold (s : State) : State :=
  if s.run.holdTimer.isSome then
    (({ s with run := { s.run with holdTimer := none, holdExpired := true } } : State).testStarting).closeEvent s
  else s

/-! ## The supervision timer (R160, R161) -/

/-- R160: the timer set from an interval; 0 is OFF. -/
def Supervision.setFor (interval : Nat) (v : Supervision) : Supervision :=
  if interval = 0 then { v with condition := .off, remaining := 0 }
  else { v with condition := .counting, remaining := interval }

/-- R160, R161: a complete request handed on: the timer is set from the interval, and fallback ends. -/
def State.restartSupervision (s : State) : State :=
  { s with supervision := { s.supervision.setFor s.profile.supervisionInterval with fallback := false } }

/-- R160: an accepted amendment of the interval. -/
def State.intervalTaken (s : State) : State :=
  { s with supervision := s.supervision.setFor s.profile.supervisionInterval }

/-- R73: the entry into fallback at run control. -/
def State.selfStart (s : State) : State :=
  if s.profile.fallbackRun ∧ s.run.state = .idle then s.startRun else s

/-- R161: the remaining time reaches 0 while COUNTING. The row is that moment, whatever time the timer still holds (log entry
40, the model's choice). -/
def State.expireSupervision (s : State) : State :=
  if s.supervision.condition = .counting then
    ((({ s with supervision := { condition := .expired, remaining := 0, fallback := true } } : State).raiseCause
      .fallback).selfStart).closeEvent s
  else s

/-- SUMMARY items 121 to 123 (R161). -/
def State.supervisionItems (s : State) : List (Nat × Option Int) :=
  [(121, some s.supervision.condition.code),
   (122, some (if s.supervision.condition = .counting then (s.supervision.remaining : Int) else 0)),
   (123, some (yesNo s.supervision.fallback))]

/-! ## The depot clock (R98) -/

/-- R98: the minute advances, and the minute event is taken. An UNSET clock makes none (R97). The row is that moment, whatever
the seconds count is (log entry 40, the model's choice). -/
def State.advanceMinute (s : State) : State :=
  match s.clock.time with
  | some t => ({ s with clock := { time := some t.next, seconds := 0 } } : State).takeMinute s
  | none => s

/-! ## One second of the internal time base (log entry 3) -/

/-- The timers that a second can bring to their end. -/
inductive TimerKind where
  | hold | supervision | minute
  deriving DecidableEq, Repr

/-- The timer runs out with this second. -/
def State.timerDue (s : State) : TimerKind → Bool
  | .hold => match s.run.holdTimer with
    | some r => decide (r ≤ 1)
    | none => false
  | .supervision => s.supervision.condition == .counting && decide (s.supervision.remaining ≤ 1)
  | .minute => s.clock.time.isSome && decide (59 ≤ s.clock.seconds)

/-- R66, R98, R160: the second counted at each running timer that does not run out with it. -/
def State.countSecond (s : State) : State :=
  { s with
    run :=
      if s.timerDue .hold then s.run else { s.run with holdTimer := s.run.holdTimer.map fun r => r - 1 }
    supervision :=
      if s.supervision.condition = .counting ∧ s.timerDue .supervision = false then
        { s.supervision with remaining := s.supervision.remaining - 1 }
      else s.supervision
    clock :=
      if s.clock.time.isSome ∧ s.timerDue .minute = false then { s.clock with seconds := s.clock.seconds + 1 }
      else s.clock }

/-- The event of a timer that runs out. -/
def State.timerEvent (s : State) : TimerKind → State
  | .hold => s.expireHold
  | .supervision => s.expireSupervision
  | .minute => s.advanceMinute

/-- The six orders of the three timers. -/
def timerOrder (choice : Nat) : List TimerKind :=
  match choice % 6 with
  | 0 => [.hold, .supervision, .minute]
  | 1 => [.hold, .minute, .supervision]
  | 2 => [.supervision, .hold, .minute]
  | 3 => [.supervision, .minute, .hold]
  | 4 => [.minute, .hold, .supervision]
  | _ => [.minute, .supervision, .hold]

/-- One second. When more than one timer runs out with it, their order is a free value. -/
def State.passSecond (s : State) : State :=
  let due := (timerOrder 0).filter s.timerDue
  if due.length ≤ 1 then due.foldl State.timerEvent s.countSecond
  else
    ((timerOrder (Config.tickOrder s.freeIndex)).filter s.timerDue).foldl State.timerEvent
      { s.countSecond with freeIndex := s.freeIndex + 1 }

/-- What a step does on an empty queue. -/
def idleStep (s : State) : Host.Outcome State Fault Refusal := ifPowered State.passSecond s

/-! ## The commands -/

/-- HOLD_TIMER_EXPIRY. -/
def execHoldTimerExpiry (s : State) : Host.Outcome State Fault Refusal := ifPowered State.expireHold s

/-- SUPERVISION_EXPIRY. -/
def execSupervisionExpiry (s : State) : Host.Outcome State Fault Refusal := ifPowered State.expireSupervision s

/-- MINUTE_EVENT. -/
def execMinuteEvent (s : State) : Host.Outcome State Fault Refusal := ifPowered State.advanceMinute s

end Sys2Proof.Machine
end

