-- ==== Sys2Proof/Machine/Answers.lean ====
section
/-! DEFINITION. What the owners of requests share: accepted answers, LOOKUP and LIST (R152, R153), and the values a body's
pairs carry (R166). -/

namespace Sys2Proof.Machine

/-- A request carried out that leaves the state `t`. -/
def accept (body : List Byte) (t : State) : Answer := { status := .done, failing := 0, body := body, state := t }

/-- A request carried out whose changes are settled at the end of its event; the body is read from the records as the
request has left them (R149). -/
def State.settled (before after : State) (body : State → List Byte) : Answer :=
  accept (body (after.closeEvent before)) (after.closeEvent before)

/-- A record in LOOKUP form, or NOT_FOUND. -/
def lookupAnswer (record : Option (List (Option Int))) (s : State) : Answer :=
  match record with
  | some values => accept (valuesBody values) s
  | none => refuse .notFound 0 s

/-- R153: the answer to a LIST of a table's keys. -/
def listAnswer (keys : List Nat) (start : Nat) (count : Option Byte) (s : State) : Answer :=
  accept (listBody keys start (listCount count)) s

/-- The record of a key in LOOKUP form, empty where no record holds the key. -/
def recordBody (record : Option (List (Option Int))) : List Byte := (record.map valuesBody).getD []

/-- The bus record of a key in LOOKUP form. -/
def State.busValues (k : Nat) (s : State) : Option (List (Option Int)) := (s.bus? k).map Bus.values

/-- The berth record of a key in LOOKUP form. -/
def State.berthValues (n : Nat) (s : State) : Option (List (Option Int)) := (s.berth? n).map Berth.values

/-- The ticket record of a key in LOOKUP form. -/
def State.ticketValues (k : Nat) (s : State) : Option (List (Option Int)) := (s.ticket? k).map Ticket.values

/-- The pledge record of a key in LOOKUP form. -/
def State.pledgeValues (k : Nat) (s : State) : Option (List (Option Int)) := (s.pledge? k).map Pledge.values

/-- A number a body carries, or else a default. -/
def natField (pairs : List Pair) (ident default : Nat) : Nat := ((carriedFor pairs ident).map Int.toNat).getD default

/-- A yes or no a body carries, or else a default. -/
def flagField (pairs : List Pair) (ident : Nat) (default : Bool) : Bool :=
  ((carriedFor pairs ident).map fun v => v == 1).getD default

/-- The answer to a key that a request finds in its table. -/
def withRecord {α : Type} (record : Option α) (s : State) (answer : α → Answer) : Answer :=
  match record with
  | some r => answer r
  | none => refuse .notFound 0 s

/-- The answer to a body whose pairs pass their check (R152). -/
def withPairs (check : Option (Status × Nat)) (s : State) (answer : Answer) : Answer :=
  match check with
  | some failure => refuse failure.1 failure.2 s
  | none => answer

end Sys2Proof.Machine
end

