-- ==== Sys2Proof/Machine/BerthRequests.lean ====
section
/-! DEFINITION. The berth table as an owner of requests (R23 to R29). -/

namespace Sys2Proof.Machine

/-- The identifiers of the six topology fields (section 2.1). -/
def topologyFields : List Nat := [2, 3, 4, 5, 6, 7]

/-- R26: the body carries a topology field. -/
def carriesTopology (pairs : List Pair) : Bool := topologyFields.any (carries pairs)

/-- R25: the record an ENROL creates. -/
def enrolledBerth (key : Nat) (pairs : List Pair) : Berth :=
  newBerth key (natField pairs 2 0) (natField pairs 3 0) (natField pairs 4 0) (natField pairs 5 0) (natField pairs 6 0)
    ((carriedFor pairs 7).getD 0) (flagField pairs 8 false)

/-- R25: an ENROL of a berth. -/
def State.enrolBerth (key : Nat) (pairs : List Pair) (s : State) : Answer :=
  if s.run.state ≠ .idle then refuse .busy 0 s
  else if key = 0 ∨ 32 < key then refuse .badField 1 s
  else if (s.berth? key).isSome then refuse .existsAlready 0 s
  else withPairs (checkPairs 19 berthFieldFits [2, 3, 4, 5] [] pairs) s <|
    s.settled ({ s with berths := insertByKey Berth.number (enrolledBerth key pairs) s.berths } : State).requestPass
      fun t => recordBody (t.berthValues key)

/-- R26: the topology fields of a berth amended. -/
def Berth.amend (pairs : List Pair) (b : Berth) : Berth :=
  { b with
    branch := natField pairs 2 b.branch
    trench := natField pairs 3 b.trench
    position := natField pairs 4 b.position
    maxImport := natField pairs 5 b.maxImport
    maxExport := natField pairs 6 b.maxExport
    correction := (carriedFor pairs 7).getD b.correction }

/-- R28, R29: the out-of-service setting an amendment carries, if any. -/
def State.serviceTaken (key : Nat) (pairs : List Pair) (s : State) : State :=
  match carriedFor pairs 8 with
  | none => s
  | some v => if v = 1 then s.setOutOfService key else s.updBerth key Berth.restore

/-- R26: an accepted amendment; one of a topology field raises a pass. -/
def State.berthAmended (key : Nat) (pairs : List Pair) (s : State) : State :=
  let amended := (s.updBerth key (Berth.amend pairs)).serviceTaken key pairs
  if carriesTopology pairs then amended.requestPass else amended

/-- R26: an AMEND of a berth. -/
def State.amendBerth (key : Nat) (pairs : List Pair) (s : State) : Answer :=
  withRecord (s.berth? key) s fun b =>
    if carriesTopology pairs ∧ s.run.state ≠ .idle then refuse .busy 0 s
    else if carries pairs 2 ∧ b.countedImport ≠ 0 then refuse .busy 0 s
    else withPairs (checkPairs 19 berthFieldFits [] [] pairs) s <|
      s.settled (s.berthAmended key pairs) fun t => recordBody (t.berthValues key)

/-- R27: the record ceases to exist, and the berth leaves the sweep. -/
def State.berthRetired (key : Nat) (s : State) : State :=
  (({ s with berths := eraseKey Berth.number key s.berths } : State).leaveLine key).requestPass

/-- R27: a RETIRE of a berth. -/
def State.retireBerth (key : Nat) (s : State) : Answer :=
  withRecord (s.berth? key) s fun b =>
    if s.run.state ≠ .idle then refuse .busy 0 s
    else if b.state ≠ .vacant ∧ b.state ≠ .outOfService then refuse .badState 0 s
    else s.settled (s.berthRetired key) fun _ => []

end Sys2Proof.Machine
end

