-- ==== Sys2Proof/Machine/BusRequests.lean ====
section
/-! DEFINITION. The bus table as an owner of requests (R1 to R5). -/

namespace Sys2Proof.Machine

/-- R3: the record an ENROL creates; its derived fields are set at the end of the event. -/
def newBus (key : Nat) (pairs : List Pair) : Bus where
  fleet := key
  capacity := natField pairs 2 0
  rateCap := natField pairs 3 0
  reserveEligible := flagField pairs 4 false
  inService := flagField pairs 5 true
  state := .away
  berth := none
  ticket := none
  held := none
  temperature := none
  band := none
  acceptance := none
  packFault := false
  freshness := .noReport
  floor := 0
  exportEligible := false
  thermal := 0
  charge := 0

/-- R3: an ENROL of a bus. -/
def State.enrolBus (key : Nat) (pairs : List Pair) (s : State) : Answer :=
  if key = 0 ∨ 9999 < key then refuse .badField 1 s
  else if (s.bus? key).isSome then refuse .existsAlready 0 s
  else withPairs (checkPairs 16 busFieldFits [2, 3] [] pairs) s <|
    if Config.busSlots ≤ s.buses.length then refuse .full 0 s
    else s.settled { s with buses := insertByKey Bus.fleet (newBus key pairs) s.buses } fun t =>
      recordBody (t.busValues key)

/-- R4: the host fields of a bus amended; a held energy above the new usable capacity is clipped to it. -/
def Bus.amend (pairs : List Pair) (b : Bus) : Bus :=
  { b with
    capacity := natField pairs 2 b.capacity
    rateCap := natField pairs 3 b.rateCap
    reserveEligible := flagField pairs 4 b.reserveEligible
    inService := flagField pairs 5 b.inService
    held := b.held.map fun h => min h (natField pairs 2 b.capacity) }

/-- R4: an AMEND of a bus. -/
def State.amendBus (key : Nat) (pairs : List Pair) (s : State) : Answer :=
  withRecord (s.bus? key) s fun _ =>
    withPairs (checkPairs 16 busFieldFits [] [] pairs) s <|
      s.settled (s.updBus key (Bus.amend pairs)) fun t => recordBody (t.busValues key)

/-- R5: a RETIRE of a bus. -/
def State.retireBus (key : Nat) (s : State) : Answer :=
  withRecord (s.bus? key) s fun b =>
    if b.state = .attached ∨ b.ticket.isSome then refuse .inUse 0 s
    else s.settled { s with buses := eraseKey Bus.fleet key s.buses } fun _ => []

end Sys2Proof.Machine
end

