-- ==== Sys2Proof/Machine/PledgeRequests.lean ====
section
/-! DEFINITION. The pledge table as an owner of requests (R114 to R117, R129, R130). -/

namespace Sys2Proof.Machine

/-- Section 7.1: the kind a code names, CURTAIL 0 and EXPORT 1. -/
def pledgeKindOf (code : Int) : PledgeKind := if code = 1 then .exporting else .curtail

/-- The kind a body carries, or else a default. -/
def kindField (pairs : List Pair) (default : PledgeKind) : PledgeKind :=
  ((carriedFor pairs 2).map pledgeKindOf).getD default

/-- R117: the record with the amended host fields. -/
def Pledge.amend (pairs : List Pair) (p : Pledge) : Pledge :=
  { p with
    kind := kindField pairs p.kind
    start := natField pairs 3 p.start
    duration := natField pairs 4 p.duration
    committed := natField pairs 5 p.committed
    yields := flagField pairs 6 p.yields }

/-- R116: the record an ENROL creates. -/
def newPledge (key : Nat) (pairs : List Pair) : Pledge :=
  Pledge.amend pairs
    { id := key, kind := .curtail, start := 0, duration := 0, committed := 0, yields := false, state := .booked
      forecast := none, grade := none, delivered := 0, shortMinutes := 0, worst := 0, outcome := none }

/-- R116, check 4: yields to readiness is not yes when kind is EXPORT. -/
def yieldsFailing (p : Pledge) : List Nat := if p.kind = .exporting ∧ p.yields then [6] else []

/-- R116, check 5. -/
def State.startFits (p : Pledge) (s : State) : Bool :=
  match s.now with
  | some now =>
    earlier now p.start && decide ((s.profile.armingLead : Int) ≤ minutesFrom now p.start)
      && decide (p.windowEnd ≤ Config.lastMinute)
  | none => false

/-- R115: the commitment test of a set, against the ceilings of the profile. -/
def State.admits (set : List Pledge) (s : State) : Bool :=
  commitmentTest s.profile.reserveCeiling s.profile.exportCeiling set

/-- R115: the live pledges. -/
def State.livePledges (s : State) : List Pledge := s.pledges.filter Pledge.isLive

/-- R116: an ENROL of a pledge. -/
def State.enrolPledge (key : Nat) (pairs : List Pair) (s : State) : Answer :=
  let p := newPledge key pairs
  if key = 0 then refuse .badField 1 s
  else if s.clock.time.isNone then refuse .clockUnset 0 s
  else if (s.pledge? key).isSome then refuse .existsAlready 0 s
  else withPairs (checkPairs 13 pledgeFieldFits [2, 3, 4, 5] (yieldsFailing p) pairs) s <|
    if !s.startFits p then refuse .badField 3 s
    else if Config.pledgeSlots ≤ s.pledges.length then refuse .full 0 s
    else if !s.admits (p :: s.livePledges) then refuse .overCeiling 0 s
    else s.settled { s with pledges := insertByKey Pledge.id p s.pledges } fun t => recordBody (t.pledgeValues key)

/-- R117: an AMEND of a pledge. -/
def State.amendPledge (key : Nat) (pairs : List Pair) (s : State) : Answer :=
  withRecord (s.pledge? key) s fun old =>
    let p := old.amend pairs
    if old.state ≠ .booked then refuse .badState 0 s
    else withPairs (checkPairs 13 pledgeFieldFits [] (yieldsFailing p) pairs) s <|
      if !s.startFits p then refuse .badField 3 s
      else if !s.admits (p :: eraseKey Pledge.id key s.livePledges) then refuse .overCeiling 0 s
      else s.settled (s.updPledge key (Pledge.amend pairs)) fun t => recordBody (t.pledgeValues key)

/-- R130: a RETIRE of a pledge. -/
def State.retirePledge (key : Nat) (s : State) : Answer :=
  withRecord (s.pledge? key) s fun p =>
    if p.isActing then refuse .badState 0 s
    else s.settled { s with pledges := eraseKey Pledge.id key s.pledges } fun _ => []

/-- R129: the pledge withdrawn; with yields to readiness yes the yield list is brought up to date. -/
def State.pledgeWithdrawn (p : Pledge) (s : State) : State :=
  let ended := s.updPledge p.id (Pledge.completeWith .withdrawn)
  if p.isYielding then ended.updateYield [] else ended

/-- R129: WITHDRAW. -/
def State.withdraw (key : Nat) (s : State) : Answer :=
  withRecord (s.pledge? key) s fun p =>
    if p.isActing then s.settled (s.pledgeWithdrawn p) fun _ => [] else refuse .badState 0 s

end Sys2Proof.Machine
end

