-- ==== Sys2Proof/Machine/ProfileRequests.lean ====
section
/-! DEFINITION. The profile store as an owner of requests (R162). -/

namespace Sys2Proof.Machine

/-- R162: a LOOKUP of the profile. -/
def State.lookupProfile (key : Nat) (s : State) : Answer :=
  if key ≠ 0 then refuse .notFound 0 s else lookupAnswer (some (s.profile.values.map some)) s

/-- R162: the settings a body carries, applied. -/
def Profile.amend (pairs : List Pair) (p : Profile) : Profile :=
  pairs.foldl (fun q x => match pairCarried x with
    | some v => q.put (pairId x) v
    | none => q) p

/-- The body carries one of some settings. -/
def carriesAny (pairs : List Pair) (idents : List Nat) : Bool := idents.any (carries pairs)

/-- R162, check 2: the run is IDLE and the counted import of every berth is 0. -/
def State.limitsFree (s : State) : Bool :=
  s.run.state == .idle && s.berths.all fun b => b.countedImport == 0

/-- R162: the base load is lowered to an amended feeder import limit below it. -/
def State.feederLimitTaken (s : State) : State :=
  { s with alloc := { s.alloc with baseLoad := min s.alloc.baseLoad s.profile.feederLimit } }

/-- An effect of the settings named, made only when the body carries one of them. -/
def State.onCarried (pairs : List Pair) (idents : List Nat) (effect : State → State) (s : State) : State :=
  if carriesAny pairs idents then effect s else s

/-- R162: each changed setting handed to the blocks that act on it at once: feeder import limit, trip mode (R137),
supervision interval (R160), and the settings that raise a pass (R80). -/
def State.profileAmended (pairs : List Pair) (s : State) : State :=
  (((({ s with profile := s.profile.amend pairs } : State).onCarried pairs [1] State.feederLimitTaken).onCarried
    pairs [9] State.tripModeTaken).onCarried pairs [30] State.intervalTaken).onCarried
      pairs [2, 3, 4, 5, 17, 18, 19] State.requestPass

/-- R162: an AMEND of the profile. -/
def State.amendProfile (key : Nat) (pairs : List Pair) (s : State) : Answer :=
  let p := s.profile.amend pairs
  if key ≠ 0 then refuse .notFound 0 s
  else withPairs (checkPairs 59 profileFieldFits [] [] pairs) s <|
    if carriesAny pairs [1, 2, 3, 4, 5] ∧ s.limitsFree = false then refuse .busy 0 s
    else if carriesAny pairs [6, 7] ∧ commitmentTest p.reserveCeiling p.exportCeiling s.livePledges = false then
      refuse .overCeiling 0 s
    else s.settled (s.profileAmended pairs) fun t => recordBody (some (t.profile.values.map some))

end Sys2Proof.Machine
end

