-- ==== Sys2Proof/Machine/TicketRequests.lean ====
section
/-! DEFINITION. The ticket table as an owner of requests (R101 to R105). -/

namespace Sys2Proof.Machine

/-- R102: the fields an ENROL may carry, the host fields other than bus. -/
def ticketEnrolFits (ident : Nat) (v : Int) : Bool := decide (ident ≠ 7) && ticketFieldFits ident v

/-- R102: the record an ENROL creates. -/
def newTicket (key : Nat) (pairs : List Pair) : Ticket where
  id := key
  route := natField pairs 2 0
  departure := natField pairs 3 0
  need := natField pairs 4 0
  lead := natField pairs 5 0
  power := natField pairs 6 0
  bus := none
  lastBus := none
  state := .opened
  grade := none
  projected := none
  readyAtRelease := none

/-- R102, check 5: a departure later than the present depot time. -/
def State.departureLater (departure : Nat) (s : State) : Bool :=
  match s.now with
  | some now => earlier now departure
  | none => false

/-- R102: an ENROL of a ticket. -/
def State.enrolTicket (key : Nat) (pairs : List Pair) (s : State) : Answer :=
  if key = 0 then refuse .badField 1 s
  else if s.clock.time.isNone then refuse .clockUnset 0 s
  else if (s.ticket? key).isSome then refuse .existsAlready 0 s
  else withPairs (checkPairs 12 ticketEnrolFits [2, 3, 4] [] pairs) s <|
    if !s.departureLater (natField pairs 3 0) then refuse .badField 3 s
    else if Config.ticketSlots ≤ s.tickets.length then refuse .full 0 s
    else s.settled { s with tickets := insertByKey Ticket.id (newTicket key pairs) s.tickets } fun t =>
      recordBody (t.ticketValues key)

/-- R103: the record with the amended route, departure, need and preheat. -/
def Ticket.amend (pairs : List Pair) (t : Ticket) : Ticket :=
  { t with
    route := natField pairs 2 t.route
    departure := natField pairs 3 t.departure
    need := natField pairs 4 t.need
    lead := natField pairs 5 t.lead
    power := natField pairs 6 t.power }

/-- R104: assignment to a bus, from OPEN or as the new side of a move. -/
def Ticket.assign (k : Nat) (t : Ticket) : Ticket := { t with state := .assigned, bus := some k, lastBus := some k }

/-- R104: assignment, unassignment and move, by the bus the ticket names and the bus value carried. -/
def State.busTaken (t : Ticket) (value : Nat) (s : State) : State :=
  if value = 0 then
    match t.bus with
    | some _ => (s.updTicket t.id (Ticket.leave .opened)).unlinkBus t.bus
    | none => s
  else if t.bus = some value then s
  else ((s.unlinkBus t.bus).updTicket t.id (Ticket.assign value)).linkBus value t.id

/-- R103: an accepted amendment. -/
def State.ticketAmended (t : Ticket) (pairs : List Pair) (s : State) : State :=
  let amended := s.updTicket t.id (Ticket.amend pairs)
  match carriedFor pairs 7 with
  | some v => amended.busTaken t v.toNat
  | none => amended

/-- R104: the checks of a bus value: the refusal, if any. -/
def State.busRefusal (key value : Nat) (s : State) : Option (Status × Nat) :=
  if value = 0 then none
  else match s.bus? value with
    | none => some (.notFound, 7)
    | some b => if b.ticket.isSome ∧ b.ticket ≠ some key then some (.conflict, 0) else none

/-- R103, steps 3 and 4. -/
def State.ticketRefusal (key : Nat) (pairs : List Pair) (s : State) : Option (Status × Nat) :=
  if (carriedFor pairs 3).any fun v => !s.departureLater v.toNat then some (.badField, 3)
  else (carriedFor pairs 7).bind fun v => s.busRefusal key v.toNat

/-- R103: an AMEND of a ticket. -/
def State.amendTicket (key : Nat) (pairs : List Pair) (s : State) : Answer :=
  withRecord (s.ticket? key) s fun t =>
    if t.state = .released ∨ t.state = .missed then refuse .badState 0 s
    else withPairs (checkPairs 12 ticketFieldFits [] [] pairs) s <|
      withPairs (s.ticketRefusal key pairs) s <|
        s.settled (s.ticketAmended t pairs) fun u => recordBody (u.ticketValues key)

/-- R105: a RETIRE of a ticket. -/
def State.retireTicket (key : Nat) (s : State) : Answer :=
  withRecord (s.ticket? key) s fun t =>
    s.settled (({ s with tickets := eraseKey Ticket.id key s.tickets } : State).unlinkBus t.bus) fun _ => []

end Sys2Proof.Machine
end

