-- ==== Sys2Proof/Machine/ControlRequests.lean ====
section
/-! DEFINITION. SUMMARY (R154), ATTEND (R158) and the CONTROL functions at their owners (R64, R67, R72, R99, R129, R135,
R138, R139, and the reset rules of every block). -/

namespace Sys2Proof.Machine

/-! ## SUMMARY and ATTEND -/

/-- R154: the 70 items, in identifier order (R165). -/
def State.summaryItems (s : State) : List (Nat × Option Int) :=
  s.storageItems ++ s.lineItems ++ s.runItems ++ s.feederItems ++ s.ticketItems ++ s.pledgeItems ++ s.gridItems
    ++ s.attentionItems ++ s.supervisionItems

/-- R154: a SUMMARY changes no record. -/
def State.summaryAnswer (s : State) : Answer := accept (pairsBody s.summaryItems) s

/-- R158: acknowledgement, then report. -/
def State.attendAnswer (causes : List Byte) (s : State) : Answer :=
  accept (pairsBody (s.acknowledge causes).attentionItems) (s.acknowledge causes)

/-! ## The run (R64, R67, R72) -/

/-- Section 11.1.4: the body of a RUN_START response: run state, reason, detail. -/
def State.runStartBody (s : State) : List Byte := pairsBody (s.runStateItem :: s.reasonItems)

/-- R64: the status of a RUN_START taken in IDLE. -/
def startStatus : Option (InvalidReason × Option Nat) → Status
  | none => .done
  | some (.clockUnset, _) => .clockUnset
  | some (.noBerth, _) => .badState
  | some (.branchLimit, _) => .badState
  | some (.sharedPlace, _) => .badState

/-- R64: RUN_START. Its response carries the run state, reason and detail whatever its status (log entry 38). -/
def State.runStart (s : State) : Answer :=
  if s.run.state ≠ .idle then { refuse .busy 0 s with body := s.runStartBody }
  else { s.settled s.startRun State.runStartBody with status := startStatus s.planFault }

/-- R74: the body of a RUN_STOP, PAUSE or RESUME response. -/
def State.runBody (s : State) : List Byte := pairsBody [s.runStateItem]

/-- R72: RUN_STOP. -/
def State.runStopAnswer (s : State) : Answer := s.settled s.stopRun State.runBody

/-- R67: PAUSE. -/
def State.pauseAnswer (s : State) : Answer := s.settled (s.setSources true s.run.thermalPause) State.runBody

/-- R67: RESUME. -/
def State.resumeAnswer (s : State) : Answer := s.settled (s.setSources false s.run.thermalPause) State.runBody

/-! ## The grid line monitor (R135, R138, R139) -/

/-- R138: ALL_STOP. -/
def State.allStopRequest (s : State) : Answer := s.settled s.allStop fun t => pairsBody t.allStopAnswer

/-- R139: CLEAR_STOP. -/
def State.clearStopRequest (s : State) : Answer := s.settled s.clearStop fun t => pairsBody t.clearStopAnswer

/-- R135: ACK_TRIP. -/
def State.ackTripRequest (s : State) : Answer := s.settled s.ackTrip fun t => pairsBody t.tripAnswer

/-! ## The depot clock (R99, R100) -/

/-- R99: the day and the minute and their ranges. -/
def clockFieldFits (ident : Nat) (v : Int) : Bool :=
  match ident with
  | 1 => within 0 65535 v
  | 2 => within 0 1439 v
  | _ => false

/-- R99: the clock takes the day and minute, with the seconds at 0. -/
def State.clockTaken (pairs : List Pair) (s : State) : State :=
  { s with clock := { time := some { day := natField pairs 1 0, minute := natField pairs 2 0 }, seconds := 0 } }

/-- R112: "The response to SET_CLOCK carries the day and minute as the request has left them". -/
def State.clockBody (s : State) : List Byte := pairsBody s.clockItems

/-- R99, R100: SET_CLOCK. An accepted set is one minute event at the new time. Its response carries the day and minute
whatever its status (R112; log entry 38). -/
def State.setClock (pairs : List Pair) (s : State) : Answer :=
  let answer := withPairs (checkPairs 2 clockFieldFits [1, 2] [] pairs) s <|
    if s.pledges.any Pledge.isActing then refuse .busy 0 s else accept [] ((s.clockTaken pairs).takeMinute s)
  { answer with body := answer.state.clockBody }

/-! ## RECORDS_RESET -/

/-- R41, R62: a berth record after a records reset. -/
def Berth.afterReset (b : Berth) : Berth :=
  { b with
    state := if b.state = .outOfService then .outOfService else .vacant
    occupant := none, foreignReason := none, faultCause := none, dispenserCode := none
    wanted := 0, decided := 0, retryWait := false, grantDue := decide (b.sent ≠ 0) }

/-- R62: the link controller after a records reset. The exchange in flight, the line condition and the meter miss count
are kept; the next exchange is the POLL that begins a new round. An exchange that R58 has made void before the reset stays
void, so its outcome is discarded (log entry 43, the model's choice). -/
def BerthLine.afterReset (l : BerthLine) : BerthLine :=
  { l with
    nextSend := none
    restart := if l.condition = .frames then true else l.restart
    roundList := [], sweep := .start, roundOpen := false, qualifying := false
    roundCounter := 0, firstRound := false, grantCount := 0 }

/-- R75: run control after a records reset. -/
def RunControl.afterReset (r : RunControl) : RunControl :=
  { r with
    state := .idle, holdTimer := none, holdExpired := false
    abortCause := none, invalidReason := none, invalidDetail := none }

/-- R22, R41, R62, R75, R96, R113, R132, R159: every block's own reset rule; the clock, the grid line monitor, the profile,
OVERRUN and the timer are kept (R113, R144, R163, R155, R160). -/
def State.recordsCleared (s : State) : State :=
  ({ s with
      buses := []
      berths := s.berths.map Berth.afterReset
      line := s.line.afterReset
      run := s.run.afterReset
      tickets := []
      pledges := []
      reserve := { yieldList := [], curtailCommitment := 0, readinessYield := 0, exportCommitment := 0 }
      attention := { flags := s.attention.flags &&& survivingCauses, armed := true } } : State).requestPass

/-- RECORDS_RESET. -/
def State.recordsReset (s : State) : Answer := s.settled s.recordsCleared fun _ => []

end Sys2Proof.Machine
end

