-- ==== Sys2Proof/Machine/DepotLink.lean ====
section
/-! DEFINITION. The depot link (chapter 9): transactions (R145), segments (R147, R148), dispatch (R149, R151), collection
(R150), and the commands that stand for one whole request each (log entry 1). -/

namespace Sys2Proof.Machine

/-! ## Owners (R151) -/

/-- R151: the owner of a request takes it. The kinds that do not apply to the profile do not pass the head check. -/
def State.owner (s : State) : Request → Answer
  | .lookup .bus k => lookupAnswer (s.busValues k) s
  | .lookup .berth k => lookupAnswer (s.berthValues k) s
  | .lookup .ticket k => lookupAnswer (s.ticketValues k) s
  | .lookup .pledge k => lookupAnswer (s.pledgeValues k) s
  | .lookup .profile k => s.lookupProfile k
  | .list .bus k count => listAnswer (s.buses.map Bus.fleet) k count s
  | .list .berth k count => listAnswer (s.berths.map Berth.number) k count s
  | .list .ticket k count => listAnswer (s.tickets.map Ticket.id) k count s
  | .list .pledge k count => listAnswer (s.pledges.map Pledge.id) k count s
  | .list .profile _ _ => refuse .badRequest 0 s
  | .enrol .bus k ps => s.enrolBus k ps
  | .enrol .berth k ps => s.enrolBerth k ps
  | .enrol .ticket k ps => s.enrolTicket k ps
  | .enrol .pledge k ps => s.enrolPledge k ps
  | .enrol .profile _ _ => refuse .badRequest 0 s
  | .amend .bus k ps => s.amendBus k ps
  | .amend .berth k ps => s.amendBerth k ps
  | .amend .ticket k ps => s.amendTicket k ps
  | .amend .pledge k ps => s.amendPledge k ps
  | .amend .profile k ps => s.amendProfile k ps
  | .retire .bus k => s.retireBus k
  | .retire .berth k => s.retireBerth k
  | .retire .ticket k => s.retireTicket k
  | .retire .pledge k => s.retirePledge k
  | .retire .profile _ => refuse .badRequest 0 s
  | .summary => s.summaryAnswer
  | .attend causes => s.attendAnswer causes
  | .control .runStart => s.runStart
  | .control .runStop => s.runStopAnswer
  | .control .pause => s.pauseAnswer
  | .control .resume => s.resumeAnswer
  | .control .allStop => s.allStopRequest
  | .control .clearStop => s.clearStopRequest
  | .control .ackTrip => s.ackTripRequest
  | .control (.withdraw k) => s.withdraw k
  | .control (.setClock ps) => s.setClock ps
  | .control .saveProfile => accept [] s
  | .control .recordsReset => s.recordsReset

/-! ## Dispatch (R149) -/

/-- R149: the response is placed, and the assembly becomes absent. -/
def State.place (bytes : List Byte) (s : State) : State :=
  { s with
    depot :=
      { s.depot with
        state := .responseWaiting, assembly := none, response := some { bytes := bytes, position := 0 } } }

/-- R149: an owner's answer is placed as the response. -/
def Answer.respond (h : RequestHead) (a : Answer) : State :=
  a.state.place (responseBytes a.status h a.failing a.body)

/-- R149, R164: SAVE_PROFILE is taken: the image as it stands begins to be written, and the link is WORKING. -/
def State.beginSave (h : RequestHead) (s : State) : State :=
  { s with
    depot := { s.depot with state := .working, assembly := none }
    store := { s.store with write := some { bytes := imageBytes s.profile s.berths, head := h } } }

/-- R149: a request that has passed the head check reaches its owner. -/
def State.serve (h : RequestHead) (r : Request) (s : State) : State :=
  if r = .control .saveProfile then s.beginSave h else (s.owner r).respond h

/-- R149, R151: a complete request: the supervision timer restarts, the head is checked, and the owner is reached. -/
def State.dispatch (h : RequestHead) (r : Option Request) (s : State) : State :=
  let t := s.restartSupervision
  match r with
  | some r => if r.formOk then t.serve h r else (refuse .badRequest 0 t).respond h
  | none => (refuse .badRequest 0 t).respond h

/-! ## Transactions (R145, R146) -/

/-- R145: a status byte shifted out whole clears OVERRUN. -/
def State.statusOut (s : State) : State := { s with depot := { s.depot with overrun := false } }

/-- The bytes a transaction has shifted out. -/
def State.shifted (out : List Byte) (s : State) : State := { s with depot := { s.depot with miso := out } }

/-- R145: no SEND is accepted. -/
def State.linkBusy (s : State) : Bool := s.depot.state == .working || s.depot.state == .responseWaiting

/-- R146: a SEND discarded whole. -/
def State.discardSend (s : State) : State :=
  ({ s with depot := { s.depot with overrun := true } } : State).raiseCause .linkOverrun

/-! ## Segments (R147, R148) -/

/-- A whole segment. -/
structure Segment where
  first : Bool
  last : Bool
  total : Nat
  head : RequestHead
  body : List Byte
  deriving DecidableEq, Repr

/-- R147, section 11.1.2: the whole segment that the bytes after the direction byte carry, if any. -/
def parseSegment : List Byte → Option Segment
  | m :: t1 :: t0 :: kind :: table :: k1 :: k0 :: rest =>
    let count := (m.extractLsb' 0 6).toNat
    let total := (joinHalf t1 t0).toNat
    if 56 < count ∨ 1024 < total ∨ rest.length < count then none
    else
      some
        { first := m.getLsbD 7, last := m.getLsbD 6, total := total
          head := { kind := kind, table := table, key := joinHalf k1 k0 }, body := rest.take count }
  | _ => none

/-- R148: an assembly that ends with a mismatch is dropped, and the interface forms the response itself. -/
def State.mismatch (status : Status) (h : RequestHead) (s : State) : State := s.place (responseBytes status h 0 [])

/-- R147: an assembly as a segment leaves it; with the LAST mark the request is complete and is dispatched. -/
def State.assembled (a : Assembly) (last : Bool) (s : State) : State :=
  if last then
    ({ s with depot := { s.depot with assembly := none } } : State).dispatch a.head (parseRequest a.head a.body)
  else { s with depot := { s.depot with state := .assembling, assembly := some a } }

/-- R148, checks 3 and 4, on the body bytes received with this segment's. -/
def lengthMismatch (a : Assembly) (last : Bool) : Bool :=
  decide (a.total < a.body.length) || (last && decide (a.body.length < a.total))

/-- R147, R148: the assembly with a segment's bytes, checked. -/
def State.extend (a : Assembly) (last : Bool) (s : State) : State :=
  if lengthMismatch a last then s.mismatch .lengthMismatch a.head else s.assembled a last

/-- R147: a whole segment taken in READY or ASSEMBLING. -/
def State.takeSegment (g : Segment) (s : State) : State :=
  if g.first then s.extend { head := g.head, total := g.total, body := g.body } g.last
  else match s.depot.assembly with
    | none => s
    | some a =>
      if g.head ≠ a.head then s.mismatch .segmentMismatch a.head
      else if g.total ≠ a.total then s.mismatch .lengthMismatch a.head
      else s.extend { a with body := a.body ++ g.body } g.last

/-- R147: a SEND in READY or ASSEMBLING; a segment that is not whole is discarded. -/
def State.deliver (bytes : List Byte) (s : State) : State :=
  match parseSegment bytes with
  | some g => s.takeSegment g
  | none => s

/-- SEND (R145 to R147): the bytes after the direction byte. With none, the transaction ends with its status byte
(log entry 15). -/
def State.takeSend (bytes : List Byte) (s : State) : State :=
  let t := s.statusOut
  (if bytes.isEmpty then t else if t.linkBusy then t.discardSend else t.deliver bytes).shifted
    (s.statusByte :: fill bytes.length)

/-! ## Collection (R150) -/

/-- R150: the fetch position after a FETCH; the slot frees with the last byte. -/
def State.advance (position : Nat) (s : State) : State :=
  match s.depot.response with
  | some r =>
    if position < r.bytes.length then
      { s with depot := { s.depot with response := some { r with position := position } } }
    else { s with depot := { s.depot with state := .ready, response := none } }
  | none => s

/-- FETCH (R150): the number of bytes clocked after the direction byte. -/
def State.takeFetch (clocked : Nat) (s : State) : State :=
  let t := s.statusOut
  match s.depot.state, s.depot.response with
  | .responseWaiting, some r =>
    let out := (r.bytes.drop r.position).take (min clocked 60)
    (t.advance (r.position + out.length)).shifted (s.statusByte :: out ++ fill (clocked - out.length))
  | _, _ => t.shifted (s.statusByte :: fill clocked)

/-- R145: a transaction by its direction byte. -/
def State.transact (direction : Byte) (bytes : List Byte) (s : State) : State :=
  if direction = 0x5A#8 then s.takeSend bytes
  else if direction = 0xA5#8 then s.takeFetch bytes.length
  else s.statusOut.shifted (s.statusByte :: fill bytes.length)

/-- IGNORED_TRANSACTION (R145). A status byte cut short leaves OVERRUN as it was. -/
def State.ignored (statusWhole : Bool) (direction : Byte) (bytes : List Byte) (s : State) : State :=
  if statusWhole then s.transact direction bytes else s.shifted []

/-! ## Whole requests (log entry 1) -/

/-- The body bytes of the last segment of a request sent in segments of 56 bytes. -/
def lastSegmentLength (bytes : Nat) : Nat := bytes - 56 * ((bytes - 1) / 56)

/-- What the last transaction of a request shifts out, given the state it begins in. -/
def State.requestOut (bytes : Nat) (s : State) : List Byte := s.statusByte :: fill (7 + lastSegmentLength bytes)

/-- The state in which the last segment of a request of several segments is sent, none of them having been discarded. -/
def State.midRequest (s : State) : State := { s with depot := { s.depot with state := .assembling, overrun := false } }

/-- A complete request, with the SEND transactions that carry it. In WORKING and RESPONSE_WAITING each is discarded (R146);
a body above 1024 bytes is never taken (R147); otherwise any assembly is abandoned and the request dispatched. -/
def State.request (h : RequestHead) (r : Request) (s : State) : State :=
  let bytes := r.body.length
  let t := s.statusOut
  if t.linkBusy then
    t.discardSend.shifted ((if bytes ≤ 56 then s else t.discardSend).requestOut bytes)
  else if 1024 < bytes then t.shifted (t.requestOut bytes)
  else
    (({ t with depot := { t.depot with assembly := none } } : State).dispatch h (some r)).shifted
      ((if bytes ≤ 56 then s else s.midRequest).requestOut bytes)

/-- The request head of a kind, a table and a key. -/
def headOf (kind table : Byte) (key : Half) : RequestHead := { kind := kind, table := table, key := key }

/-- The head of a CONTROL request, with table 0 for every function, WITHDRAW included (log entry 27, the model's choice: the
spec gives a CONTROL head no table). Its key is read by WITHDRAW alone. -/
def controlHead (key : Half) : RequestHead := headOf 8#8 0#8 key

/-- A CONTROL request that names no pledge. -/
def State.control (f : Control) (s : State) : State := s.request (controlHead 0#16) (.control f)

/-! ## The commands -/

/-- SEND. -/
def execSend (bytes : List Byte) (s : State) : Host.Outcome State Fault Refusal := ifPowered (State.takeSend bytes) s

/-- FETCH. -/
def execFetch (clocked : Nat) (s : State) : Host.Outcome State Fault Refusal := ifPowered (State.takeFetch clocked) s

/-- IGNORED_TRANSACTION. -/
def execIgnoredTransaction (statusWhole : Bool) (direction : Byte) (bytes : List Byte) (s : State) :
    Host.Outcome State Fault Refusal :=
  ifPowered (State.ignored statusWhole direction bytes) s

/-- LOOKUP_BUS. -/
def execLookupBus (key : Half) (s : State) : Host.Outcome State Fault Refusal :=
  ifPowered (State.request (headOf 1#8 1#8 key) (.lookup .bus key.toNat)) s

/-- LOOKUP_BERTH. -/
def execLookupBerth (key : Half) (s : State) : Host.Outcome State Fault Refusal :=
  ifPowered (State.request (headOf 1#8 2#8 key) (.lookup .berth key.toNat)) s

/-- LOOKUP_TICKET. -/
def execLookupTicket (key : Half) (s : State) : Host.Outcome State Fault Refusal :=
  ifPowered (State.request (headOf 1#8 3#8 key) (.lookup .ticket key.toNat)) s

/-- LOOKUP_PLEDGE. -/
def execLookupPledge (key : Half) (s : State) : Host.Outcome State Fault Refusal :=
  ifPowered (State.request (headOf 1#8 4#8 key) (.lookup .pledge key.toNat)) s

/-- LOOKUP_PROFILE. -/
def execLookupProfile (key : Half) (s : State) : Host.Outcome State Fault Refusal :=
  ifPowered (State.request (headOf 1#8 0#8 key) (.lookup .profile key.toNat)) s

/-- LIST. -/
def execList (table : TableId) (key : Half) (count : Option Byte) (s : State) : Host.Outcome State Fault Refusal :=
  ifPowered (State.request (headOf 2#8 (tableCode table) key) (.list table key.toNat count)) s

/-- ENROL_BUS. -/
def execEnrolBus (key : Half) (pairs : List Pair) (s : State) : Host.Outcome State Fault Refusal :=
  ifPowered (State.request (headOf 3#8 1#8 key) (.enrol .bus key.toNat pairs)) s

/-- ENROL_BERTH. -/
def execEnrolBerth (key : Half) (pairs : List Pair) (s : State) : Host.Outcome State Fault Refusal :=
  ifPowered (State.request (headOf 3#8 2#8 key) (.enrol .berth key.toNat pairs)) s

/-- ENROL_TICKET. -/
def execEnrolTicket (key : Half) (pairs : List Pair) (s : State) : Host.Outcome State Fault Refusal :=
  ifPowered (State.request (headOf 3#8 3#8 key) (.enrol .ticket key.toNat pairs)) s

/-- ENROL_PLEDGE. -/
def execEnrolPledge (key : Half) (pairs : List Pair) (s : State) : Host.Outcome State Fault Refusal :=
  ifPowered (State.request (headOf 3#8 4#8 key) (.enrol .pledge key.toNat pairs)) s

/-- AMEND_BUS. -/
def execAmendBus (key : Half) (pairs : List Pair) (s : State) : Host.Outcome State Fault Refusal :=
  ifPowered (State.request (headOf 4#8 1#8 key) (.amend .bus key.toNat pairs)) s

/-- AMEND_BERTH. -/
def execAmendBerth (key : Half) (pairs : List Pair) (s : State) : Host.Outcome State Fault Refusal :=
  ifPowered (State.request (headOf 4#8 2#8 key) (.amend .berth key.toNat pairs)) s

/-- AMEND_TICKET. -/
def execAmendTicket (key : Half) (pairs : List Pair) (s : State) : Host.Outcome State Fault Refusal :=
  ifPowered (State.request (headOf 4#8 3#8 key) (.amend .ticket key.toNat pairs)) s

/-- AMEND_PLEDGE. -/
def execAmendPledge (key : Half) (pairs : List Pair) (s : State) : Host.Outcome State Fault Refusal :=
  ifPowered (State.request (headOf 4#8 4#8 key) (.amend .pledge key.toNat pairs)) s

/-- AMEND_PROFILE. -/
def execAmendProfile (key : Half) (pairs : List Pair) (s : State) : Host.Outcome State Fault Refusal :=
  ifPowered (State.request (headOf 4#8 0#8 key) (.amend .profile key.toNat pairs)) s

/-- RETIRE_BUS. -/
def execRetireBus (key : Half) (s : State) : Host.Outcome State Fault Refusal :=
  ifPowered (State.request (headOf 5#8 1#8 key) (.retire .bus key.toNat)) s

/-- RETIRE_BERTH. -/
def execRetireBerth (key : Half) (s : State) : Host.Outcome State Fault Refusal :=
  ifPowered (State.request (headOf 5#8 2#8 key) (.retire .berth key.toNat)) s

/-- RETIRE_TICKET. -/
def execRetireTicket (key : Half) (s : State) : Host.Outcome State Fault Refusal :=
  ifPowered (State.request (headOf 5#8 3#8 key) (.retire .ticket key.toNat)) s

/-- RETIRE_PLEDGE. -/
def execRetirePledge (key : Half) (s : State) : Host.Outcome State Fault Refusal :=
  ifPowered (State.request (headOf 5#8 4#8 key) (.retire .pledge key.toNat)) s

/-- SUMMARY. -/
def execSummary (s : State) : Host.Outcome State Fault Refusal :=
  ifPowered (State.request (headOf 6#8 0#8 0#16) .summary) s

/-- ATTEND. -/
def execAttend (causes : List Byte) (s : State) : Host.Outcome State Fault Refusal :=
  ifPowered (State.request (headOf 7#8 0#8 0#16) (.attend causes)) s

/-- RUN_START. -/
def execRunStart (s : State) : Host.Outcome State Fault Refusal := ifPowered (State.control .runStart) s

/-- RUN_STOP. -/
def execRunStop (s : State) : Host.Outcome State Fault Refusal := ifPowered (State.control .runStop) s

/-- PAUSE. -/
def execPause (s : State) : Host.Outcome State Fault Refusal := ifPowered (State.control .pause) s

/-- RESUME. -/
def execResume (s : State) : Host.Outcome State Fault Refusal := ifPowered (State.control .resume) s

/-- ALL_STOP. -/
def execAllStop (s : State) : Host.Outcome State Fault Refusal := ifPowered (State.control .allStop) s

/-- CLEAR_STOP. -/
def execClearStop (s : State) : Host.Outcome State Fault Refusal := ifPowered (State.control .clearStop) s

/-- ACK_TRIP. -/
def execAckTrip (s : State) : Host.Outcome State Fault Refusal := ifPowered (State.control .ackTrip) s

/-- WITHDRAW. -/
def execWithdraw (key : Half) (s : State) : Host.Outcome State Fault Refusal :=
  ifPowered (State.request (controlHead key) (.control (.withdraw key.toNat))) s

/-- SET_CLOCK. -/
def execSetClock (pairs : List Pair) (s : State) : Host.Outcome State Fault Refusal :=
  ifPowered (State.control (.setClock pairs)) s

/-- SAVE_PROFILE. -/
def execSaveProfile (s : State) : Host.Outcome State Fault Refusal := ifPowered (State.control .saveProfile) s

/-- RECORDS_RESET. -/
def execRecordsReset (s : State) : Host.Outcome State Fault Refusal := ifPowered (State.control .recordsReset) s

end Sys2Proof.Machine
end

