-- ==== Sys2Proof/Machine/Power.lean ====
section
/-! DEFINITION. The profile store's nonvolatile write (R164), power failure and POWER_ON (R163). -/

namespace Sys2Proof.Machine

/-- R164: the write ends: the image is stored, and the response of the SAVE_PROFILE is placed. -/
def State.endWrite (s : State) : State :=
  match s.store.write with
  | some w =>
    (accept [] { s with store := { image := w.bytes, write := none } }).respond w.head
  | none => s

/-- R164: what a power failure may leave of an image being written: the old one, the new one, or one that fails its checks.
Which of them is a free value (log entry 12). -/
def tornImage (old new candidate : List Byte) : List Byte :=
  if candidate = old ∨ candidate = new ∨ loadImage candidate = none then candidate else []

/-- The store once power has failed: a write in progress is cut short. -/
def State.cutWrite (s : State) : State :=
  match s.store.write with
  | some w =>
    { s with
      store := { image := tornImage s.store.image w.bytes (Config.tornImage s.freeIndex), write := none }
      freeIndex := s.freeIndex + 1 }
  | none => s

/-- POWER_FAILURE (R164): the part loses its power. What its volatile blocks hold is lost at the next POWER_ON
(log entry 14). -/
def State.losePower (s : State) : State := { s.cutWrite with powered := false }

/-- POWER_ON (R163): the image is read and checked; an accepted one gives the profile and the berth records (R41), a failing
one the defaults, no berths, and PROFILE_DEFAULTED pending (R159). A write in progress is cut short (log entry 13). -/
def State.powerOn (s : State) : State :=
  let t := s.cutWrite
  match loadImage t.store.image with
  | some (p, berths) => State.afterPowerOn p berths 0#14 t.store.image t.freeIndex t.pending
  | none =>
    State.afterPowerOn Profile.defaults [] (causeBit Cause.profileDefaulted.number) t.store.image t.freeIndex t.pending

/-- PROFILE_WRITE_END. -/
def execProfileWriteEnd (s : State) : Host.Outcome State Fault Refusal := ifPowered State.endWrite s

/-- POWER_FAILURE. -/
def execPowerFailure (s : State) : Host.Outcome State Fault Refusal := ifPowered State.losePower s

/-- POWER_ON: applied power or the release of RESET, with the part powered or not. -/
def execPowerOn (s : State) : Host.Outcome State Fault Refusal := .next s.powerOn

end Sys2Proof.Machine
end

