-- ==== Sys2Proof/Machine/Dispatch.lean ====
section
/-! DEFINITION. The dispatch of a command to its meaning, one arm for each constructor of Instr. -/

namespace Sys2Proof.Machine

/-- A command's effect on everything but the queue. -/
def exec (i : Instr) (s : State) : Host.Outcome State Fault Refusal :=
  match i with
  | .send bytes => Sys2Proof.Machine.execSend bytes s
  | .fetch clocked => Sys2Proof.Machine.execFetch clocked s
  | .ignoredTransaction statusWhole direction bytes => Sys2Proof.Machine.execIgnoredTransaction statusWhole direction bytes s
  | .lookupBus key => Sys2Proof.Machine.execLookupBus key s
  | .lookupBerth key => Sys2Proof.Machine.execLookupBerth key s
  | .lookupTicket key => Sys2Proof.Machine.execLookupTicket key s
  | .lookupPledge key => Sys2Proof.Machine.execLookupPledge key s
  | .lookupProfile key => Sys2Proof.Machine.execLookupProfile key s
  | .list table key count => Sys2Proof.Machine.execList table key count s
  | .enrolBus key pairs => Sys2Proof.Machine.execEnrolBus key pairs s
  | .enrolBerth key pairs => Sys2Proof.Machine.execEnrolBerth key pairs s
  | .enrolTicket key pairs => Sys2Proof.Machine.execEnrolTicket key pairs s
  | .enrolPledge key pairs => Sys2Proof.Machine.execEnrolPledge key pairs s
  | .amendBus key pairs => Sys2Proof.Machine.execAmendBus key pairs s
  | .amendBerth key pairs => Sys2Proof.Machine.execAmendBerth key pairs s
  | .amendTicket key pairs => Sys2Proof.Machine.execAmendTicket key pairs s
  | .amendPledge key pairs => Sys2Proof.Machine.execAmendPledge key pairs s
  | .amendProfile key pairs => Sys2Proof.Machine.execAmendProfile key pairs s
  | .retireBus key => Sys2Proof.Machine.execRetireBus key s
  | .retireBerth key => Sys2Proof.Machine.execRetireBerth key s
  | .retireTicket key => Sys2Proof.Machine.execRetireTicket key s
  | .retirePledge key => Sys2Proof.Machine.execRetirePledge key s
  | .summary => Sys2Proof.Machine.execSummary s
  | .attend causes => Sys2Proof.Machine.execAttend causes s
  | .runStart => Sys2Proof.Machine.execRunStart s
  | .runStop => Sys2Proof.Machine.execRunStop s
  | .pause => Sys2Proof.Machine.execPause s
  | .resume => Sys2Proof.Machine.execResume s
  | .allStop => Sys2Proof.Machine.execAllStop s
  | .clearStop => Sys2Proof.Machine.execClearStop s
  | .ackTrip => Sys2Proof.Machine.execAckTrip s
  | .withdraw key => Sys2Proof.Machine.execWithdraw key s
  | .setClock pairs => Sys2Proof.Machine.execSetClock pairs s
  | .saveProfile => Sys2Proof.Machine.execSaveProfile s
  | .profileWriteEnd => Sys2Proof.Machine.execProfileWriteEnd s
  | .recordsReset => Sys2Proof.Machine.execRecordsReset s
  | .powerOn => Sys2Proof.Machine.execPowerOn s
  | .nextExchangeChoice => Sys2Proof.Machine.execNextExchangeChoice s
  | .preambleEnd => Sys2Proof.Machine.execPreambleEnd s
  | .poll => Sys2Proof.Machine.execPoll s
  | .grant => Sys2Proof.Machine.execGrant s
  | .status responder body => Sys2Proof.Machine.execStatus responder body s
  | .meter body => Sys2Proof.Machine.execMeter body s
  | .confirm responder body => Sys2Proof.Machine.execConfirm responder body s
  | .invalidReply chars => Sys2Proof.Machine.execInvalidReply chars s
  | .replyTimeout => Sys2Proof.Machine.execReplyTimeout s
  | .allocationPass => Sys2Proof.Machine.execAllocationPass s
  | .holdTimerExpiry => Sys2Proof.Machine.execHoldTimerExpiry s
  | .supervisionExpiry => Sys2Proof.Machine.execSupervisionExpiry s
  | .minuteEvent => Sys2Proof.Machine.execMinuteEvent s
  | .tripAssertion => Sys2Proof.Machine.execTripAssertion s
  | .tripRelease => Sys2Proof.Machine.execTripRelease s
  | .stopAssertion => Sys2Proof.Machine.execStopAssertion s
  | .stopRelease => Sys2Proof.Machine.execStopRelease s
  | .lineSample trip stop => Sys2Proof.Machine.execLineSample trip stop s
  | .powerFailure => Sys2Proof.Machine.execPowerFailure s

end Sys2Proof.Machine
end

