-- ==== Sys2Proof/Safety.lean ====
section
/-! DEFINITION. What every step keeps: the invariants of the machine; and what the end of an event, what it hands on, the end of
a round, a minute event and an allocation pass do, written out for the statements. -/

namespace Sys2Proof.Machine

/-! ## The tables (R1, R23, R101, R114) -/

/-- Every table is in strictly ascending key within its slots, and every berth number lies in 1 to 32. -/
def State.tablesOk (s : State) : Bool :=
  keysRising Bus.fleet s.buses && decide (s.buses.length ≤ Config.busSlots)
    && keysRising Berth.number s.berths && (s.berths.all fun b => within 1 32 b.number)
    && keysRising Ticket.id s.tickets && decide (s.tickets.length ≤ Config.ticketSlots)
    && keysRising Pledge.id s.pledges && decide (s.pledges.length ≤ Config.pledgeSlots)

/-! ## The links between records (R40, R104) -/

/-- The table of section 2.4: the states in which a berth has an occupant. -/
def Berth.occupantFits (b : Berth) : Bool :=
  match b.state with
  | .vacant => b.occupant.isNone
  | .awaitingId => b.occupant.isNone
  | .occupied => b.occupant.isSome
  | .foreign => b.occupant.isSome
  | .faulted => true
  | .outOfService => b.occupant.isNone

/-- R40: "a berth names a bus as occupant exactly when that bus names the berth", and a bus is ATTACHED exactly when it
names a berth (section 1.3). -/
def State.occupancyOk (s : State) : Bool :=
  (s.berths.all fun b => b.occupantFits && match b.busOccupant with
    | some k => (s.bus? k).bind Bus.berth == some b.number
    | none => true)
  && s.buses.all fun b => match b.berth with
    | some n => (s.berth? n).bind Berth.busOccupant == some b.fleet && b.state == .attached
    | none => b.state == .away

/-- R104: "A ticket in ASSIGNED names bus x if and only if bus x names that ticket", and no other ticket names a bus. -/
def State.ticketLinksOk (s : State) : Bool :=
  (s.tickets.all fun t => match t.bus with
    | some k => t.isAssigned && (s.bus? k).bind Bus.ticket == some t.id
    | none => !t.isAssigned)
  && s.buses.all fun b => match b.ticket with
    | some id => (s.ticket? id).bind Ticket.bus == some b.fleet
    | none => true

/-! ## Ceilings and targets (R77 to R79) -/

/-- R77, R78: the ceilings and the binding term are what the rules give for their inputs as they stand. -/
def State.ceilingsCurrent (s : State) : Prop :=
  s.alloc.importCeiling = s.importCeilingNow.1 ∧ s.alloc.binding = s.importCeilingNow.2
    ∧ s.alloc.exportCeiling = s.exportCeilingNow

/-- R79: every target is 0 while a depot stop or sag is in force or the run is not RUNNING. -/
def State.heldTargetsZero (s : State) : Prop :=
  s.heldAtZero = true → ∀ b ∈ s.berths, b.wanted = 0 ∧ b.decided = 0

/-- R79: a berth that is FAULTED, OUT_OF_SERVICE, VACANT or AWAITING_ID has both its targets 0. -/
def State.othersZero (s : State) : Prop :=
  ∀ b ∈ s.berths, b.isClaimant = false → b.wanted = 0 ∧ b.decided = 0

/-! ## Derived fields (R14 to R19, R107 to R109, R128) -/

/-- R17: every derived field of every bus is what R14 to R19 give for the records as they stand. -/
def State.busesCurrent (s : State) : Prop := ∀ b ∈ s.buses, s.deriveBus b = b

/-- R109: every ticket's projected energy and grade are what R107 and R108 give for the records as they stand. -/
def State.ticketsCurrent (s : State) : Prop := ∀ t ∈ s.tickets, s.gradeTicket t = t

/-- R128: the commitments handed to the allocator are those of the pledges as they stand. -/
def State.commitmentsCurrent (s : State) : Prop :=
  s.reserve.curtailCommitment = sumOf Pledge.committed (s.pledges.filter Pledge.isCurtailing)
    ∧ s.reserve.exportCommitment = sumOf Pledge.committed (s.pledges.filter Pledge.isExporting)

/-! ## The depot link (R145) -/

/-- R145, the table of link states: what each holds of an assembly, a response and a write. An unpowered part holds nothing
that is read. -/
def State.linkOk (s : State) : Bool :=
  !s.powered || match s.depot.state with
    | .ready => s.depot.assembly.isNone && s.depot.response.isNone && s.store.write.isNone
    | .assembling => s.depot.assembly.isSome && s.depot.response.isNone && s.store.write.isNone
    | .working => s.depot.assembly.isNone && s.depot.response.isNone && s.store.write.isSome
    | .responseWaiting => s.depot.assembly.isNone && s.depot.response.isSome && s.store.write.isNone

/-! ## The berth link (R46, R48, R59) -/

/-- R48: at most four GRANT frames since the last POLL, and none chosen beyond the fourth. -/
def State.grantCapOk (s : State) : Bool :=
  decide (s.line.grantCount ≤ 4) && match s.line.nextSend with
    | some (.grantTo _) => decide (s.line.grantCount < 4)
    | some .pollMeter => true
    | some (.pollBerth _) => true
    | none => true

/-- R46, R59, R60: an exchange is in flight, or a frame chosen, only while the line carries frames, never both; and the line
carries break only while a depot stop is in force. -/
def State.lineOk (s : State) : Bool :=
  (s.line.condition == .frames || (s.line.exchange.isNone && s.line.nextSend.isNone))
    && (s.line.exchange.isNone || s.line.nextSend.isNone)
    && (s.line.condition != .brk || s.stopInForce)

/-- R59: while the line carries break every sent target is 0 and no grant is due. -/
def State.breakOk (s : State) : Prop :=
  s.line.condition = .brk → ∀ b ∈ s.berths, b.sent = 0 ∧ b.grantDue = false ∧ b.retryWait = false

/-! ## Counters (R50, R52, R53, R70, R97, R98, R133, R141) -/

/-- Every counter lies in the range its rule gives it. -/
def State.countersOk (s : State) : Bool :=
  (s.berths.all fun b => decide (b.missCount ≤ 3)) && decide (s.line.meterMiss ≤ 3) && decide (s.line.roundCounter < 65536)
    && decide (s.run.overdraw ≤ 3) && decide (s.grid.lowCount ≤ 8) && decide (s.grid.tripCount < 3)
    && decide (s.grid.stopCount < 3) && decide (s.clock.seconds < 60)
    && match s.clock.time with
      | some t => decide (t.day < 65536) && decide (t.minute < 1440)
      | none => true

/-! ## The end of an event (R17, R20, R40, R77, R78, R80, R109) -/

/-- R20: a bus whose berth field names this berth, and which is its occupant, loses export eligibility. -/
def State.losesExport (post : State) (b : Berth) : Bool :=
  post.buses.any fun x => post.lostExport x == some (b.number, x.fleet) && b.busOccupant == some x.fleet

/-- R93: a berth as the end of an event leaves it: a negative decided target of a lost eligibility becomes 0. -/
def State.withdrawn (post : State) (b : Berth) : Berth :=
  if b.decided < 0 ∧ post.losesExport b = true then b.setTarget (post.grantInFlight b.number) 0 0 else b

/-- What the end of an event leaves as the owners of the event have set it. -/
def State.keepsRest (post t : State) : Prop :=
  t.powered = post.powered ∧ t.depot = post.depot ∧ t.line = post.line ∧ t.run = post.run ∧ t.clock = post.clock
    ∧ t.pledges = post.pledges ∧ t.grid = post.grid ∧ t.supervision = post.supervision ∧ t.profile = post.profile
    ∧ t.store = post.store ∧ t.freeIndex = post.freeIndex ∧ t.pending = post.pending
    ∧ t.alloc.baseLoad = post.alloc.baseLoad

/-- R17: the demand terms or the export eligibility of some bus change. -/
def State.demandChanged (post : State) : Bool := post.buses.any fun b => (post.deriveBus b).demandView != b.demandView

/-- R80: a change since `before` that raises an allocation pass. -/
def State.passDue (before t : State) : Bool :=
  busesChanged before t || berthsChanged before t || before.feederView != t.feederView

/-- R108: the tickets that the records of `t` grade AT_RISK and that `post` does not. -/
def State.newRisk (post t : State) : List Nat := ({ t with tickets := post.tickets } : State).newlyAtRisk

/-- R106, R126, R127: the yield list and readiness yield, brought up to date where the event hands a ticket on. -/
def State.yieldsSettled (before post t : State) : Prop :=
  if handOnView before.tickets = handOnView t.tickets then
    t.reserve.yieldList = post.reserve.yieldList ∧ t.reserve.readinessYield = post.reserve.readinessYield
  else
    t.reserve.yieldList = ({ t with reserve := post.reserve } : State).updatedYields (post.newRisk t)
      ∧ t.reserve.readinessYield = readinessYield t.reserve.yieldList t.pledges

/-- R39, R108: the attention unit: TICKET_AT_RISK raised by the gradings, and the episode re-armed. -/
def State.attentionSettled (before post t : State) : Prop :=
  t.attention.flags =
      (if (post.newRisk t).isEmpty then post.attention.flags else post.attention.flags ||| causeBit Cause.ticketAtRisk.number)
    ∧ t.attention.armed = (post.attention.armed || (before.faultedCount != 0 && t.faultedCount == 0))

/-- The end of an event that began in `before`, once its owners have left `post`: derived fields, withdrawals of export,
grades, yields, commitments, ceilings, attention and the request for a pass are what their rules give, and everything else is
as in `post`. -/
def Settles (before post t : State) : Prop :=
  post.keepsRest t
    ∧ t.buses = post.buses.map post.deriveBus
    ∧ t.berths = post.berths.map post.withdrawn
    ∧ t.tickets = post.tickets.map t.gradeTicket
    ∧ before.yieldsSettled post t
    ∧ t.commitmentsCurrent ∧ t.ceilingsCurrent
    ∧ before.attentionSettled post t
    ∧ t.alloc.passRequested = (post.alloc.passRequested || post.demandChanged || before.passDue t)

/-! ## What an event hands on, written out (R17, R40, R76, R80, R93, R108 to R110) -/

/-- R17, R40, R76 to R78, R80, written out: what has changed from `before` to `t` raises an allocation pass. -/
def State.raisesPass (before t : State) : Prop :=
  (∃ y ∈ t.buses, ∃ x, before.bus? y.fleet = some x
    ∧ (y.thermal ≠ x.thermal ∨ y.charge ≠ x.charge ∨ y.exportEligible ≠ x.exportEligible ∨ y.state ≠ x.state
      ∨ y.berth ≠ x.berth ∨ y.ticket ≠ x.ticket ∨ y.held ≠ x.held ∨ y.capacity ≠ x.capacity))
  ∨ t.berths.map Berth.number ≠ before.berths.map Berth.number
  ∨ (∃ z ∈ before.berths.zip t.berths,
      z.2.state ≠ z.1.state ∨ z.2.occupant ≠ z.1.occupant ∨ z.2.foreignReason ≠ z.1.foreignReason
        ∨ z.2.faultCause ≠ z.1.faultCause ∨ z.2.reported ≠ z.1.reported
        ∨ z.2.foreignDemand t.profile ≠ z.1.foreignDemand before.profile)
  ∨ t.alloc.baseLoad ≠ before.alloc.baseLoad
  ∨ t.alloc.importCeiling ≠ before.alloc.importCeiling ∨ t.alloc.binding ≠ before.alloc.binding
  ∨ t.alloc.exportCeiling ≠ before.alloc.exportCeiling
  ∨ t.reserve.curtailCommitment ≠ before.reserve.curtailCommitment
  ∨ t.reserve.exportCommitment ≠ before.reserve.exportCommitment
  ∨ t.reserve.readinessYield ≠ before.reserve.readinessYield

/-- R20, R93: the bus that berth `r` names as its occupant has lost its export eligibility from `s` to `t`. -/
def State.eligibilityLost (s t : State) (r : Berth) : Prop :=
  ∃ x ∈ s.buses, x.exportEligible = true
    ∧ ∃ y ∈ t.buses, y.fleet = x.fleet ∧ y.exportEligible = false ∧ y.berth = some r.number ∧ r.busOccupant = some y.fleet

/-- R93: berth `r` keeps its targets in `r'`, but for a negative decided target whose bus has lost its eligibility: both are
then 0. -/
def State.keepsTargets (s t : State) (r r' : Berth) : Prop :=
  (r.decided < 0 → s.eligibilityLost t r' → r'.wanted = 0 ∧ r'.decided = 0)
    ∧ (¬ (r.decided < 0 ∧ s.eligibilityLost t r') → r'.wanted = r.wanted ∧ r'.decided = r.decided)

/-- R110: the ticket is released by the detachment of the bus it names: ASSIGNED, within the release window. -/
def State.releasedBy (s : State) (detached : Option Nat) (x : Ticket) : Bool :=
  x.state == .assigned && detached.isSome && x.bus == detached
    && s.now.any fun now => decide (minutesFrom now x.departure ≤ s.profile.releaseWindow)

/-- R109, R110: a ticket after an event that detaches a bus, or none, and leaves the records of `t`. -/
def State.ticketUnplugged (s t : State) (detached : Option Nat) (x : Ticket) : Ticket :=
  if s.releasedBy detached x then
    { x with
      state := .released, bus := none, grade := none, projected := none
      readyAtRelease := some (((x.bus.bind s.bus?).bind Bus.held).any fun held => decide (x.need ≤ held)) }
  else t.gradeTicket x

/-- R7, R110: a bus detached: AWAY at no berth, without its ticket where that is released. -/
def State.busUnplugged (s : State) (x : Bus) : Bus :=
  { x with
    state := .away, berth := none
    ticket := if s.tickets.any (s.releasedBy (some x.fleet)) then none else x.ticket }

/-- What the end of an event that began in `s` leaves in `t` of the blocks that read the records: tickets by `after` (R109), a
raise for those newly AT_RISK (R108), yields (R126), commitments, ceilings, and the request for a pass, made by a change that
R17, R40, R76 to R78 or R80 names, by a change of run state (R63), or by the begin or end of a sag (R142). -/
def State.handsOn (s t : State) (after : Ticket → Ticket) : Prop :=
  t.tickets = s.tickets.map after
    ∧ hasCause t.attention.flags Cause.ticketAtRisk.number =
        (hasCause s.attention.flags Cause.ticketAtRisk.number
          || s.tickets.any fun x => x.grade != some .atRisk && (after x).grade == some .atRisk)
    ∧ (if handOnView s.tickets = handOnView t.tickets then
        t.reserve.yieldList = s.reserve.yieldList ∧ t.reserve.readinessYield = s.reserve.readinessYield
      else
        t.reserve.yieldList = ({ t with reserve := s.reserve } : State).updatedYields
            ((s.tickets.filter fun x => x.grade != some .atRisk && (after x).grade == some .atRisk).map Ticket.id)
          ∧ t.reserve.readinessYield = readinessYield t.reserve.yieldList t.pledges)
    ∧ t.commitmentsCurrent ∧ t.ceilingsCurrent
    ∧ (s.raisesPass t → t.alloc.passRequested = true)
    ∧ (s.tablesOk = true → t.alloc.passRequested = true →
        s.alloc.passRequested = true ∨ s.raisesPass t ∨ t.run.state ≠ s.run.state ∨ t.grid.sag ≠ s.grid.sag)

/-! ## The end of a round and of STARTING (R49 to R51, R66) -/

/-- R66, written out. STARTING ends where the hold has expired and the first-round flag is set: by an enabled abort cause that
is present, METER_SILENT ahead of OVERDRAW; else into PAUSED while a pause source is set; else into RUNNING. A change of run
state raises a pass (R63). -/
def State.startingTested (s : State) : State :=
  let moved (run : RunControl) : State := { s with run := run, alloc := { s.alloc with passRequested := true } }
  let aborted (c : AbortCause) : State :=
    { moved { s.run with state := .idle, holdTimer := none, abortCause := some c } with
      attention := { s.attention with flags := s.attention.flags ||| causeBit Cause.runAborted.number } }
  if s.run.state = .starting ∧ s.run.holdExpired = true ∧ s.line.firstRound = true then
    if s.line.meterMiss = 3 ∧ s.profile.meterSilentAbort = true then aborted .meterSilent
    else if s.run.overdraw = 3 ∧ s.profile.overdrawAbort = true then aborted .overdraw
    else if s.run.hostPause = true ∨ s.run.thermalPause = true then moved { s.run with state := .paused }
    else moved { s.run with state := .running }
  else s

/-- R50, R51, written out: the round in progress completes. A qualifying one sets the first-round flag, which run control then
tests. -/
def State.roundCompleted (s : State) : State :=
  State.startingTested
    { s with
      line :=
        { s.line with
          roundOpen := false, roundCounter := (s.line.roundCounter + 1) % 65536
          firstRound := s.line.firstRound || s.line.qualifying } }

/-- R49, written out: the end of the poll of address `a`. It completes the round where `a` is the last berth of the round list,
or the meter node and the list is empty. -/
def State.roundEnded (a : Nat) (s : State) : State :=
  if s.line.roundOpen = true ∧ (if a = 0 then s.line.roundList = [] else s.line.roundList.getLast? = some a) then
    s.roundCompleted
  else s

/-- What the end of a poll hands on to run control: line and run are those of `ended`, and its raises are made. -/
def State.takesRoundOf (t ended : State) : Prop :=
  t.line = ended.line ∧ t.run = ended.run
    ∧ (ended.alloc.passRequested = true → t.alloc.passRequested = true)
    ∧ hasCause t.attention.flags Cause.runAborted.number = hasCause ended.attention.flags Cause.runAborted.number

/-! ## A minute event (R98, R111, R118 to R128) -/

/-- R111: the ticket becomes MISSED: at or after the departure plus the grace, OPEN, or ASSIGNED with an ATTACHED bus. -/
def State.missedNow (s : State) (now : Nat) (x : Ticket) : Bool :=
  decide (minutesFrom now x.departure + s.profile.grace ≤ 0)
    && (x.state == .opened
      || (x.state == .assigned && (x.bus.bind s.bus?).any fun b => b.state == .attached))

/-- R111: the ticket becomes RELEASED: at or after the departure, ASSIGNED with an AWAY bus. -/
def State.releasedNow (s : State) (now : Nat) (x : Ticket) : Bool :=
  decide (minutesFrom now x.departure ≤ 0) && x.state == .assigned
    && (x.bus.bind s.bus?).any fun b => b.state == .away

/-- R109, R111: a ticket after a minute event that leaves the records of `t`. -/
def State.ticketAfter (s t : State) (now : Nat) (x : Ticket) : Ticket :=
  if s.missedNow now x then { x with state := .missed, bus := none, grade := none, projected := none }
  else if s.releasedNow now x then
    { x with
      state := .released, bus := none, grade := none, projected := none
      readyAtRelease := some (((x.bus.bind s.bus?).bind Bus.held).any fun held => decide (x.need ≤ held)) }
  else t.gradeTicket x

/-- R111: the ticket that a bus holds ends in the minute event. -/
def State.losesTicket (s : State) (now : Nat) (b : Bus) : Bool :=
  s.tickets.any fun x => x.bus == some b.fleet && (s.missedNow now x || s.releasedNow now x)

/-- R122: the delivered power of an ACTIVE pledge: nothing in an unattended minute; else its committed power, or what the
ACTIVE pledges of its kind with an earlier start, or the same start and a lower id, leave of the curtailed power or of the
counted export. -/
def State.creditFor (s : State) (p : Pledge) : Nat :=
  let pool :=
    if s.run.state = .idle ∨ s.grid.stopLatch = true then 0
    else match p.kind with
      | .curtail => s.profile.feederLimit - s.alloc.baseLoad - (s.berths.map Berth.countedImport).sum
      | .exporting => (s.berths.map Berth.countedExport).sum
  let ahead := s.pledges.filter fun q =>
    decide (q.state = .active ∧ q.kind = p.kind
      ∧ (s.timeOrder q.start < s.timeOrder p.start ∨ (s.timeOrder q.start = s.timeOrder p.start ∧ q.id < p.id)))
  min p.committed (pool - (ahead.map Pledge.committed).sum)

/-- R120: what the export-eligible buses can give a pledge, each the smaller of its berth's max export and its energy above
the floor over the pledge's duration. -/
def State.forecastPower (s : State) (p : Pledge) : Nat :=
  (s.buses.map fun b =>
    if b.exportEligible then
      min (((s.berthOf b).map Berth.maxExport).getD 0) ((b.held.getD 0 - b.floor) * 6 / p.duration)
    else 0).sum

/-- R120: the forecast of a pledge that is ARMED. -/
def State.forecastNow (s : State) (p : Pledge) : Forecast :=
  if p.kind = .exporting ∧ s.forecastPower p < p.committed then .shortForecast else .covered

/-- R119: a BOOKED pledge is armed by the minute event: its arming minute has come, its window has not passed, and fallback is
not in force. -/
def State.armsNow (s : State) (now : Nat) (p : Pledge) : Bool :=
  decide (p.state = .booked ∧ 0 < minutesFrom now p.windowEnd ∧ minutesFrom now p.start ≤ s.profile.armingLead
    ∧ s.supervision.fallback = false)

/-- R121: a pledge that becomes ACTIVE, with the minutes of its window already past entered as unattended. -/
def Pledge.begun (now : Nat) (p : Pledge) : Pledge :=
  if 0 < minutesFrom p.start now then
    { p with
      state := .active, forecast := none, grade := some .short
      shortMinutes := (minutesFrom p.start now).toNat, worst := p.committed }
  else { p with state := .active, forecast := none, grade := some .meeting }

/-- R119, R124: a pledge that becomes COMPLETE. -/
def Pledge.ended (outcome : PledgeOutcome) (p : Pledge) : Pledge :=
  { p with state := .complete, forecast := none, grade := none, outcome := some outcome }

/-- R123: a pledge assessed with a delivered power. -/
def Pledge.assessed (power : Nat) (p : Pledge) : Pledge :=
  { p with
    delivered := p.delivered + power
    shortMinutes := if power < p.committed then p.shortMinutes + 1 else p.shortMinutes
    worst := max p.worst (p.committed - power)
    grade := some (if power < p.committed then .short else .meeting) }

/-- R118 to R124: a pledge after a minute event, by its state before it; `s` holds the records of the event with the pledges as
they stood. -/
def State.pledgeAfter (s : State) (now : Nat) (p : Pledge) : Pledge :=
  match p.state with
  | .complete => p
  | .booked =>
    if minutesFrom now p.windowEnd ≤ 0 then p.ended .lapsed
    else if s.profile.armingLead < minutesFrom now p.start then p
    else if s.supervision.fallback then p.ended .unattended
    else if minutesFrom now p.start ≤ 0 then p.begun now
    else { p with state := .armed, forecast := some (s.forecastNow p) }
  | .armed =>
    if minutesFrom now p.start ≤ 0 then p.begun now
    else if p.kind = .exporting then { p with forecast := some (s.forecastNow p) }
    else p
  | .active =>
    let q := p.assessed (s.creditFor p)
    if minutesFrom now p.windowEnd ≤ 0 then q.ended (if q.shortMinutes = 0 then .met else .short) else q

/-- R108, R111, R119 to R124: what a minute event raises at the attention unit. -/
def State.minuteRaises (post u : State) (now : Nat) : Cause → Prop
  | .ticketMissed => ∃ x ∈ post.tickets, post.missedNow now x = true
  | .ticketAtRisk =>
    ∃ x ∈ post.tickets, x.grade ≠ some .atRisk ∧ (post.ticketAfter u now x).grade = some .atRisk
  | .pledgeComplete => ∃ p ∈ post.pledges, p.state ≠ .complete ∧ (u.pledgeAfter now p).state = .complete
  | .pledgeShort => ∃ p ∈ post.pledges,
      (p.state = .active ∧ p.shortMinutes = 0 ∧ u.creditFor p < p.committed)
      ∨ (p.state ≠ .active ∧ (u.pledgeAfter now p).state = .active ∧ 0 < minutesFrom p.start now)
      ∨ (p.forecast ≠ some .shortForecast ∧ u.forecastNow p = .shortForecast
          ∧ (u.armsNow now p = true ∨ (p.state = .armed ∧ (u.pledgeAfter now p).state = .armed)))
  | _ => False

/-- R20, R98: the occupant of a berth loses its export eligibility in a minute event that leaves the records of `t`: at the bus
table's own turn, which reads the records of `post`, or once the ticket table has had its turn. -/
def State.minuteLosesExport (post t : State) (r : Berth) : Bool :=
  post.buses.any fun x =>
    x.berth == some r.number && r.busOccupant == some x.fleet
      && ((x.exportEligible && !(post.deriveBus x).exportEligible)
        || ((post.deriveBus x).exportEligible && (t.bus? x.fleet).any fun y => !y.exportEligible))

/-- A minute event taken in the state `post`, whose clock holds the new time `now`: bus table, ticket table and pledge table in
that order (R98), and everything they hand on. `before` is the state the event began in. -/
def MinuteTaken (before post t : State) (now : Nat) : Prop :=
  let u : State := { t with pledges := post.pledges }
  let risk := (post.tickets.filter fun x =>
    x.grade != some .atRisk && (post.ticketAfter t now x).grade == some .atRisk).map Ticket.id
  t.powered = post.powered ∧ t.depot = post.depot ∧ t.line = post.line ∧ t.run = post.run ∧ t.clock = post.clock
  ∧ t.grid = post.grid ∧ t.supervision = post.supervision ∧ t.profile = post.profile ∧ t.store = post.store
  ∧ t.freeIndex = post.freeIndex ∧ t.pending = post.pending ∧ t.alloc.baseLoad = post.alloc.baseLoad
  ∧ t.buses = post.buses.map (fun b =>
      t.deriveBus { b with ticket := if post.losesTicket now b then none else b.ticket })
  ∧ t.tickets = post.tickets.map (post.ticketAfter t now)
  ∧ t.pledges = post.pledges.map (u.pledgeAfter now)
  ∧ t.berths = post.berths.map (fun r =>
      if r.decided < 0 ∧ post.minuteLosesExport t r = true then r.setTarget (post.grantInFlight r.number) 0 0 else r)
  ∧ t.reserve.yieldList = ({ t with reserve := post.reserve } : State).updatedYields risk
  ∧ t.reserve.readinessYield = readinessYield t.reserve.yieldList t.pledges
  ∧ t.commitmentsCurrent ∧ t.ceilingsCurrent
  ∧ (∀ c : Cause, hasCause t.attention.flags c.number = true ↔
      hasCause post.attention.flags c.number = true ∨ post.minuteRaises u now c)
  ∧ t.attention.armed = (post.attention.armed || (before.faultedCount != 0 && t.faultedCount == 0))
  ∧ (t.alloc.passRequested = true ↔
      post.alloc.passRequested = true ∨ (∃ p ∈ t.pledges, p.kind = .exporting ∧ p.state = .active)
      ∨ before.passDue t = true
      ∨ ∃ x ∈ post.buses, (post.deriveBus x).demandView ≠ x.demandView
          ∨ ∃ y ∈ t.buses, y.fleet = x.fleet ∧ y.demandView ≠ (post.deriveBus x).demandView)

/-! ## What an allocation pass decides (R82 to R91) -/

/-- R83: the berth is an export candidate: its occupant is export eligible and has no thermal demand. -/
def State.isCandidate (s : State) (b : Berth) : Bool := (s.occupantBus b).any fun x => x.exportEligible && x.thermal == 0

/-- R83: the occupant's held energy less its floor. -/
def State.surplusAt (s : State) (b : Berth) : Nat := ((s.occupantBus b).map fun x => x.held.getD 0 - x.floor).getD 0

/-- R83: candidates are served in descending surplus, and then in ascending berth number. -/
def State.givesBefore (s : State) (a b : Berth) : Bool :=
  decide (s.surplusAt b < s.surplusAt a) || (s.surplusAt a == s.surplusAt b && decide (a.number < b.number))

/-- R82: a quantity summed over the berths that are no claimants, whose counted values are stranded. -/
def State.stranded (s : State) (f : Berth → Nat) : Nat := ((s.berths.filter fun b => !b.isClaimant).map f).sum

/-- R83, R84: what each export candidate receives: the smallest of its berth's max export, its surplus over the remaining
window, and the export room that the candidates before it leave. -/
def State.ExportShares (s : State) (exported : Nat → Nat) : Prop :=
  let window := ((s.pledges.filter Pledge.isExporting).map fun p => minutesTo s.now p.windowEnd).foldl max 1
  ∀ b ∈ s.berths,
    (s.isCandidate b = false → exported b.number = 0)
    ∧ (s.isCandidate b = true → exported b.number =
        min (min b.maxExport (s.surplusAt b * 6 / window))
          (s.alloc.exportCeiling - s.stranded (fun c => exportPart c.reported)
            - ((s.berths.filter fun c => s.isCandidate c && s.givesBefore c b).map fun c => exported c.number).sum))

/-- An import claim as it is served: its group in R85, its berth, and what it is given. -/
structure Served where
  group : Nat
  berth : Berth
  amount : Nat
  deriving DecidableEq, Repr

/-- R85: the claim of a berth in a group: 1 thermal demand; 2 charge demand of an occupant with a ticket; 3 charge demand of an
occupant without; 4 foreign demand. A berth that exports makes no import claim. -/
def State.claimIn (s : State) (exported : Nat → Nat) (group : Nat) (b : Berth) : Nat :=
  match s.occupantBus b with
  | some x =>
    if 0 < exported b.number then 0
    else match group with
      | 1 => x.thermal
      | 2 => if (s.ticketOf x).isSome then x.charge else 0
      | 3 => if (s.ticketOf x).isSome then 0 else x.charge
      | _ => 0
  | none => if group = 4 then b.foreignDemand s.profile else 0

/-- R85: one berth ranks ahead of another within a group: by departure, ticketed first, in groups 1 and 2; by held energy over
usable capacity in group 3; by neither in group 4. -/
def State.ranksAhead (s : State) (group : Nat) (a b : Berth) : Prop :=
  match s.occupantBus a, s.occupantBus b with
  | some x, some y =>
    if group = 3 then x.held.getD 0 * y.capacity < y.held.getD 0 * x.capacity
    else match s.ticketOf x, s.ticketOf y with
      | some p, some q => s.timeOrder p.departure < s.timeOrder q.departure
      | some _, none => True
      | none, _ => False
  | _, _ => False

/-- R85: the order in which two claims are served, the lower berth number first where nothing else decides. -/
def State.servedAhead (s : State) (c d : Served) : Prop :=
  c.group < d.group
    ∨ (c.group = d.group
        ∧ (s.ranksAhead c.group c.berth d.berth
            ∨ (¬ s.ranksAhead c.group d.berth c.berth ∧ c.berth.number < d.berth.number)))

/-- What claims served so far have given a berth. -/
def givenBy (served : List Served) (n : Nat) : Nat :=
  ((served.filter fun c => c.berth.number == n).map Served.amount).sum

/-- R86, R87: what a claim is given after the claims `served`: the smallest of demand, import room and branch room, reduced to
the high-rate threshold where the trench quota or the spacing rule keeps the berth from being high-rate. -/
def State.servedAmount (s : State) (served : List Served) (b : Berth) (demand : Nat) : Nat :=
  let room := s.alloc.importCeiling - s.stranded (fun c => importPart c.reported) - (served.map Served.amount).sum
  let branch := s.profile.branchLimit b.branch
    - s.stranded (fun c => if c.branch = b.branch then importPart c.reported else 0)
    - ((served.filter fun c => c.berth.branch == b.branch).map Served.amount).sum
  let amount := min demand (min room branch)
  let threshold := s.profile.highRateThreshold
  let mates := s.berths.filter fun m =>
    m.number != b.number && m.trench == b.trench && decide (threshold < givenBy served m.number)
  if threshold < givenBy served b.number + amount
      ∧ (s.profile.trenchQuota ≤ mates.length
        ∨ (s.profile.spacingSections.getLsbD (b.trench - 1) = true
            ∧ ∃ m ∈ mates, m.position = b.position + 1 ∨ b.position = m.position + 1)) then
    threshold - givenBy served b.number
  else amount

/-- R85 to R87: the claims of a pass, each once and in order, with what each is given. -/
def State.ServesClaims (s : State) (exported : Nat → Nat) (served : List Served) : Prop :=
  (∀ g b, (∃ c ∈ served, c.group = g ∧ c.berth = b) ↔ b ∈ s.berths ∧ 1 ≤ g ∧ g ≤ 4 ∧ 0 < s.claimIn exported g b)
  ∧ (served.map fun c => (c.group, c.berth.number)).Nodup
  ∧ (∀ l c d r, served = l ++ c :: d :: r → s.servedAhead c d)
  ∧ ∀ l c r, served = l ++ c :: r → c.amount = s.servedAmount l c.berth (s.claimIn exported c.group c.berth)

/-- R88: the wanted level of a berth, what it received for export or what its claims were given. -/
def wantedBy (exported : Nat → Nat) (served : List Served) (b : Berth) : Int :=
  if 0 < exported b.number then -(exported b.number : Int) else (givenBy served b.number : Int)

/-- R89: the part of a wanted level decided at once, no more than the counted value of the same direction. -/
def atOnce (wanted : Int) (b : Berth) : Int :=
  (min (importPart wanted) b.countedImport : Nat) - (min (exportPart wanted) b.countedExport : Nat)

/-- R90: the import raises, in the order of the berths' first claims, each within the import headroom and its branch's. -/
def State.ImportRaises (s : State) (wanted : Berth → Int) (order : List Berth) (raised : Nat → Nat) : Prop :=
  let counted (b : Berth) : Nat := max (importPart (atOnce (wanted b) b)) (importPart b.reported)
  (∀ b ∈ s.berths, b ∉ order → raised b.number = 0)
  ∧ ∀ l b r, order = l ++ b :: r →
      raised b.number =
        min (importPart (wanted b) - importPart (atOnce (wanted b) b))
          (min (s.alloc.importCeiling - ((s.berths.map counted).sum + (l.map fun c => raised c.number).sum))
            (s.profile.branchLimit b.branch
              - (((s.berths.filter fun c => c.branch == b.branch).map counted).sum
                + ((l.filter fun c => c.branch == b.branch).map fun c => raised c.number).sum)))

/-- R91: the export raises, in the order the exporters were chosen, each within the export headroom. -/
def State.ExportRaises (s : State) (exported : Nat → Nat) (wanted : Berth → Int) (raised : Nat → Nat) : Prop :=
  let counted (b : Berth) : Nat := max (exportPart (atOnce (wanted b) b)) (exportPart b.reported)
  ∀ b ∈ s.berths,
    (exported b.number = 0 → raised b.number = 0)
    ∧ (0 < exported b.number → raised b.number =
        min (exportPart (wanted b) - exportPart (atOnce (wanted b) b))
          (s.alloc.exportCeiling - ((s.berths.map counted).sum
            + ((s.berths.filter fun c => decide (0 < exported c.number) && s.givesBefore c b).map fun c =>
                raised c.number).sum)))

/-- R82 to R92: what a pass decides: every berth takes its wanted level, decided as far as its counted value at once and as far
as the headrooms allow by raises; pass requested becomes no (R81). -/
def PassDecides (s post : State) : Prop :=
  ∃ (exported importRaised exportRaised : Nat → Nat) (served : List Served),
    let wanted := wantedBy exported served
    s.ExportShares exported ∧ s.ServesClaims exported served
    ∧ s.ImportRaises wanted (served.map Served.berth).eraseDups importRaised
    ∧ s.ExportRaises exported wanted exportRaised
    ∧ post =
        { s with
          alloc := { s.alloc with passRequested := false }
          berths := s.berths.map fun b =>
            b.setTarget (s.grantInFlight b.number) (wanted b)
              (atOnce (wanted b) b + importRaised b.number - exportRaised b.number) }

/-! ## An answered request (R149, R160) -/

/-- The depot link that carries requests: powered, and READY or ASSEMBLING. -/
def State.takesRequests (s : State) : Prop := s.powered = true ∧ s.linkBusy = false

/-- R149: the depot link once a request of `bytes` body bytes has been answered: the response is placed, the assembly is
absent, and OVERRUN has been shown and cleared. -/
def State.answered (s : State) (h : RequestHead) (bytes : Nat) (status : Status) (failing : Nat) (body : List Byte) :
    DepotLink where
  state := .responseWaiting
  assembly := none
  response := some { bytes := responseBytes status h failing body, position := 0 }
  overrun := false
  miso := (if bytes ≤ 56 then s else s.midRequest).requestOut bytes

/-- R160, R161: the supervision timer once a complete request has been handed on. -/
def State.restarted (s : State) : Supervision :=
  if s.profile.supervisionInterval = 0 then { condition := .off, remaining := 0, fallback := false }
  else { condition := .counting, remaining := s.profile.supervisionInterval, fallback := false }

/-- A request answered that changes nothing but the depot link and the supervision timer. -/
def State.replied (s : State) (h : RequestHead) (bytes : Nat) (status : Status) (failing : Nat) (body : List Byte) : State :=
  { s with depot := s.answered h bytes status failing body, supervision := s.restarted }

/-- A request answered DONE, `post` being what its owner sets, and the body read from the settled records (R149). -/
def AnsweredDone (s : State) (h : RequestHead) (bytes : Nat) (post : State) (body : State → List Byte) (t : State) : Prop :=
  Settles s { post with depot := s.answered h bytes .done 0 (body t), supervision := s.restarted } t

/-- The state in which a complete request reaches its owner: OVERRUN shown, any assembly gone, the timer restarted. -/
def State.begun (s : State) : State :=
  { s with depot := { s.depot with overrun := false, assembly := none }, supervision := s.restarted }

/-! ## The request rows (R151, section 11.1.4; log entry 1) -/

/-- The head and the request that a request row stands for. -/
def asRequest : Instr → Option (RequestHead × Request)
  | .lookupBus key => some (headOf 1#8 1#8 key, .lookup .bus key.toNat)
  | .lookupBerth key => some (headOf 1#8 2#8 key, .lookup .berth key.toNat)
  | .lookupTicket key => some (headOf 1#8 3#8 key, .lookup .ticket key.toNat)
  | .lookupPledge key => some (headOf 1#8 4#8 key, .lookup .pledge key.toNat)
  | .lookupProfile key => some (headOf 1#8 0#8 key, .lookup .profile key.toNat)
  | .list table key count => some (headOf 2#8 (tableCode table) key, .list table key.toNat count)
  | .enrolBus key pairs => some (headOf 3#8 1#8 key, .enrol .bus key.toNat pairs)
  | .enrolBerth key pairs => some (headOf 3#8 2#8 key, .enrol .berth key.toNat pairs)
  | .enrolTicket key pairs => some (headOf 3#8 3#8 key, .enrol .ticket key.toNat pairs)
  | .enrolPledge key pairs => some (headOf 3#8 4#8 key, .enrol .pledge key.toNat pairs)
  | .amendBus key pairs => some (headOf 4#8 1#8 key, .amend .bus key.toNat pairs)
  | .amendBerth key pairs => some (headOf 4#8 2#8 key, .amend .berth key.toNat pairs)
  | .amendTicket key pairs => some (headOf 4#8 3#8 key, .amend .ticket key.toNat pairs)
  | .amendPledge key pairs => some (headOf 4#8 4#8 key, .amend .pledge key.toNat pairs)
  | .amendProfile key pairs => some (headOf 4#8 0#8 key, .amend .profile key.toNat pairs)
  | .retireBus key => some (headOf 5#8 1#8 key, .retire .bus key.toNat)
  | .retireBerth key => some (headOf 5#8 2#8 key, .retire .berth key.toNat)
  | .retireTicket key => some (headOf 5#8 3#8 key, .retire .ticket key.toNat)
  | .retirePledge key => some (headOf 5#8 4#8 key, .retire .pledge key.toNat)
  | .summary => some (headOf 6#8 0#8 0#16, .summary)
  | .attend causes => some (headOf 7#8 0#8 0#16, .attend causes)
  | .runStart => some (controlHead 0#16, .control .runStart)
  | .runStop => some (controlHead 0#16, .control .runStop)
  | .pause => some (controlHead 0#16, .control .pause)
  | .resume => some (controlHead 0#16, .control .resume)
  | .allStop => some (controlHead 0#16, .control .allStop)
  | .clearStop => some (controlHead 0#16, .control .clearStop)
  | .ackTrip => some (controlHead 0#16, .control .ackTrip)
  | .withdraw key => some (controlHead key, .control (.withdraw key.toNat))
  | .setClock pairs => some (controlHead 0#16, .control (.setClock pairs))
  | .saveProfile => some (controlHead 0#16, .control .saveProfile)
  | .recordsReset => some (controlHead 0#16, .control .recordsReset)
  | _ => none

/-- The bytes of one segment after the direction byte (section 11.1.2). -/
def segmentBytes (first last : Bool) (total : Nat) (h : RequestHead) (body : List Byte) : List Byte :=
  ((if first then 0x80#8 else 0#8) ||| (if last then 0x40#8 else 0#8) ||| BitVec.ofNat 8 body.length)
    :: halfBytes total ++ [h.kind, h.table, hiByte h.key, loByte h.key] ++ body

/-- The SEND commands that carry a body of `total` bytes, of which `body` is still to come, in segments of 56 bytes. -/
def sendsFrom (first : Bool) (total : Nat) (h : RequestHead) : Nat → List Byte → List Instr
  | 0, _ => []
  | fuel + 1, body =>
    if body.length ≤ 56 then [.send (segmentBytes first true total h body)]
    else .send (segmentBytes first false total h (body.take 56)) :: sendsFrom false total h fuel (body.drop 56)

/-- The SEND commands that carry a request. -/
def sendsOf (h : RequestHead) (r : Request) : List Instr := sendsFrom true r.body.length h 19 r.body

/-- The commands of a list, one after another, each given a next state. -/
def runAll : List Instr → State → Option State
  | [], s => some s
  | c :: rest, s => match exec c s with
    | .next t => runAll rest t
    | .fault _ => none
    | .refused _ => none

end Sys2Proof.Machine
end

