-- ==== Sys2Proof/Certificates/Slice0/Obligations.lean ====
section
/-! DEFINITION. The statements for the provers. A command "completes in `t`" when `exec` answers `.next t`; `Settles` and
`AnsweredDone` (Safety.lean) say what the end of an event and an answered request are, with everything they leave unchanged. -/

open Sys2Proof Sys2Proof.Machine

/-! ## The machine -/

/-- A step takes the command at the front of the queue and runs it on the state with the queue's rest. -/
def Obligations.StepRunsFrontCommand : Prop :=
  ∀ (c : Instr) (rest : List Instr) (s : State), step { s with pending := c :: rest } = exec c { s with pending := rest }

/-- R66, R98, R160: on an empty queue a step is one second of the internal time base (log entry 3, the model's choice). A running
hold timer and a COUNTING supervision timer run out with the second when at most one is left to them, the minute of a SET clock
when 59 have been counted. Each of the three that runs counts the second, unless it runs out; one that runs out has the event of
its row; of several, the events come in some order. -/
def Obligations.IdleStepCountsOneSecond : Prop :=
  ∀ s : State, s.pending = [] →
    let due : TimerKind → Bool
      | .hold => s.run.holdTimer.any fun r => decide (r ≤ 1)
      | .supervision => decide (s.supervision.condition = .counting ∧ s.supervision.remaining ≤ 1)
      | .minute => decide (s.clock.time.isSome ∧ 59 ≤ s.clock.seconds)
    let row : TimerKind → Instr
      | .hold => .holdTimerExpiry
      | .supervision => .supervisionExpiry
      | .minute => .minuteEvent
    let counted : State :=
      { s with
        run := { s.run with holdTimer := s.run.holdTimer.map fun r => if r ≤ 1 then r else r - 1 }
        supervision :=
          if s.supervision.condition = .counting ∧ 1 < s.supervision.remaining then
            { s.supervision with remaining := s.supervision.remaining - 1 }
          else s.supervision
        clock :=
          if s.clock.time.isSome ∧ s.clock.seconds < 59 then { s.clock with seconds := s.clock.seconds + 1 } else s.clock }
    let running : List TimerKind := [TimerKind.hold, .supervision, .minute].filter due
    (s.powered = false → step s = .next s)
    ∧ (s.powered = true → running = [] → step s = .next counted)
    ∧ (s.powered = true → ∀ k, running = [k] → step s = exec (row k) counted)
    ∧ (s.powered = true → 2 ≤ running.length →
        ∃ (order : List TimerKind) (t : State), order.Perm running
          ∧ runAll (order.map row) { counted with freeIndex := s.freeIndex + 1 } = some t ∧ step s = .next t)

/-- Every command completes and leaves the queue as it is; while the part has no power, every command but POWER_ON leaves
the whole state as it is (log entries 14 and 25, the model's choice). -/
def Obligations.EveryCommandCompletes : Prop :=
  ∀ (c : Instr) (s : State),
    ∃ t, exec c s = .next t ∧ t.pending = s.pending ∧ (s.powered = false → c ≠ .powerOn → t = s)

/-- POWER_ON: the volatile blocks hold their reset values, and the image gives the profile and the berth records, or, when it
fails its checks, the defaults, no berth, and PROFILE_DEFAULTED. POWER_FAILURE: power is lost; an image being written is the
old one, the new one, or one that fails its checks (log entry 12), at a POWER_ON as at a POWER_FAILURE (log entry 13); without
power the part holds what it held (log entry 14). -/
def Obligations.PowerOnAndPowerFailure : Prop :=
  (∀ s : State, ∃ t, exec .powerOn s = .next t
    ∧ t.powered = true
    ∧ t.depot = { state := .ready, assembly := none, response := none, overrun := false, miso := [] }
    ∧ t.buses = [] ∧ t.tickets = [] ∧ t.pledges = []
    ∧ t.line = { condition := .preamble, exchange := none, nextSend := none, restart := false, roundList := [],
                 sweep := .start, roundOpen := false, qualifying := false, roundCounter := 0, firstRound := false,
                 grantCount := 0, meterMiss := 0, txd := [] }
    ∧ t.run = { state := .idle, hostPause := false, thermalPause := false, holdTimer := none, holdExpired := false,
                overdraw := 0, abortCause := none, invalidReason := none, invalidDetail := none }
    ∧ t.alloc = { baseLoad := 0, importCeiling := 0, binding := .held, exportCeiling := 0, passRequested := false }
    ∧ t.clock = { time := none, seconds := 0 }
    ∧ t.reserve = { yieldList := [], curtailCommitment := 0, readinessYield := 0, exportCommitment := 0 }
    ∧ t.grid = { tripLevel := .released, tripCount := 0, tripLatch := false, tripAck := false, stopLevel := .released,
                 stopCount := 0, stopLatch := false, clearRemembered := false, sag := false, lowCount := 0 }
    ∧ t.supervision = { condition := .disarmed, remaining := 0, fallback := false }
    ∧ t.attention.armed = true
    ∧ t.store.write = none ∧ (s.store.write = none → t.store.image = s.store.image)
    ∧ (∀ w, s.store.write = some w →
        t.store.image = s.store.image ∨ t.store.image = w.bytes ∨ loadImage t.store.image = none)
    ∧ (∀ p bs, loadImage t.store.image = some (p, bs) → t.profile = p ∧ t.berths = bs ∧ t.attention.flags = 0#14)
    ∧ (loadImage t.store.image = none →
        t.profile = Profile.defaults ∧ t.berths = [] ∧ t.attention.flags = causeBit Cause.profileDefaulted.number)
    ∧ (∀ b ∈ t.berths,
        b =
          { b with
            state := if b.outOfService then .outOfService else .vacant
            occupant := none, foreignReason := none, faultCause := none, dispenserCode := none, missCount := 0
            reported := 0, wanted := 0, decided := 0, sent := 0, grantDue := false, retryWait := false }))
  ∧ ∀ s : State, s.powered = true → ∃ store free,
      exec .powerFailure s = .next { s with powered := false, store := store, freeIndex := free }
      ∧ (s.store.write = none → store = s.store ∧ free = s.freeIndex)
      ∧ ∀ w, s.store.write = some w →
          store.write = none ∧ (store.image = s.store.image ∨ store.image = w.bytes ∨ loadImage store.image = none)

/-- The state after reset is that of POWER_ON of a part never saved (log entry 11, the model's choice), and it has every
invariant stated below. -/
def Obligations.ResetHasInvariants : Prop :=
  exec .powerOn State.reset = .next State.reset
  ∧ State.reset.tablesOk = true ∧ State.reset.occupancyOk = true ∧ State.reset.ticketLinksOk = true
  ∧ State.reset.ceilingsCurrent ∧ State.reset.heldTargetsZero ∧ State.reset.othersZero
  ∧ State.reset.busesCurrent ∧ State.reset.ticketsCurrent ∧ State.reset.commitmentsCurrent
  ∧ State.reset.linkOk = true ∧ State.reset.grantCapOk = true ∧ State.reset.lineOk = true ∧ State.reset.breakOk
  ∧ State.reset.countersOk = true

/-! ## The depot link -/

/-- SEND in READY or ASSEMBLING: the segment it carries, and what it begins, continues, completes or ends. A SEND with no byte
after its direction byte changes nothing other than OVERRUN in any link state (log entry 15, the model's inference). -/
def Obligations.SendTakesSegment : Prop :=
  (∀ (m t1 t0 kind table k1 k0 : Byte) (rest : List Byte),
    let count := m.toNat % 64
    let total := t1.toNat * 256 + t0.toNat
    (parseSegment (m :: t1 :: t0 :: kind :: table :: k1 :: k0 :: rest) =
      if count ≤ 56 ∧ total ≤ 1024 ∧ count ≤ rest.length then
        some
          { first := decide (128 ≤ m.toNat), last := decide (64 ≤ m.toNat % 128), total := total
            head := { kind := kind, table := table, key := k1 ++ k0 }, body := rest.take count }
      else none))
  ∧ (∀ bytes : List Byte, bytes.length < 7 → parseSegment bytes = none)
  ∧ (∀ s : State, s.powered = true →
      exec (.send []) s = .next { s with depot := { s.depot with overrun := false, miso := [s.statusByte] } })
  ∧ ∀ (bytes : List Byte) (s : State), s.takesRequests → bytes ≠ [] →
      let out := s.statusByte :: fill bytes.length
      let kept : State := { s with depot := { s.depot with overrun := false, miso := out } }
      let ended (status : Status) (h : RequestHead) : State :=
        { s with
          depot :=
            { state := .responseWaiting, assembly := none, overrun := false, miso := out
              response := some { bytes := responseBytes status h 0 [], position := 0 } } }
      let taken (a : Assembly) (last : Bool) : Prop :=
        (a.total < a.body.length → exec (.send bytes) s = .next (ended .lengthMismatch a.head))
        ∧ (last = true → a.body.length < a.total → exec (.send bytes) s = .next (ended .lengthMismatch a.head))
        ∧ (last = false → a.body.length ≤ a.total →
            exec (.send bytes) s = .next { kept with depot := { kept.depot with state := .assembling, assembly := some a } })
        ∧ (last = true → a.body.length = a.total →
            exec (.send bytes) s =
              .next ((State.dispatch a.head (parseRequest a.head a.body)
                { s with depot := { s.depot with overrun := false, assembly := none } }).shifted out))
      (parseSegment bytes = none → exec (.send bytes) s = .next kept)
      ∧ ∀ g, parseSegment bytes = some g →
          (g.first = false → s.depot.assembly = none → exec (.send bytes) s = .next kept)
          ∧ (g.first = true → taken { head := g.head, total := g.total, body := g.body } g.last)
          ∧ ∀ a, g.first = false → s.depot.assembly = some a →
              (g.head ≠ a.head → exec (.send bytes) s = .next (ended .segmentMismatch a.head))
              ∧ (g.head = a.head → g.total ≠ a.total → exec (.send bytes) s = .next (ended .lengthMismatch a.head))
              ∧ (g.head = a.head → g.total = a.total → taken { a with body := a.body ++ g.body } g.last)

/-- R146: a SEND while the link is WORKING or RESPONSE_WAITING is discarded whole: OVERRUN and LINK_OVERRUN, and nothing
else but what it shifts out; the next status byte shows OVERRUN, its own does not. -/
def Obligations.BusyLinkDiscardsSend : Prop :=
  ∀ s : State, s.powered = true → s.depot.state = .working ∨ s.depot.state = .responseWaiting →
    ∀ bytes : List Byte, bytes ≠ [] →
      ∃ t, exec (.send bytes) s = .next t
        ∧ t = { s with
                depot := { s.depot with overrun := true, miso := s.statusByte :: fill bytes.length }
                attention := { s.attention with flags := s.attention.flags ||| causeBit Cause.linkOverrun.number } }
        ∧ s.statusByte.getLsbD 2 = s.depot.overrun ∧ t.statusByte.getLsbD 2 = true

/-- The head and body of every request row spell that request (log entry 1): no operand is dropped on the link. -/
def Obligations.RowsSpellTheirRequests : Prop :=
  ∀ (c : Instr) (h : RequestHead) (r : Request), asRequest c = some (h, r) → parseRequest h r.body = some r

/-- A request row is the SENDs that carry it, in segments of 56 bytes (log entry 1): from every powered state, both leave the
same state. -/
def Obligations.RequestRowIsItsSends : Prop :=
  ∀ (c : Instr) (h : RequestHead) (r : Request) (s : State), asRequest c = some (h, r) → r.body.length ≤ 1024 →
    runAll (sendsOf h r) s = runAll [c] s

/-- R150: FETCH. -/
def Obligations.FetchShiftsResponse : Prop :=
  ∀ (clocked : Nat) (s : State), s.powered = true →
    (∀ r, s.depot.state = .responseWaiting → s.depot.response = some r →
      let out := (r.bytes.drop r.position).take (min clocked 60)
      exec (.fetch clocked) s = .next
        { s with
          depot :=
            { s.depot with
              overrun := false
              miso := s.statusByte :: out ++ fill (clocked - out.length)
              state := if r.position + out.length < r.bytes.length then .responseWaiting else .ready
              response :=
                if r.position + out.length < r.bytes.length then some { r with position := r.position + out.length }
                else none } })
    ∧ (s.depot.state ≠ .responseWaiting →
        exec (.fetch clocked) s = .next
          { s with depot := { s.depot with overrun := false, miso := s.statusByte :: fill clocked } })
    ∧ ∀ (st : Status) (h : RequestHead) (f : Nat) (body : List Byte),
        responseBytes st h f body =
          [BitVec.ofNat 8 st.code, h.kind, h.table, hiByte h.key, loByte h.key, BitVec.ofNat 8 f,
            hiByte (BitVec.ofNat 16 body.length), loByte (BitVec.ofNat 16 body.length)] ++ body

/-- R145, R157: an IGNORED_TRANSACTION, and what the status byte and ATTN show. After a status byte cut short the model holds no
byte as shifted out (log entry 30, the model's choice); without power ATTN is released (log entry 14, the model's choice). -/
def Obligations.IgnoredTransactionKeepsState : Prop :=
  (∀ s : State,
    s.statusByte = 0xA0#8 ||| (if s.attn then 0x08#8 else 0#8) ||| (if s.depot.overrun then 0x04#8 else 0#8)
      ||| (match s.depot.state with
        | .ready => 0#8
        | .assembling => 1#8
        | .working => 2#8
        | .responseWaiting => 3#8)
    ∧ (s.attn = true ↔ s.powered = true ∧
        ∃ n ∈ causeNumbers, hasCause s.attention.flags n = true ∧ hasCause s.profile.enables n = true))
  ∧ ∀ (direction : Byte) (bytes : List Byte) (s : State), s.powered = true →
      exec (.ignoredTransaction false direction bytes) s = .next { s with depot := { s.depot with miso := [] } }
      ∧ (direction ≠ 0x5A#8 → direction ≠ 0xA5#8 →
          exec (.ignoredTransaction true direction bytes) s = .next
            { s with depot := { s.depot with overrun := false, miso := s.statusByte :: fill bytes.length } })
      ∧ ((∀ r, s.depot.response = some r → r.position < r.bytes.length) →
          exec (.ignoredTransaction true direction []) s = .next
            { s with depot := { s.depot with overrun := false, miso := [s.statusByte] } })

/-- LOOKUP of the four tables and of the profile: the record of the key with every field in identifier order, absent fields as
the no-value code and enumerated fields by the order in which their values are listed (R165), or NOT_FOUND. A value is four bytes,
two's complement, most significant byte first; a pair is its identifier's byte and the value. -/
def Obligations.LookupReturnsRecord : Prop :=
  (∀ (key : Half) (s : State), s.takesRequests →
    exec (.lookupBus key) s = .next (match s.bus? key.toNat with
      | some b => s.replied (headOf 1#8 1#8 key) 0 .done 0 (valuesBody b.values)
      | none => s.replied (headOf 1#8 1#8 key) 0 .notFound 0 [])
    ∧ exec (.lookupBerth key) s = .next (match s.berth? key.toNat with
      | some b => s.replied (headOf 1#8 2#8 key) 0 .done 0 (valuesBody b.values)
      | none => s.replied (headOf 1#8 2#8 key) 0 .notFound 0 [])
    ∧ exec (.lookupTicket key) s = .next (match s.ticket? key.toNat with
      | some b => s.replied (headOf 1#8 3#8 key) 0 .done 0 (valuesBody b.values)
      | none => s.replied (headOf 1#8 3#8 key) 0 .notFound 0 [])
    ∧ exec (.lookupPledge key) s = .next (match s.pledge? key.toNat with
      | some b => s.replied (headOf 1#8 4#8 key) 0 .done 0 (valuesBody b.values)
      | none => s.replied (headOf 1#8 4#8 key) 0 .notFound 0 [])
    ∧ exec (.lookupProfile key) s = .next
        (if key = 0#16 then s.replied (headOf 1#8 0#8 key) 0 .done 0 (valuesBody (s.profile.values.map some))
         else s.replied (headOf 1#8 0#8 key) 0 .notFound 0 []))
  ∧ (∀ b : Bus, b.values =
      [some (b.fleet : Int), some (b.capacity : Int), some (b.rateCap : Int), some (if b.reserveEligible then 1 else 0),
       some (if b.inService then 1 else 0),
       some (match b.state with
        | .away => 0
        | .attached => 1),
       b.berth.map Int.ofNat, b.ticket.map Int.ofNat, b.held.map Int.ofNat, b.temperature,
       b.band.map (fun
        | .frozen => 0
        | .cold => 1
        | .normal => 2
        | .hot => 3),
       b.acceptance.map Int.ofNat, some (if b.packFault then 1 else 0),
       some (match b.freshness with
        | .noReport => 0
        | .fresh => 1
        | .stale => 2),
       some (b.floor : Int), some (if b.exportEligible then 1 else 0)])
  ∧ (∀ b : Berth, b.values =
      [some (b.number : Int), some (b.branch : Int), some (b.trench : Int), some (b.position : Int),
       some (b.maxImport : Int), some (b.maxExport : Int), some b.correction, some (if b.outOfService then 1 else 0),
       some (match b.state with
        | .vacant => 0
        | .awaitingId => 1
        | .occupied => 2
        | .foreign => 3
        | .faulted => 4
        | .outOfService => 5),
       b.occupant.map Int.ofNat,
       b.foreignReason.map (fun
        | .unknown => 0
        | .duplicate => 1),
       b.faultCause.map (fun
        | .silent => 0
        | .dispenser => 1
        | .refused => 2),
       b.dispenserCode.map Int.ofNat, some (b.missCount : Int), some b.reported, some b.wanted, some b.decided,
       some b.sent, some (if b.grantDue then 1 else 0)])
  ∧ (∀ x : Ticket, x.values =
      [some (x.id : Int), some (x.route : Int), some (x.departure : Int), some (x.need : Int), some (x.lead : Int),
       some (x.power : Int), x.bus.map Int.ofNat, x.lastBus.map Int.ofNat,
       some (match x.state with
        | .opened => 0
        | .assigned => 1
        | .released => 2
        | .missed => 3),
       x.grade.map (fun
        | .unknown => 0
        | .atRisk => 1
        | .onTrack => 2
        | .ready => 3),
       x.projected.map Int.ofNat, x.readyAtRelease.map fun ready => if ready then 1 else 0])
  ∧ (∀ p : Profile,
      let flag (b : Bool) : Int := if b then 1 else 0
      let causes (set : BitVec 14) : List Int := (List.range 14).map fun i => flag (set.getLsbD i)
      p.values =
        [(p.feederLimit : Int), (p.branchLimit1 : Int), (p.branchLimit2 : Int), (p.branchLimit3 : Int),
          (p.branchLimit4 : Int), (p.reserveCeiling : Int), (p.exportCeiling : Int), (p.tripAllowance : Int),
          (match p.tripMode with
            | .edge => 0
            | .edgeLevel => 1),
          flag p.tripEnabled, (p.sagTripLevel : Int), (p.sagReleaseMargin : Int), (p.sagCount : Int), flag p.overdrawAbort,
          flag p.meterSilentAbort, (p.overdrawTolerance : Int), (p.highRateThreshold : Int), (p.trenchQuota : Int),
          (p.spacingSections.toNat : Int), (p.startHold : Int), (p.reserveMargin : Int), (p.idleFloor : Int),
          (p.protectedHorizon : Int), (p.releaseWindow : Int), (p.grace : Int), (p.armingLead : Int), (p.coldDerate : Int),
          (p.warmUpPower : Int), (p.foreignRate : Int), (p.supervisionInterval : Int), flag p.fallbackRun]
        ++ causes p.enables ++ causes p.classes)
  ∧ (let bytes (field : Option Int) : List Byte :=
      let v : Value := match field with
        | some n => BitVec.ofInt 32 n
        | none => 0x80000000#32
      [v.extractLsb' 24 8, v.extractLsb' 16 8, v.extractLsb' 8 8, v.extractLsb' 0 8]
    (∀ fields : List (Option Int), valuesBody fields = fields.flatMap bytes)
    ∧ ∀ items : List (Nat × Option Int), pairsBody items = items.flatMap fun x => BitVec.ofNat 8 x.1 :: bytes x.2)
  ∧ ∀ p : Pledge, p.values =
      [some (p.id : Int),
       some (match p.kind with
        | .curtail => 0
        | .exporting => 1),
       some (p.start : Int), some (p.duration : Int), some (p.committed : Int), some (if p.yields then 1 else 0),
       some (match p.state with
        | .booked => 0
        | .armed => 1
        | .active => 2
        | .complete => 3),
       p.forecast.map (fun
        | .covered => 0
        | .shortForecast => 1),
       p.grade.map (fun
        | .meeting => 0
        | .short => 1),
       some (p.delivered : Int), some (p.shortMinutes : Int), some (p.worst : Int),
       p.outcome.map (fun
        | .met => 0
        | .short => 1
        | .withdrawn => 2
        | .lapsed => 3
        | .unattended => 4)]

/-- R153: LIST: the keys at or above the start key, up to the count, and the "more" mark; a count outside 1 to 64, and the
profile, give BAD_REQUEST. -/
def Obligations.ListReturnsKeys : Prop :=
  ∀ (table : TableId) (key : Half) (count : Option Byte) (s : State), s.takesRequests →
    let h := headOf 2#8 (tableCode table) key
    let n := count.toList.length
    let most := (count.map BitVec.toNat).getD 64
    let keys := match table with
      | .profile => []
      | .bus => s.buses.map Bus.fleet
      | .berth => s.berths.map Berth.number
      | .ticket => s.tickets.map Ticket.id
      | .pledge => s.pledges.map Pledge.id
    let above := keys.filter fun k => decide (key.toNat ≤ k)
    let shown := above.take most
    (table ≠ .profile → 1 ≤ most → most ≤ 64 →
      exec (.list table key count) s = .next
        (s.replied h n .done 0
          (BitVec.ofNat 8 shown.length :: shown.flatMap halfBytes ++ [if above.drop most = [] then 0#8 else 1#8])))
    ∧ (table = .profile ∨ most = 0 ∨ 64 < most →
        exec (.list table key count) s = .next (s.replied h n .badRequest 0 []))

/-- R154: SUMMARY returns the 70 items, each of the moment at which it is taken, and changes no record. Items 1 to 8 are R21's,
17 to 21 R61's, 33 to 42 R74's, 49 to 58 R95's, 65 to 76 R112's, 81 to 89 R131's, 97 to 105 R143's, 113 to 116 R159's (their
order, the mark ATTN and the first cause are stated of ATTEND; the arm's code is log entry 26) and 121 to 123 R161's. -/
def Obligations.SummaryReturnsSeventyItems : Prop :=
  (∀ s : State, s.takesRequests →
    exec .summary s = .next
      (s.replied (headOf 6#8 0#8 0#16) 0 .done 0
        (pairsBody ({ s with supervision := s.restarted } : State).summaryItems)))
  ∧ ∀ s : State,
    let flag (b : Bool) : Option Int := some (if b then 1 else 0)
    let many (n : Nat) : Option Int := some (n : Int)
    let level (l : Level) : Option Int := some (match l with
      | .released => 0
      | .asserted => 1)
    let buses (p : Bus → Bool) : Option Int := many (s.buses.filter p).length
    let tickets (st : TicketState) : Option Int := many (s.tickets.filter fun x => x.state == st).length
    let graded (g : TicketGrade) : Option Int :=
      many (s.tickets.filter fun x => x.state == .assigned && x.grade == some g).length
    let pledges (st : PledgeState) : Option Int := many (s.pledges.filter fun p => p.state == st).length
    let drawn (b : Berth) : Nat := max (max b.decided 0).toNat (max b.reported 0).toNat
    let given (b : Berth) : Nat := max (max (-b.decided) 0).toNat (max (-b.reported) 0).toNat
    let branch (n : Nat) : Option Int := many ((s.berths.filter fun b => b.branch == n).map drawn).sum
    s.summaryItems =
      [(1, many s.buses.length), (2, many (96 - s.buses.length)), (3, buses fun b => b.state == .away),
       (4, buses fun b => b.state == .attached), (5, buses fun b => b.held.isSome), (6, buses Bus.exportEligible),
       (7, many (s.buses.map fun b => b.held.getD 0).sum),
       (8, many ((s.buses.filter Bus.exportEligible).map fun b => b.held.getD 0 - b.floor).sum)]
      ++ [(17, some (match s.line.condition with
            | .frames => 0
            | .brk => 1
            | .preamble => 2)),
          (18, many s.line.roundCounter), (19, flag s.line.firstRound), (20, many s.line.meterMiss),
          (21, many (s.berths.filter Berth.grantDue).length)]
      ++ [(33, some (match s.run.state with
            | .idle => 0
            | .starting => 1
            | .running => 2
            | .paused => 3)),
          (34, flag (s.run.state != .idle)), (35, flag s.run.hostPause), (36, flag s.run.thermalPause),
          (37, flag s.run.abortCause.isSome),
          (38, s.run.abortCause.map fun
            | .meterSilent => 0
            | .overdraw => 1),
          (39, flag s.run.invalidReason.isSome),
          (40, s.run.invalidReason.map fun
            | .clockUnset => 0
            | .noBerth => 1
            | .branchLimit => 2
            | .sharedPlace => 3),
          (41, s.run.invalidDetail.map Int.ofNat), (42, many s.run.overdraw)]
      ++ [(49, many s.alloc.baseLoad), (50, many s.alloc.importCeiling),
          (51, some (match s.alloc.binding with
            | .feeder => 0
            | .curtail => 1
            | .trip => 2
            | .held => 3)),
          (52, many s.alloc.exportCeiling), (53, many (s.berths.map drawn).sum), (54, branch 1), (55, branch 2),
          (56, branch 3), (57, branch 4), (58, many (s.berths.map given).sum)]
      ++ [(65, flag s.clock.time.isSome), (66, s.clock.time.map fun t => (t.day : Int)),
          (67, s.clock.time.map fun t => (t.minute : Int)), (68, tickets .opened), (69, tickets .assigned),
          (70, tickets .released), (71, tickets .missed), (72, graded .unknown), (73, graded .atRisk),
          (74, graded .onTrack), (75, graded .ready), (76, many (128 - s.tickets.length))]
      ++ [(81, pledges .booked), (82, pledges .armed), (83, pledges .active), (84, pledges .complete),
          (85, many (16 - s.pledges.length)), (86, many s.reserve.curtailCommitment),
          (87, many s.reserve.exportCommitment), (88, many s.reserve.readinessYield),
          (89, many s.reserve.yieldList.length)]
      ++ [(97, level s.grid.tripLevel), (98, level s.grid.stopLevel), (99, flag s.grid.tripLatch),
          (100, flag s.grid.tripAck), (101, flag (s.grid.tripLatch && s.profile.tripEnabled)),
          (102, flag s.grid.stopLatch), (103, flag s.grid.clearRemembered), (104, flag s.grid.sag),
          (105, many s.grid.lowCount)]
      ++ [(113, many s.attention.flags.toNat), (114, s.firstPending.map Int.ofNat), (115, flag s.attn),
          (116, some (if s.attention.armed then 0 else 1))]
      ++ [(121, some (match s.supervision.condition with
            | .off => 0
            | .disarmed => 1
            | .counting => 2
            | .expired => 3)),
          (122, many (if s.supervision.condition = .counting then s.supervision.remaining else 0)),
          (123, flag s.supervision.fallback)]

/-- R158: ATTEND: acknowledgement, then report; a cause outside 1 to 14, or a repeated one, gives BAD_REQUEST; and the first
pending enabled cause is URGENT before ROUTINE, each in ascending number. -/
def Obligations.AttendAcknowledgesThenReports : Prop :=
  (∀ (causes : List Byte) (s : State), s.takesRequests → causes.length ≤ 1024 →
    ((∀ c ∈ causes, 1 ≤ c.toNat ∧ c.toNat ≤ 14) → causes.Nodup →
      ∃ flags : BitVec 14,
        (∀ n ∈ causeNumbers, hasCause flags n = (hasCause s.attention.flags n && !causes.any fun c => c.toNat == n))
        ∧ (let u : State := { s with attention := { s.attention with flags := flags } }
          exec (.attend causes) s = .next
            { s.replied (headOf 7#8 0#8 0#16) causes.length .done 0
                (pairsBody
                  [(113, some (flags.toNat : Int)), (114, optNat u.firstPending), (115, some (yesNo u.attn)),
                   (116, some (armCode s.attention.armed))]) with
              attention := { s.attention with flags := flags } }))
    ∧ ((∃ c ∈ causes, c.toNat = 0 ∨ 14 < c.toNat) ∨ ¬ causes.Nodup →
        exec (.attend causes) s = .next (s.replied (headOf 7#8 0#8 0#16) causes.length .badRequest 0 [])))
  ∧ ∀ u : State,
      let driving (n : Nat) : Prop := hasCause u.attention.flags n = true ∧ hasCause u.profile.enables n = true
      let routine (n : Nat) : Bool := hasCause u.profile.classes n
      (u.firstPending = none → ∀ n ∈ causeNumbers, ¬ driving n)
      ∧ ∀ n, u.firstPending = some n → n ∈ causeNumbers ∧ driving n
          ∧ ∀ m ∈ causeNumbers, driving m → m ≠ n →
              (routine n = false ∧ routine m = true) ∨ (routine n = routine m ∧ n < m)

/-- R151, R166: what a head and a body must be to spell a request, which requests pass the rest of the head check, and that any
other complete request, as a row or as the SENDs that carry its bytes, gets BAD_REQUEST, reaches no owner and changes no
record. -/
def Obligations.MalformedRequestsReachNoOwner : Prop :=
  (∀ (c : Instr) (h : RequestHead) (r : Request) (s : State), asRequest c = some (h, r) → s.takesRequests →
    r.body.length ≤ 1024 → r.formOk = false →
      exec c s = .next (s.replied h r.body.length .badRequest 0 []))
  ∧ (∀ (h : RequestHead) (body : List Byte) (s : State), s.takesRequests → body.length ≤ 1024 →
      (∀ r, parseRequest h body = some r → r.formOk = false) →
        runAll (sendsFrom true body.length h 19 body) s = some (s.replied h body.length .badRequest 0 [])
        ∧ (body.length ≤ 56 → exec (.send (segmentBytes true true body.length h body)) s =
            .next (s.replied h body.length .badRequest 0 [])))
  ∧ (∀ (h : RequestHead) (body : List Byte),
      let kind := h.kind.toNat
      let noTable : Prop := 4 < h.table.toNat
      (kind = 0 ∨ 8 < kind → parseRequest h body = none)
      ∧ (kind = 1 ∨ kind = 5 → (parseRequest h body = none ↔ noTable ∨ body ≠ []))
      ∧ (kind = 2 → (parseRequest h body = none ↔ noTable ∨ 1 < body.length))
      ∧ (kind = 3 ∨ kind = 4 → (parseRequest h body = none ↔ noTable ∨ body.length % 5 ≠ 0))
      ∧ (kind = 6 → (parseRequest h body = none ↔ body ≠ []))
      ∧ (kind = 7 → parseRequest h body = some (.attend body))
      ∧ (kind = 8 → (parseRequest h body = none ↔
          ¬ ∃ f rest, body = f :: rest ∧ 1 ≤ f.toNat ∧ f.toNat ≤ 11 ∧ (rest = [] ∨ (f.toNat = 9 ∧ rest.length % 5 = 0)))))
  ∧ (∀ (t : TableId) (k : Nat) (ps : List Pair),
      ((Request.amend t k ps).formOk = true ↔ 1 ≤ ps.length ∧ ps.length ≤ 24)
      ∧ ((Request.enrol t k ps).formOk = true ↔ t ≠ .profile ∧ ps.length ≤ 24)
      ∧ ((Request.retire t k).formOk = true ↔ t ≠ .profile) ∧ (Request.lookup t k).formOk = true)
  ∧ (∀ (t : TableId) (k : Nat), (Request.list t k none).formOk = true ↔ t ≠ .profile)
  ∧ (∀ (t : TableId) (k : Nat) (c : Byte),
      (Request.list t k (some c)).formOk = true ↔ t ≠ .profile ∧ 1 ≤ c.toNat ∧ c.toNat ≤ 64)
  ∧ (∀ causes : List Byte,
      (Request.attend causes).formOk = true ↔ (∀ c ∈ causes, 1 ≤ c.toNat ∧ c.toNat ≤ 14) ∧ causes.Nodup)
  ∧ Request.summary.formOk = true ∧ ∀ f : Control, (Request.control f).formOk = true

/-- R2, R152: a refused request changes no record: only the depot link and the supervision timer move. Its response has no body,
but for RUN_START and SET_CLOCK, whose bodies log entry 38 chooses. -/
def Obligations.RefusedRequestsChangeNoRecord : Prop :=
  ∀ (c : Instr) (h : RequestHead) (r : Request) (s : State), asRequest c = some (h, r) → c ≠ .runStart →
    s.takesRequests → r.body.length ≤ 1024 → r.formOk = true → (s.begun.owner r).status ≠ .done →
      ∃ failing body, exec c s = .next (s.replied h r.body.length (s.begun.owner r).status failing body)
        ∧ ((∀ pairs, c ≠ .setClock pairs) → body = [])

/-! ## The tables as owners of requests -/

/-- R3: ENROL of a bus: the checks in their order, and the record it creates. -/
def Obligations.EnrolBusCreatesRecord : Prop :=
  ∀ (key : Half) (pairs : List Pair) (s : State), s.takesRequests → pairs.length ≤ 24 →
    let h := headOf 3#8 1#8 key
    let n := 5 * pairs.length
    let k := key.toNat
    let refused (st : Status) (f : Nat) : Prop := exec (.enrolBus key pairs) s = .next (s.replied h n st f [])
    let check := checkPairs 16 busFieldFits [2, 3] [] pairs
    (k = 0 ∨ 9999 < k → refused .badField 1)
    ∧ (1 ≤ k → k ≤ 9999 → (s.bus? k).isSome → refused .existsAlready 0)
    ∧ (1 ≤ k → k ≤ 9999 → s.bus? k = none →
        (∀ st f, check = some (st, f) → refused st f)
        ∧ (check = none → 96 ≤ s.buses.length → refused .full 0)
        ∧ (check = none → s.buses.length < 96 →
            ∃ (b : Bus) (t : State), exec (.enrolBus key pairs) s = .next t
              ∧ AnsweredDone s h n { s with buses := insertByKey Bus.fleet b s.buses } (fun u => recordBody (u.busValues k)) t
              ∧ b.fleet = k ∧ some (b.capacity : Int) = carriedFor pairs 2 ∧ some (b.rateCap : Int) = carriedFor pairs 3
              ∧ b.reserveEligible = (carriedFor pairs 4 == some 1) ∧ b.inService = (carriedFor pairs 5 != some 0)
              ∧ b.state = .away ∧ b.berth = none ∧ b.ticket = none ∧ b.held = none ∧ b.temperature = none
              ∧ b.band = none ∧ b.acceptance = none ∧ b.packFault = false ∧ b.freshness = .noReport
              ∧ b.exportEligible = false ∧ b.thermal = 0 ∧ b.charge = 0))

/-- R25: ENROL of a berth: refused with BUSY unless the run is IDLE; the record, written out, begins VACANT, or OUT_OF_SERVICE by
its setting, with nothing plugged in, no fault, no miss, every power 0 and no grant due, and a pass is raised. -/
def Obligations.EnrolBerthCreatesRecord : Prop :=
  ∀ (key : Half) (pairs : List Pair) (s : State), s.takesRequests → pairs.length ≤ 24 →
    let h := headOf 3#8 2#8 key
    let n := 5 * pairs.length
    let k := key.toNat
    let refused (st : Status) (f : Nat) : Prop := exec (.enrolBerth key pairs) s = .next (s.replied h n st f [])
    let check := checkPairs 19 berthFieldFits [2, 3, 4, 5] [] pairs
    (s.run.state ≠ .idle → refused .busy 0)
    ∧ (s.run.state = .idle →
        (k = 0 ∨ 32 < k → refused .badField 1)
        ∧ (1 ≤ k → k ≤ 32 → (s.berth? k).isSome → refused .existsAlready 0)
        ∧ (1 ≤ k → k ≤ 32 → s.berth? k = none →
            (∀ st f, check = some (st, f) → refused st f)
            ∧ (check = none →
                ∃ (b : Berth) (t : State), exec (.enrolBerth key pairs) s = .next t
                  ∧ AnsweredDone s h n
                      { s with
                        berths := insertByKey Berth.number b s.berths
                        alloc := { s.alloc with passRequested := true } } (fun u => recordBody (u.berthValues k)) t
                  ∧ b =
                    { b with
                      number := k
                      state := if b.outOfService then .outOfService else .vacant
                      occupant := none, foreignReason := none, faultCause := none, dispenserCode := none, missCount := 0
                      reported := 0, wanted := 0, decided := 0, sent := 0, grantDue := false, retryWait := false }
                  ∧ some (b.branch : Int) = carriedFor pairs 2 ∧ some (b.trench : Int) = carriedFor pairs 3
                  ∧ some (b.position : Int) = carriedFor pairs 4 ∧ some (b.maxImport : Int) = carriedFor pairs 5
                  ∧ (b.maxExport : Int) = (carriedFor pairs 6).getD 0 ∧ b.correction = (carriedFor pairs 7).getD 0
                  ∧ b.outOfService = (carriedFor pairs 8 == some 1))))

/-- R102: ENROL of a ticket. A departure is later than the present time when the minutes to it are above 0
(`MinuteEventAdvancesClock` says what `minutesFrom` gives). -/
def Obligations.EnrolTicketCreatesRecord : Prop :=
  ∀ (key : Half) (pairs : List Pair) (s : State), s.takesRequests → pairs.length ≤ 24 →
    let h := headOf 3#8 3#8 key
    let n := 5 * pairs.length
    let k := key.toNat
    let refused (st : Status) (f : Nat) : Prop := exec (.enrolTicket key pairs) s = .next (s.replied h n st f [])
    let check := checkPairs 12 ticketEnrolFits [2, 3, 4] [] pairs
    (k = 0 → refused .badField 1)
    ∧ (k ≠ 0 → s.now = none → refused .clockUnset 0)
    ∧ ∀ now, k ≠ 0 → s.now = some now →
        ((s.ticket? k).isSome → refused .existsAlready 0)
        ∧ (s.ticket? k = none → ∀ st f, check = some (st, f) → refused st f)
        ∧ (s.ticket? k = none → check = none → ∀ departure : Nat, carriedFor pairs 3 = some (departure : Int) →
            (minutesFrom now departure ≤ 0 → refused .badField 3)
            ∧ (0 < minutesFrom now departure → 128 ≤ s.tickets.length → refused .full 0)
            ∧ (0 < minutesFrom now departure → s.tickets.length < 128 →
                ∃ (x : Ticket) (t : State), exec (.enrolTicket key pairs) s = .next t
                  ∧ AnsweredDone s h n { s with tickets := insertByKey Ticket.id x s.tickets }
                      (fun u => recordBody (u.ticketValues k)) t
                  ∧ x.id = k ∧ x.departure = departure ∧ some (x.route : Int) = carriedFor pairs 2
                  ∧ some (x.need : Int) = carriedFor pairs 4 ∧ (x.lead : Int) = (carriedFor pairs 5).getD 0
                  ∧ (x.power : Int) = (carriedFor pairs 6).getD 0
                  ∧ x.state = .opened ∧ x.bus = none ∧ x.lastBus = none ∧ x.grade = none ∧ x.projected = none
                  ∧ x.readyAtRelease = none))

/-- R116: ENROL of a pledge. -/
def Obligations.EnrolPledgeCreatesRecord : Prop :=
  ∀ (key : Half) (pairs : List Pair) (s : State), s.takesRequests → pairs.length ≤ 24 →
    let h := headOf 3#8 4#8 key
    let n := 5 * pairs.length
    let k := key.toNat
    let refused (st : Status) (f : Nat) : Prop := exec (.enrolPledge key pairs) s = .next (s.replied h n st f [])
    let p := newPledge k pairs
    let check := checkPairs 13 pledgeFieldFits [2, 3, 4, 5]
      (if carriedFor pairs 2 = some 1 ∧ carriedFor pairs 6 = some 1 then [6] else []) pairs
    (k = 0 → refused .badField 1)
    ∧ (k ≠ 0 → s.now = none → refused .clockUnset 0)
    ∧ ∀ now, k ≠ 0 → s.now = some now →
        ((s.pledge? k).isSome → refused .existsAlready 0)
        ∧ (s.pledge? k = none → ∀ st f, check = some (st, f) → refused st f)
        ∧ (s.pledge? k = none → check = none →
            (minutesFrom now p.start ≤ 0 ∨ minutesFrom now p.start < s.profile.armingLead
                ∨ 94371839 < p.start + p.duration → refused .badField 3)
            ∧ (0 < minutesFrom now p.start → (s.profile.armingLead : Int) ≤ minutesFrom now p.start →
                p.start + p.duration ≤ 94371839 →
                (16 ≤ s.pledges.length → refused .full 0)
                ∧ (s.pledges.length < 16 → s.admits (p :: s.livePledges) = false → refused .overCeiling 0)
                ∧ (s.pledges.length < 16 → s.admits (p :: s.livePledges) = true →
                    ∃ t, exec (.enrolPledge key pairs) s = .next t
                      ∧ AnsweredDone s h n { s with pledges := insertByKey Pledge.id p s.pledges }
                          (fun u => recordBody (u.pledgeValues k)) t
                      ∧ p.id = k ∧ p.state = .booked ∧ p.forecast = none ∧ p.grade = none ∧ p.outcome = none
                      ∧ p.delivered = 0 ∧ p.shortMinutes = 0 ∧ p.worst = 0
                      ∧ some p.kind.code = carriedFor pairs 2 ∧ some (p.start : Int) = carriedFor pairs 3
                      ∧ some (p.duration : Int) = carriedFor pairs 4 ∧ some (p.committed : Int) = carriedFor pairs 5
                      ∧ p.yields = (carriedFor pairs 6 == some 1))))

/-- R4: AMEND of a bus: the host fields carried are written, and a held energy above the new capacity is clipped to it. -/
def Obligations.AmendBusWritesHostFields : Prop :=
  ∀ (key : Half) (pairs : List Pair) (s : State), s.takesRequests → 1 ≤ pairs.length → pairs.length ≤ 24 →
    let h := headOf 4#8 1#8 key
    let n := 5 * pairs.length
    let check := checkPairs 16 busFieldFits [] [] pairs
    (s.bus? key.toNat = none → exec (.amendBus key pairs) s = .next (s.replied h n .notFound 0 []))
    ∧ ((s.bus? key.toNat).isSome →
        (∀ st f, check = some (st, f) → exec (.amendBus key pairs) s = .next (s.replied h n st f []))
        ∧ (check = none →
            ∃ t, exec (.amendBus key pairs) s = .next t
              ∧ AnsweredDone s h n
                  { s with
                    buses := s.buses.map fun b =>
                      if b.fleet = key.toNat then
                        { b with
                          capacity := natField pairs 2 b.capacity
                          rateCap := natField pairs 3 b.rateCap
                          reserveEligible := flagField pairs 4 b.reserveEligible
                          inService := flagField pairs 5 b.inService
                          held := b.held.map fun e => min e (natField pairs 2 b.capacity) }
                      else b } (fun u => recordBody (u.busValues key.toNat)) t))

/-- R26, R28, R29: AMEND of a berth: BUSY outside IDLE, BUSY for a branch with counted import, and otherwise the topology
fields written, with a pass raised when one is carried; an out-of-service setting carried is taken on the written record
(`OutOfServiceSetting` says what it does). -/
def Obligations.AmendBerthWritesTopology : Prop :=
  ∀ (key : Half) (pairs : List Pair) (s : State), s.takesRequests → 1 ≤ pairs.length → pairs.length ≤ 24 →
    let h := headOf 4#8 2#8 key
    let n := 5 * pairs.length
    let check := checkPairs 19 berthFieldFits [] [] pairs
    let topology : Prop := ∃ i ∈ [2, 3, 4, 5, 6, 7], (carriedFor pairs i).isSome
    let refused (st : Status) (f : Nat) : Prop := exec (.amendBerth key pairs) s = .next (s.replied h n st f [])
    let done (post : State) : Prop := ∃ t, exec (.amendBerth key pairs) s = .next t
      ∧ AnsweredDone s h n post (fun u => recordBody (u.berthValues key.toNat)) t
    let written : State :=
      { s with
        berths := s.berths.map fun x =>
          if x.number = key.toNat then
            { x with
              branch := natField pairs 2 x.branch
              trench := natField pairs 3 x.trench
              position := natField pairs 4 x.position
              maxImport := natField pairs 5 x.maxImport
              maxExport := natField pairs 6 x.maxExport
              correction := (carriedFor pairs 7).getD x.correction }
          else x
        alloc := { s.alloc with passRequested := s.alloc.passRequested || carriesTopology pairs } }
    (s.berth? key.toNat = none → refused .notFound 0)
    ∧ ∀ b, s.berth? key.toNat = some b →
        (topology → s.run.state ≠ .idle → refused .busy 0)
        ∧ ((carriedFor pairs 2).isSome → b.countedImport ≠ 0 → refused .busy 0)
        ∧ ((topology → s.run.state = .idle) → ((carriedFor pairs 2).isSome → b.countedImport = 0) →
            (∀ st f, check = some (st, f) → refused st f)
            ∧ (check = none →
                (carriedFor pairs 8 = none → done written)
                ∧ (carriedFor pairs 8 = some 0 → done
                    { written with
                      berths := written.berths.map fun x =>
                        if x.number = key.toNat ∧ x.state = .outOfService then
                          { x with
                            outOfService := false, state := .vacant, occupant := none, foreignReason := none
                            faultCause := none, dispenserCode := none }
                        else x })
                ∧ (carriedFor pairs 8 = some 1 → done (State.setOutOfService key.toNat written))))
    ∧ (carriesTopology pairs = true ↔ topology)

/-- R28, R29: the out-of-service setting, alone in an AMEND, in every run state. Set: the occupant is detached and its ticket
released within the release window (R7, R110); the berth leaves the sweep, its exchange is void (R58), and a frame chosen for it
and not yet begun is dropped (log entry 5); the fault episode re-arms when no berth is FAULTED any more (R39). -/
def Obligations.OutOfServiceSetting : Prop :=
  ∀ (key : Half) (s : State) (b : Berth), s.takesRequests → s.tablesOk = true → s.berth? key.toNat = some b →
    let n := key.toNat
    let h := headOf 4#8 2#8 key
    let set := Instr.amendBerth key [{ ident := 8#8, value := 1#32 }]
    let clear := Instr.amendBerth key [{ ident := 8#8, value := 0#32 }]
    let body := fun u : State => recordBody (u.berthValues n)
    (b.state ≠ .outOfService → ∃ t, exec set s = .next t
      ∧ t.berth? n = some
          { b with
            outOfService := true, state := .outOfService, occupant := none, foreignReason := none, faultCause := none,
            dispenserCode := none, wanted := 0, decided := 0, sent := 0, reported := 0, grantDue := false,
            retryWait := false, missCount := 0 }
      ∧ (∀ k x, b.busOccupant = some k → s.bus? k = some x →
          ∃ y, t.bus? k = some y ∧ y.state = .away ∧ y.berth = none ∧ y.held = x.held ∧ y.freshness = x.freshness)
      ∧ (s.ticketLinksOk = true →
          s.handsOn t (s.ticketUnplugged t b.busOccupant)
          ∧ t.buses = s.buses.map fun x => t.deriveBus (if b.busOccupant = some x.fleet then s.busUnplugged x else x))
      ∧ t.berths.map Berth.number = s.berths.map Berth.number
      ∧ (∀ m, m ≠ n → ∀ r, s.berth? m = some r → ∃ r', t.berth? m = some r'
          ∧ r' = r.setTarget (s.grantInFlight m) r'.wanted r'.decided ∧ s.keepsTargets t r r')
      ∧ t.line =
          { s.line with
            roundList := s.line.roundList.filter fun m => m != n
            exchange := s.line.exchange.map fun e => if e.address = n then { e with void := true } else e
            nextSend :=
              if s.line.nextSend = some (.pollBerth n) ∨ s.line.nextSend = some (.grantTo n) then none
              else s.line.nextSend }
      ∧ t.alloc.passRequested = true
      ∧ t.attention.armed = (s.attention.armed || (s.faultedCount != 0 && t.faultedCount == 0))
      ∧ (∀ c : Cause, c ≠ .ticketAtRisk →
          hasCause t.attention.flags c.number = hasCause s.attention.flags c.number)
      ∧ t.run = s.run ∧ t.clock = s.clock ∧ t.pledges = s.pledges ∧ t.grid = s.grid ∧ t.profile = s.profile
      ∧ t.store = s.store ∧ t.alloc.baseLoad = s.alloc.baseLoad ∧ t.supervision = s.restarted
      ∧ t.depot = s.answered h 5 .done 0 (body t))
    ∧ (b.state = .outOfService → ∃ t, exec set s = .next t ∧ AnsweredDone s h 5 s body t)
    ∧ (b.state ≠ .outOfService → ∃ t, exec clear s = .next t ∧ AnsweredDone s h 5 s body t)
    ∧ (b.state = .outOfService → ∃ t, exec clear s = .next t
      ∧ AnsweredDone s h 5
          { s with
            berths := s.berths.map fun x =>
              if x.number = n ∧ x.state = .outOfService then
                { x with
                  outOfService := false, state := .vacant, occupant := none, foreignReason := none, faultCause := none
                  dispenserCode := none }
              else x } body t
      ∧ ∃ b', t.berth? n = some b' ∧ b'.state = .vacant ∧ b'.outOfService = false ∧ b'.occupant = none
          ∧ b'.foreignReason = none ∧ b'.faultCause = none ∧ b'.dispenserCode = none
          ∧ b'.reported = b.reported ∧ b'.sent = b.sent ∧ b'.missCount = b.missCount)

/-- R103, R104: AMEND of a ticket: the checks in their order; then assignment, unassignment and move, with both sides of the
link written in one event. -/
def Obligations.AmendTicketKeepsLinks : Prop :=
  ∀ (key : Half) (pairs : List Pair) (s : State), s.takesRequests → 1 ≤ pairs.length → pairs.length ≤ 24 →
    let h := headOf 4#8 3#8 key
    let n := 5 * pairs.length
    let k := key.toNat
    let check := checkPairs 12 ticketFieldFits [] [] pairs
    let refused (st : Status) (f : Nat) : Prop := exec (.amendTicket key pairs) s = .next (s.replied h n st f [])
    let done (tickets : List Ticket) (buses : List Bus) : Prop :=
      ∃ t, exec (.amendTicket key pairs) s = .next t
        ∧ AnsweredDone s h n { s with tickets := tickets, buses := buses } (fun u => recordBody (u.ticketValues k)) t
    let amended (f : Ticket → Ticket) : List Ticket :=
      s.tickets.map fun x => if x.id = k then f (x.amend pairs) else x
    let clear (x : Nat) (buses : List Bus) : List Bus := buses.map fun b => if b.fleet = x then { b with ticket := none } else b
    let name (x : Nat) (buses : List Bus) : List Bus :=
      buses.map fun b => if b.fleet = x then { b with ticket := some k } else b
    (s.ticket? k = none → refused .notFound 0)
    ∧ ∀ x, s.ticket? k = some x →
        (x.state = .released ∨ x.state = .missed → refused .badState 0)
        ∧ (x.state = .opened ∨ x.state = .assigned →
            (∀ st f, check = some (st, f) → refused st f)
            ∧ (check = none →
                (∀ d : Nat, carriedFor pairs 3 = some (d : Int) → (∀ now, s.now = some now → minutesFrom now d ≤ 0) →
                  refused .badField 3)
                ∧ ((∀ d : Nat, carriedFor pairs 3 = some (d : Int) → ∃ now, s.now = some now ∧ 0 < minutesFrom now d) →
                    (carriedFor pairs 7 = none → done (amended id) s.buses)
                    ∧ (carriedFor pairs 7 = some 0 →
                        (x.bus = none → done (amended id) s.buses)
                        ∧ ∀ y, x.bus = some y →
                            done (amended fun z => { z with state := .opened, bus := none, grade := none, projected := none })
                              (clear y s.buses))
                    ∧ ∀ v : Nat, v ≠ 0 → carriedFor pairs 7 = some (v : Int) →
                        (s.bus? v = none → refused .notFound 7)
                        ∧ ∀ b, s.bus? v = some b →
                            (∀ other, b.ticket = some other → other ≠ k → refused .conflict 0)
                            ∧ (b.ticket = none ∨ b.ticket = some k →
                                (x.bus = some v → done (amended id) s.buses)
                                ∧ (x.bus = none →
                                    done (amended fun z => { z with state := .assigned, bus := some v, lastBus := some v })
                                      (name v s.buses))
                                ∧ ∀ y, x.bus = some y → y ≠ v →
                                    done (amended fun z => { z with state := .assigned, bus := some v, lastBus := some v })
                                      (name v (clear y s.buses))))))

/-- R117: AMEND of a pledge. The start as it would stand is checked as an ENROL's is (R116, check 5). -/
def Obligations.AmendPledgeWritesHostFields : Prop :=
  ∀ (key : Half) (pairs : List Pair) (s : State), s.takesRequests → 1 ≤ pairs.length → pairs.length ≤ 24 →
    let h := headOf 4#8 4#8 key
    let n := 5 * pairs.length
    let k := key.toNat
    let refused (st : Status) (f : Nat) : Prop := exec (.amendPledge key pairs) s = .next (s.replied h n st f [])
    (s.pledge? k = none → refused .notFound 0)
    ∧ ∀ old, s.pledge? k = some old →
        let p : Pledge :=
          { old with
            kind := ((carriedFor pairs 2).map pledgeKindOf).getD old.kind
            start := natField pairs 3 old.start
            duration := natField pairs 4 old.duration
            committed := natField pairs 5 old.committed
            yields := flagField pairs 6 old.yields }
        let check := checkPairs 13 pledgeFieldFits [] (if p.kind = .exporting ∧ p.yields then [6] else []) pairs
        let fits : Prop := ∃ now, s.now = some now ∧ 0 < minutesFrom now p.start
          ∧ (s.profile.armingLead : Int) ≤ minutesFrom now p.start ∧ p.start + p.duration ≤ 94371839
        (old.state ≠ .booked → refused .badState 0)
        ∧ (old.state = .booked →
            (∀ st f, check = some (st, f) → refused st f)
            ∧ (check = none → ¬ fits → refused .badField 3)
            ∧ (check = none → fits →
                s.admits (p :: s.livePledges.filter fun q => q.id != k) = false → refused .overCeiling 0)
            ∧ (check = none → fits →
                s.admits (p :: s.livePledges.filter fun q => q.id != k) = true →
                ∃ t, exec (.amendPledge key pairs) s = .next t
                  ∧ AnsweredDone s h n { s with pledges := s.pledges.map fun q => if q.id = k then q.amend pairs else q }
                      (fun u => recordBody (u.pledgeValues k)) t
                  ∧ t.pledge? k = some p))

/-- R162: AMEND of the profile: the checks in their order; the settings carried are written and the others kept; base load,
trip latch, timer and pass follow. -/
def Obligations.AmendProfileWritesSettings : Prop :=
  ∀ (key : Half) (pairs : List Pair) (s : State), s.takesRequests → 1 ≤ pairs.length → pairs.length ≤ 24 →
    let h := headOf 4#8 0#8 key
    let n := 5 * pairs.length
    let check := checkPairs 59 profileFieldFits [] [] pairs
    let p := s.profile.amend pairs
    let limits : Prop := ∃ i ∈ [1, 2, 3, 4, 5], (carriedFor pairs i).isSome
    let ceilings : Prop := ∃ i ∈ [6, 7], (carriedFor pairs i).isSome
    let free : Prop := s.run.state = .idle ∧ ∀ b ∈ s.berths, b.countedImport = 0
    let passes : Prop := commitmentTest p.reserveCeiling p.exportCeiling (s.pledges.filter Pledge.isLive) = true
    let refused (st : Status) (f : Nat) : Prop := exec (.amendProfile key pairs) s = .next (s.replied h n st f [])
    (key ≠ 0#16 → refused .notFound 0)
    ∧ (key = 0#16 →
        (∀ st f, check = some (st, f) → refused st f)
        ∧ (check = none → limits → ¬ free → refused .busy 0)
        ∧ (check = none → (limits → free) → ceilings → ¬ passes → refused .overCeiling 0)
        ∧ (check = none → (limits → free) → (ceilings → passes) →
            (∀ i, 1 ≤ i → i ≤ 59 →
              p.values[i - 1]? = some ((carriedFor pairs i).getD ((s.profile.values[i - 1]?).getD 0)))
            ∧ ∃ t, exec (.amendProfile key pairs) s = .next t
              ∧ Settles s
                  { s with
                    profile := p
                    alloc :=
                      { s.alloc with
                        baseLoad := if (carriedFor pairs 1).isSome then min s.alloc.baseLoad p.feederLimit else s.alloc.baseLoad
                        passRequested :=
                          s.alloc.passRequested || [2, 3, 4, 5, 17, 18, 19].any fun i => (carriedFor pairs i).isSome }
                    grid :=
                      if (carriedFor pairs 9).isSome ∧ p.tripMode = .edge ∧ s.grid.tripLatch ∧ s.grid.tripAck then
                        { s.grid with tripLatch := false, tripAck := false }
                      else s.grid
                    depot := s.answered h n .done 0 (valuesBody (p.values.map some))
                    supervision := if (carriedFor pairs 30).isSome then ({ s with profile := p } : State).restarted
                      else s.restarted } t))

/-- R5, R27, R105, R130: RETIRE of a bus, a berth, a ticket and a pledge. A frame chosen for a retired berth and not yet begun is
dropped (log entry 5). -/
def Obligations.RetireFreesSlot : Prop :=
  ∀ (key : Half) (s : State), s.takesRequests →
    let k := key.toNat
    let hb := headOf 5#8 1#8 key
    let hn := headOf 5#8 2#8 key
    let ht := headOf 5#8 3#8 key
    let hp := headOf 5#8 4#8 key
    (s.bus? k = none → exec (.retireBus key) s = .next (s.replied hb 0 .notFound 0 []))
    ∧ (∀ b, s.bus? k = some b →
        (b.state = .attached ∨ b.ticket ≠ none → exec (.retireBus key) s = .next (s.replied hb 0 .inUse 0 []))
        ∧ (b.state = .away → b.ticket = none → ∃ t, exec (.retireBus key) s = .next t
            ∧ AnsweredDone s hb 0 { s with buses := s.buses.filter fun x => x.fleet != k } (fun _ => []) t))
    ∧ (s.berth? k = none → exec (.retireBerth key) s = .next (s.replied hn 0 .notFound 0 []))
    ∧ (∀ b, s.berth? k = some b →
        (s.run.state ≠ .idle → exec (.retireBerth key) s = .next (s.replied hn 0 .busy 0 []))
        ∧ (s.run.state = .idle → b.state ≠ .vacant → b.state ≠ .outOfService →
            exec (.retireBerth key) s = .next (s.replied hn 0 .badState 0 []))
        ∧ (s.run.state = .idle → b.state = .vacant ∨ b.state = .outOfService →
            ∃ t, exec (.retireBerth key) s = .next t
              ∧ AnsweredDone s hn 0
                  { s with
                    berths := s.berths.filter fun x => x.number != k
                    line :=
                      { s.line with
                        roundList := s.line.roundList.filter fun m => m != k
                        exchange := s.line.exchange.map fun e => if e.address = k then { e with void := true } else e
                        nextSend :=
                          if s.line.nextSend = some (.pollBerth k) ∨ s.line.nextSend = some (.grantTo k) then none
                          else s.line.nextSend }
                    alloc := { s.alloc with passRequested := true } } (fun _ => []) t))
    ∧ (s.ticket? k = none → exec (.retireTicket key) s = .next (s.replied ht 0 .notFound 0 []))
    ∧ (∀ x, s.ticket? k = some x → ∃ t, exec (.retireTicket key) s = .next t
        ∧ AnsweredDone s ht 0
            { s with
              tickets := s.tickets.filter fun y => y.id != k
              buses := s.buses.map fun b => if x.bus = some b.fleet then { b with ticket := none } else b } (fun _ => []) t)
    ∧ (s.pledge? k = none → exec (.retirePledge key) s = .next (s.replied hp 0 .notFound 0 []))
    ∧ (∀ p, s.pledge? k = some p →
        (p.state = .armed ∨ p.state = .active → exec (.retirePledge key) s = .next (s.replied hp 0 .badState 0 []))
        ∧ (p.state = .booked ∨ p.state = .complete → ∃ t, exec (.retirePledge key) s = .next t
            ∧ AnsweredDone s hp 0 { s with pledges := s.pledges.filter fun q => q.id != k } (fun _ => []) t))

/-- R125 to R127, R129: WITHDRAW. With yields to readiness yes the yield list is brought up to date, and the readiness yield with
it; and what the update makes of a list: which tickets qualify, the needed power, rounded up, of a ticket newly AT_RISK (an entry
or a top-up), the cap at the bus's charge demand, one entry for each ticket in ascending ticket id, and the smaller of two sums.
Table 0 in the head is log entry 27's. -/
def Obligations.WithdrawCompletesPledge : Prop :=
  (∀ (key : Half) (s : State), s.takesRequests →
    let k := key.toNat
    let h := controlHead key
    (s.pledge? k = none → exec (.withdraw key) s = .next (s.replied h 1 .notFound 0 []))
    ∧ ∀ p, s.pledge? k = some p →
        (p.state = .booked ∨ p.state = .complete → exec (.withdraw key) s = .next (s.replied h 1 .badState 0 []))
        ∧ (p.state = .armed ∨ p.state = .active →
            ∃ t reserve, exec (.withdraw key) s = .next t
              ∧ (let pledges := s.pledges.map fun q =>
                  if q.id = k then
                    { q with state := .complete, forecast := none, grade := none, outcome := some .withdrawn }
                  else q
                AnsweredDone s h 1 { s with pledges := pledges, reserve := reserve } (fun _ => []) t
                ∧ t.pledge? k = some { p with state := .complete, forecast := none, grade := none, outcome := some .withdrawn }
                ∧ ((p.kind = .exporting ∨ p.yields = false) → reserve = s.reserve)
                ∧ (p.kind = .curtail → p.yields = true →
                    reserve.yieldList = ({ s with pledges := pledges } : State).updatedYields []
                    ∧ reserve.readinessYield = readinessYield reserve.yieldList pledges))))
  ∧ (∀ (u : State) (risk : List Nat), u.tablesOk = true → keysRising YieldEntry.ticket u.reserve.yieldList = true →
      let yielding (p : Pledge) : Prop :=
        p ∈ u.pledges ∧ p.kind = .curtail ∧ p.yields = true ∧ (p.state = .armed ∨ p.state = .active)
      let qualified (x : Ticket) (b : Bus) (now : Nat) : Prop :=
        x.state = .assigned ∧ b.state = .attached ∧ 0 < minutesFrom now x.departure
          ∧ ∃ p, yielding p ∧ minutesFrom now x.departure ≤ minutesFrom now (p.start + p.duration) + 60
      let needed (x : Ticket) (now power : Nat) : Prop :=
        ∀ k : Nat, power ≤ k ↔ (x.need - x.projected.getD 0) * 6 ≤ k * (minutesFrom now x.departure).toNat
      let after := u.updatedYields risk
      keysRising YieldEntry.ticket after = true
      ∧ ∀ e, e ∈ after ↔ ∃ x b now power, u.ticket? e.ticket = some x ∧ x.bus.bind u.bus? = some b ∧ u.now = some now
          ∧ qualified x b now ∧ needed x now power
          ∧ ((∃ old ∈ u.reserve.yieldList, old.ticket = e.ticket ∧ x.grade ≠ some .ready ∧ x.grade ≠ some .unknown
                ∧ e.power = min (old.power + if e.ticket ∈ risk then power else 0) b.charge)
              ∨ ((∀ old ∈ u.reserve.yieldList, old.ticket ≠ e.ticket) ∧ x.grade = some .atRisk
                ∧ e.power = min power b.charge)))
  ∧ ∀ (yields : List YieldEntry) (pledges : List Pledge),
      readinessYield yields pledges =
        min (yields.map YieldEntry.power).sum
          ((pledges.filter fun p =>
            decide (p.kind = .curtail ∧ p.yields = true ∧ (p.state = .armed ∨ p.state = .active))).map
              Pledge.committed).sum

/-- R152, R166: the check of a body of pairs: a repeated identifier first; then the lowest failing identifier; a no-value pair
of a field of the record never fails. And the host fields with their ranges, of a bus (R2), a berth (R24), a ticket (R101, R102),
a pledge (R114), the profile (R162) and the clock (R99): every other identifier fails. -/
def Obligations.PairCheckNamesLowestFailure : Prop :=
  (∀ (fieldCount : Nat) (fits : Nat → Int → Bool) (required also : List Nat) (pairs : List Pair),
    let check := checkPairs fieldCount fits required also pairs
    let fails (i : Nat) : Prop :=
      (∃ p ∈ pairs, pairId p = i ∧ (i = 0 ∨ fieldCount < i ∨ (p.value ≠ noValue ∧ fits i p.value.toInt = false)))
      ∨ (i ∈ required ∧ ∀ p ∈ pairs, pairId p = i → p.value = noValue) ∨ i ∈ also
    (¬ (pairs.map pairId).Nodup → check = some (.badRequest, 0))
    ∧ ((pairs.map pairId).Nodup →
        (check = none ↔ ∀ i, ¬ fails i)
        ∧ ∀ st f, check = some (st, f) → st = .badField ∧ fails f ∧ ∀ i, fails i → f ≤ i))
  ∧ ∀ (i : Nat) (v : Int),
      let among (ranges : List (Nat × Int × Int)) : Prop := ∃ r ∈ ranges, r.1 = i ∧ r.2.1 ≤ v ∧ v ≤ r.2.2
      (busFieldFits i v = true ↔ among [(2, 200, 4000), (3, 10, 150), (4, 0, 1), (5, 0, 1)])
      ∧ (berthFieldFits i v = true ↔
          among [(2, 1, 4), (3, 1, 8), (4, 1, 8), (5, 10, 150), (6, 0, 100), (7, -50, 50), (8, 0, 1)])
      ∧ (ticketFieldFits i v = true ↔
          among [(2, 1, 999), (3, 0, 94371839), (4, 10, 4000), (5, 0, 120), (6, 0, 30), (7, 0, 9999)])
      ∧ (ticketEnrolFits i v = true ↔
          among [(2, 1, 999), (3, 0, 94371839), (4, 10, 4000), (5, 0, 120), (6, 0, 30)])
      ∧ (pledgeFieldFits i v = true ↔
          among [(2, 0, 1), (3, 0, 94371839), (4, 15, 240), (5, 10, 2000), (6, 0, 1)])
      ∧ (clockFieldFits i v = true ↔ among [(1, 0, 65535), (2, 0, 1439)])
      ∧ (profileFieldFits i v = true ↔
          among [(1, 50, 4000), (2, 0, 4000), (3, 0, 4000), (4, 0, 4000), (5, 0, 4000), (6, 0, 4000), (7, 0, 3200),
              (8, 0, 4000), (9, 0, 1), (10, 0, 1), (11, 800, 980), (12, 10, 100), (13, 2, 8), (14, 0, 1), (15, 0, 1),
              (16, 1, 20), (17, 30, 150), (18, 1, 3), (19, 0, 255), (20, 0, 63)]
          ∨ among [(21, 0, 500), (22, 0, 80), (23, 0, 240), (24, 0, 120), (25, 0, 60), (26, 0, 60), (27, 10, 100),
              (28, 0, 20), (29, 0, 50), (30, 0, 0), (30, 5, 600), (31, 0, 1)]
          ∨ (32 ≤ i ∧ i ≤ 59 ∧ 0 ≤ v ∧ v ≤ 1))

/-! ## Run control -/

/-- R65: the four checks of a plan, in order, with reason and detail. -/
def Obligations.PlanChecksInOrder : Prop :=
  ∀ s : State,
    let unset : Prop := s.clock.time = none
    let noBerth : Prop := ∀ b ∈ s.berths, b.outOfService = true
    let bad (n : Nat) : Prop :=
      1 ≤ n ∧ n ≤ 4 ∧ (∃ b ∈ s.berths, b.branch = n)
        ∧ (s.profile.branchLimit n = 0 ∨ s.profile.feederLimit < s.profile.branchLimit n)
    let shares (n : Nat) : Prop :=
      ∃ b ∈ s.berths, b.number = n ∧ ∃ c ∈ s.berths, c.number ≠ n ∧ c.trench = b.trench ∧ c.position = b.position
    (unset → s.planFault = some (.clockUnset, none))
    ∧ (¬ unset → noBerth → s.planFault = some (.noBerth, none))
    ∧ (¬ unset → ¬ noBerth → ∀ n, bad n → (∀ m, bad m → n ≤ m) → s.planFault = some (.branchLimit, some n))
    ∧ (¬ unset → ¬ noBerth → (∀ m, ¬ bad m) → ∀ n, shares n → (∀ m, shares m → n ≤ m) →
        s.planFault = some (.sharedPlace, some n))
    ∧ (¬ unset → ¬ noBerth → (∀ m, ¬ bad m) → (∀ m, ¬ shares m) → s.planFault = none)

/-- R63, R64: RUN_START: BUSY outside IDLE (its body is log entry 38's); in IDLE the plan is validated, and a valid plan enters
STARTING, which raises a pass as every change of run state does. -/
def Obligations.RunStartEntersStarting : Prop :=
  ∀ s : State, s.takesRequests →
    let h := controlHead 0#16
    let items (u : State) : List Byte :=
      pairsBody [(33, some u.run.state.code), (40, u.run.invalidReason.map InvalidReason.code),
        (41, optNat u.run.invalidDetail)]
    (s.run.state ≠ .idle → exec .runStart s = .next (s.replied h 1 .busy 0 (items s)))
    ∧ (∀ reason detail, s.run.state = .idle → s.planFault = some (reason, detail) →
        ∃ t, exec .runStart s = .next t
          ∧ Settles s
              { s with
                run := { s.run with invalidReason := some reason, invalidDetail := detail }
                depot := s.answered h 1 (if reason = .clockUnset then .clockUnset else .badState) 0 (items t)
                supervision := s.restarted } t)
    ∧ (s.run.state = .idle → s.planFault = none →
        ∃ t, exec .runStart s = .next t
          ∧ AnsweredDone s h 1
              { s with
                run :=
                  { s.run with
                    state := .starting, invalidReason := none, invalidDetail := none, abortCause := none
                    holdTimer := if s.profile.startHold = 0 then none else some (5 * s.profile.startHold)
                    holdExpired := decide (s.profile.startHold = 0) }
                alloc := { s.alloc with passRequested := true }
                line := { s.line with firstRound := false, qualifying := false } } items t)

/-- R63, R67, R68, R71, R72: RUN_STOP, PAUSE and RESUME. Every change of run state raises a pass, and leaving RUNNING sets every
target to 0. -/
def Obligations.StopPauseResume : Prop :=
  ∀ s : State, s.takesRequests →
    let h := controlHead 0#16
    let item (u : State) : List Byte := pairsBody [(33, some u.run.state.code)]
    let moved (r : RunControl) : State := { s with run := r, alloc := { s.alloc with passRequested := true } }
    let left (r : RunControl) : State :=
      { s with
        run := r
        berths := s.berths.map fun b => b.setTarget (s.grantInFlight b.number) 0 0
        alloc := { s.alloc with passRequested := true } }
    (s.run.state = .idle → ∃ t, exec .runStop s = .next t ∧ AnsweredDone s h 1 s item t)
    ∧ (s.run.state = .running → ∃ t, exec .runStop s = .next t
        ∧ AnsweredDone s h 1 (left { s.run with state := .idle, holdTimer := none }) item t)
    ∧ (s.run.state = .starting ∨ s.run.state = .paused → ∃ t, exec .runStop s = .next t
        ∧ AnsweredDone s h 1 (moved { s.run with state := .idle, holdTimer := none }) item t)
    ∧ (s.run.state = .running → s.run.hostPause = false → ∃ t, exec .pause s = .next t
        ∧ AnsweredDone s h 1 (left { s.run with state := .paused, hostPause := true }) item t)
    ∧ (s.run.state ≠ .running ∨ s.run.hostPause = true → ∃ t, exec .pause s = .next t
        ∧ AnsweredDone s h 1 { s with run := { s.run with hostPause := true } } item t)
    ∧ (s.run.state ≠ .paused ∨ s.run.thermalPause = true ∨ s.run.hostPause = false → ∃ t, exec .resume s = .next t
        ∧ AnsweredDone s h 1 { s with run := { s.run with hostPause := false } } item t)
    ∧ (s.run.state = .paused → s.run.thermalPause = false → s.run.hostPause = true →
        let silent : Prop := s.line.meterMiss = 3 ∧ s.profile.meterSilentAbort = true
        let overdrawn : Prop := s.run.overdraw = 3 ∧ s.profile.overdrawAbort = true
        let aborted (c : AbortCause) : State :=
          { moved { s.run with state := .idle, hostPause := false, holdTimer := none, abortCause := some c } with
            attention := { s.attention with flags := s.attention.flags ||| causeBit Cause.runAborted.number } }
        (silent → ∃ t, exec .resume s = .next t ∧ AnsweredDone s h 1 (aborted .meterSilent) item t)
        ∧ (¬ silent → overdrawn → ∃ t, exec .resume s = .next t ∧ AnsweredDone s h 1 (aborted .overdraw) item t)
        ∧ (¬ silent → ¬ overdrawn → ∃ t, exec .resume s = .next t
            ∧ AnsweredDone s h 1 (moved { s.run with state := .running, hostPause := false }) item t))

/-- R63, R66, R160, R161, R73: HOLD_TIMER_EXPIRY and SUPERVISION_EXPIRY, whatever time the timer still holds (log entry 40, the
model's choice). An expiry of a timer that does not run leaves the state as it is (log entry 2, the model's choice). -/
def Obligations.TimerExpiries : Prop :=
  ∀ s : State, s.powered = true →
    (s.run.holdTimer = none → exec .holdTimerExpiry s = .next s)
    ∧ (∀ r, s.run.holdTimer = some r →
        ∃ t, exec .holdTimerExpiry s = .next t
          ∧ Settles s
              (State.startingTested { s with run := { s.run with holdTimer := none, holdExpired := true } }) t)
    ∧ (s.supervision.condition ≠ .counting → exec .supervisionExpiry s = .next s)
    ∧ (s.supervision.condition = .counting →
        let expired : State :=
          { s with
            supervision := { condition := .expired, remaining := 0, fallback := true }
            attention := { s.attention with flags := s.attention.flags ||| causeBit Cause.fallback.number } }
        ∃ t, exec .supervisionExpiry s = .next t
          ∧ (s.profile.fallbackRun = false ∨ s.run.state ≠ .idle → Settles s expired t)
          ∧ (s.profile.fallbackRun = true → s.run.state = .idle →
              (∀ reason detail, s.planFault = some (reason, detail) →
                Settles s { expired with run := { s.run with invalidReason := some reason, invalidDetail := detail } } t)
              ∧ (s.planFault = none →
                Settles s
                  { expired with
                    run :=
                      { s.run with
                        state := .starting, invalidReason := none, invalidDetail := none, abortCause := none
                        holdTimer := if s.profile.startHold = 0 then none else some (5 * s.profile.startHold)
                        holdExpired := decide (s.profile.startHold = 0) }
                    alloc := { s.alloc with passRequested := true }
                    line := { s.line with firstRound := false, qualifying := false } } t)))

/-! ## The grid line monitor -/

/-- R59, R60, R138 to R140: ALL_STOP, STOP_ASSERTION, CLEAR_STOP and STOP_RELEASE: the latch, its attention, the targets at 0
when the stop comes into force, the pass when it ceases, and the line by its condition: break begins again at once out of a
preamble; the release ends a break, or abandons the round where no break began, and clears the first-round flag. A frame chosen
and not yet begun is dropped (log entry 5). Both line rows act also where the level stands already (log entry 41,
the model's choice). -/
def Obligations.DepotStopSetAndCleared : Prop :=
  ∀ s : State, s.powered = true →
    let stopped : BerthLine := match s.line.condition with
      | .preamble =>
        { s.line with
          condition := .brk, nextSend := none, grantCount := 0, roundList := [], sweep := .start, roundOpen := false }
      | .frames => { s.line with nextSend := none }
      | .brk => s.line
    let released : BerthLine := match s.line.condition with
      | .brk => { s.line with condition := .preamble, firstRound := false, qualifying := false }
      | .frames =>
        { s.line with
          nextSend := none, restart := true, roundList := [], sweep := .start, roundOpen := false
          firstRound := false, qualifying := false }
      | .preamble => { s.line with firstRound := false, qualifying := false }
    let zeroed (b : Berth) : Berth := b.setTarget (s.grantInFlight b.number) 0 0
    let latched (g : GridMonitor) : State :=
      if s.grid.stopLatch then { s with grid := g }
      else
        { s with
          grid := g
          line := stopped
          berths := s.berths.map fun b =>
            if s.line.condition = .preamble then { zeroed b with sent := 0, grantDue := false, retryWait := false }
            else zeroed b
          alloc := { s.alloc with passRequested := true } }
    let cleared (g : GridMonitor) : State :=
      { s with grid := g, line := released, alloc := { s.alloc with passRequested := true } }
    let setLatch : GridMonitor := { s.grid with stopLatch := true, clearRemembered := false }
    let clearLatch : GridMonitor := { s.grid with stopLatch := false, clearRemembered := false }
    let pressed : GridMonitor := { setLatch with stopLevel := .asserted, stopCount := 0 }
    let freed : GridMonitor := { s.grid with stopLevel := .released, stopCount := 0 }
    (∃ t, exec .stopAssertion s = .next t ∧ Settles s ((latched pressed).raiseCause .stop) t
      ∧ t.alloc.importCeiling = 0 ∧ t.alloc.exportCeiling = 0 ∧ t.alloc.binding = .held
      ∧ (s.grid.stopLatch = false → ∀ b ∈ t.berths, b.wanted = 0 ∧ b.decided = 0))
    ∧ (s.linkBusy = false → ∃ t, exec .allStop s = .next t
        ∧ AnsweredDone s (controlHead 0#16) 1
            (if s.grid.stopLatch then latched setLatch else (latched setLatch).raiseCause .stop)
            (fun u => pairsBody [(102, some (yesNo u.grid.stopLatch)), (98, some (levelCode u.grid.stopLevel))]) t
        ∧ t.alloc.importCeiling = 0 ∧ t.alloc.exportCeiling = 0 ∧ t.alloc.binding = .held
        ∧ (s.grid.stopLatch = false → ∀ b ∈ t.berths, b.wanted = 0 ∧ b.decided = 0))
    ∧ (∃ t, exec .stopRelease s = .next t
        ∧ (s.grid.stopLatch = true → s.grid.clearRemembered = true →
            Settles s (cleared { clearLatch with stopLevel := .released, stopCount := 0 }) t)
        ∧ (s.grid.stopLatch = false ∨ s.grid.clearRemembered = false → Settles s { s with grid := freed } t))
    ∧ (s.linkBusy = false → ∃ t, exec .clearStop s = .next t
        ∧ AnsweredDone s (controlHead 0#16) 1
            (if s.grid.stopLatch = true then
              match s.grid.stopLevel with
              | .released => cleared clearLatch
              | .asserted => { s with grid := { s.grid with clearRemembered := true } }
             else s)
            (fun u => pairsBody [(102, some (yesNo u.grid.stopLatch)), (103, some (yesNo u.grid.clearRemembered))]) t)

/-- R134 to R136: TRIP_ASSERTION, ACK_TRIP and TRIP_RELEASE. Both line rows act also where the level stands already (log entry 41,
the model's choice). -/
def Obligations.TripLatchAndAcknowledgement : Prop :=
  ∀ s : State, s.powered = true →
    (∃ t, exec .tripAssertion s = .next t
      ∧ Settles s
          { s with
            grid := { s.grid with tripLevel := .asserted, tripCount := 0, tripLatch := true, tripAck := false }
            attention := { s.attention with flags := s.attention.flags ||| causeBit Cause.trip.number } } t
      ∧ (s.profile.tripEnabled = true → t.heldAtZero = false → t.alloc.importCeiling ≤ s.profile.tripAllowance))
    ∧ (∃ t, exec .tripRelease s = .next t
      ∧ Settles s
          { s with
            grid :=
              if s.profile.tripMode = .edgeLevel ∧ s.grid.tripLatch = true ∧ s.grid.tripAck = true then
                { s.grid with tripLevel := .released, tripCount := 0, tripLatch := false, tripAck := false }
              else { s.grid with tripLevel := .released, tripCount := 0 } } t)
    ∧ (s.linkBusy = false → ∃ t, exec .ackTrip s = .next t
      ∧ AnsweredDone s (controlHead 0#16) 1
          { s with
            grid :=
              if s.grid.tripLatch = false then s.grid
              else if s.profile.tripMode = .edge ∨ s.grid.tripLevel = .released then
                { s.grid with tripLatch := false, tripAck := false }
              else { s.grid with tripAck := true } }
          (fun u => pairsBody [(99, some (yesNo u.grid.tripLatch)), (100, some (yesNo u.grid.tripAck))]) t)

/-- R133: LINE_SAMPLE: the sample count of a line that shows no recognised change; the third sample in a row at the opposite
level is the change, and has the effect of that line's assertion or release (log entry 6). -/
def Obligations.LineSampleQualifies : Prop :=
  ∀ (trip stop : Level) (s : State), s.powered = true →
    let quiet (level recognised : Level) (count : Nat) : Prop := level = recognised ∨ count < 2
    (∃ t, exec (.lineSample trip stop) s = .next t ∧ Settles s ((s.sampleTrip trip).sampleStop stop) t)
    ∧ (quiet trip s.grid.tripLevel s.grid.tripCount →
        s.sampleTrip trip =
          { s with grid := { s.grid with tripCount := if trip = s.grid.tripLevel then 0 else s.grid.tripCount + 1 } })
    ∧ (quiet stop s.grid.stopLevel s.grid.stopCount →
        s.sampleStop stop =
          { s with grid := { s.grid with stopCount := if stop = s.grid.stopLevel then 0 else s.grid.stopCount + 1 } })
    ∧ (¬ quiet trip s.grid.tripLevel s.grid.tripCount →
        exec (match trip with
          | .asserted => .tripAssertion
          | .released => .tripRelease) s = .next ((s.sampleTrip trip).closeEvent s)
        ∧ (s.sampleTrip trip).grid.tripLevel = trip ∧ (s.sampleTrip trip).grid.tripCount = 0)
    ∧ (¬ quiet stop s.grid.stopLevel s.grid.stopCount →
        exec (match stop with
          | .asserted => .stopAssertion
          | .released => .stopRelease) s = .next ((s.sampleStop stop).closeEvent s)
        ∧ (s.sampleStop stop).grid.stopLevel = stop ∧ (s.sampleStop stop).grid.stopCount = 0)

/-! ## The depot clock and the pledges' minutes -/

/-- R99, R100, R112: SET_CLOCK: the checks, then the time taken, the seconds at 0, and one minute event at the new time. Every
answer carries the day and minute as they then stand (log entry 38); where both fields fail, the lower identifier is named (log
entry 18). -/
def Obligations.SetClockIsOneMinuteEvent : Prop :=
  ∀ (pairs : List Pair) (s : State), s.takesRequests → 1 + 5 * pairs.length ≤ 1024 →
    let h := controlHead 0#16
    let n := 1 + 5 * pairs.length
    let check := checkPairs 2 clockFieldFits [1, 2] [] pairs
    let body (day minute : Option Int) : List Byte := pairsBody [(66, day), (67, minute)]
    let held := body (s.clock.time.map fun time => (time.day : Int)) (s.clock.time.map fun time => (time.minute : Int))
    (∀ st f, check = some (st, f) → exec (.setClock pairs) s = .next (s.replied h n st f held))
    ∧ (check = none → (∃ p ∈ s.pledges, p.state = .armed ∨ p.state = .active) →
        exec (.setClock pairs) s = .next (s.replied h n .busy 0 held))
    ∧ (∀ day minute : Nat, check = none → (∀ p ∈ s.pledges, p.state = .booked ∨ p.state = .complete) →
        carriedFor pairs 1 = some (day : Int) → carriedFor pairs 2 = some (minute : Int) → s.tablesOk = true →
        ∃ t, exec (.setClock pairs) s = .next t
          ∧ MinuteTaken s
              { s with
                depot := s.answered h n .done 0 (body (some (day : Int)) (some (minute : Int)))
                supervision := s.restarted
                clock := { time := some { day := day, minute := minute }, seconds := 0 } } t (day * 1440 + minute))

/-- R97, R98, R100, R111, R118 to R128: MINUTE_EVENT, whatever the seconds count is (log entry 40, the model's choice): the clock
advances by a minute with its seconds at 0, from day 65535 to day 0 at the end; then every derived field, ticket, pledge, yield
and ceiling is what a minute event makes it (`MinuteTaken`). With the clock UNSET nothing changes (R97). How depot times are
compared: "a time on day 65535 is earlier than any time on day 0", any other two as numbers; the minutes across the wrap, and a
time to which minutes are added, are log entry 19's. -/
def Obligations.MinuteEventAdvancesClock : Prop :=
  (∀ s : State, s.powered = true → s.clock.time = none → exec .minuteEvent s = .next s)
  ∧ (∀ (s : State) (time : DepotMoment), s.powered = true → s.clock.time = some time → s.tablesOk = true →
      ∃ t, exec .minuteEvent s = .next t
        ∧ MinuteTaken s { s with clock := { time := some time.next, seconds := 0 } } t
            (time.next.day * 1440 + time.next.minute))
  ∧ (∀ time : DepotMoment, time.minute < 1440 → time.day < 65536 →
      time.next =
        if time.minute < 1439 then { day := time.day, minute := time.minute + 1 }
        else if time.day < 65535 then { day := time.day + 1, minute := 0 }
        else { day := 0, minute := 0 })
  ∧ ∀ a b : DepotMoment, a.minute < 1440 → b.minute < 1440 →
      a.total = a.day * 1440 + a.minute
      ∧ minutesFrom a.total b.total =
          (if a.day = 65535 ∧ b.day = 0 then 1440 + (b.minute : Int) - a.minute
           else if a.day = 0 ∧ b.day = 65535 then (b.minute : Int) - a.minute - 1440
           else ((b.day : Int) - a.day) * 1440 + b.minute - a.minute)
      ∧ (earlier a.total b.total = true ↔
          (a.day = 65535 ∧ b.day = 0)
          ∨ (¬ (a.day = 0 ∧ b.day = 65535) ∧ (a.day < b.day ∨ (a.day = b.day ∧ a.minute < b.minute))))

/-- R164: SAVE_PROFILE takes the image as it stands and begins to write it, and is answered at the write's end. A write end with
no write in progress leaves the state as it is (log entry 2, the model's choice). -/
def Obligations.SaveProfileThenWriteEnd : Prop :=
  (∀ s : State, s.takesRequests →
    exec .saveProfile s = .next
      { s with
        depot := { s.depot with state := .working, assembly := none, overrun := false, miso := s.requestOut 1 }
        supervision := s.restarted
        store :=
          { s.store with write := some { bytes := imageBytes s.profile s.berths, head := controlHead 0#16 } } })
  ∧ ∀ s : State, s.powered = true →
      (s.store.write = none → exec .profileWriteEnd s = .next s)
      ∧ ∀ w, s.store.write = some w →
          exec .profileWriteEnd s = .next
            { s with
              store := { image := w.bytes, write := none }
              depot :=
                { s.depot with
                  state := .responseWaiting, assembly := none
                  response := some { bytes := responseBytes .done w.head 0 [], position := 0 } } }

/-- The reset rules of every block at RECORDS_RESET (R22, R41, R62, R75, R96, R113, R132, R144, R155, R159, R160). A frame chosen
before the reset and not yet begun is dropped (log entry 5), and an exchange in flight is kept, one that is void as void (log
entry 43, the model's choice). -/
def Obligations.RecordsResetClearsRecords : Prop :=
  ∀ s : State, s.takesRequests → ∃ t, exec .recordsReset s = .next t
    ∧ t.buses = [] ∧ t.tickets = [] ∧ t.pledges = []
    ∧ t.berths = s.berths.map (fun b =>
        { b with
          state := if b.state = .outOfService then .outOfService else .vacant
          occupant := none, foreignReason := none, faultCause := none, dispenserCode := none
          wanted := 0, decided := 0, retryWait := false, grantDue := decide (b.sent ≠ 0) })
    ∧ t.line =
        { s.line with
          nextSend := none, restart := if s.line.condition = .frames then true else s.line.restart
          roundList := [], sweep := .start, roundOpen := false, qualifying := false, roundCounter := 0, firstRound := false
          grantCount := 0 }
    ∧ t.run = { s.run with
        state := .idle, holdTimer := none, holdExpired := false, abortCause := none, invalidReason := none
        invalidDetail := none }
    ∧ t.alloc = { s.alloc with importCeiling := 0, binding := .held, exportCeiling := 0, passRequested := true }
    ∧ t.reserve = { yieldList := [], curtailCommitment := 0, readinessYield := 0, exportCommitment := 0 }
    ∧ t.attention = { flags := s.attention.flags &&& 0x0007#14, armed := true }
    ∧ t.clock = s.clock ∧ t.grid = s.grid ∧ t.profile = s.profile ∧ t.store = s.store
    ∧ t.supervision = s.restarted ∧ t.depot = s.answered (controlHead 0#16) 1 .done 0 []

/-! ## The berth link -/

/-- R47 to R50, R59: NEXT_EXCHANGE_CHOICE: break, the exception, a grant (lowerings first, lowest number, at most four in a
row), or the poll step, in which a round without a further berth completes (R50, R51, R66). The chosen frame waits for its own
event (log entry 5); a choice that is not due leaves the state as it is (log entry 2, the model's choice). -/
def Obligations.NextExchangeFollowsTheSteps : Prop :=
  ∀ s : State, s.powered = true →
    let due : Prop := s.line.condition = .frames ∧ s.line.exchange = none ∧ s.line.nextSend = none
    let chosen (post : State) : Prop := ∃ t, exec .nextExchangeChoice s = .next t ∧ Settles s post t
    let chooses (f : NextSend) : Prop := chosen { s with line := { s.line with nextSend := some f } }
    let lowering (b : Berth) : Prop :=
      max b.decided 0 < max b.sent 0 ∨ max (-b.decided) 0 < max (-b.sent) 0
    let next : Option Nat := match s.line.sweep with
      | .berth last => s.line.roundList.find? fun n => decide (last < n)
      | _ => s.line.roundList.head?
    let polls : Prop :=
      (s.line.roundOpen = false → chooses .pollMeter)
      ∧ (s.line.roundOpen = true →
          (∀ n, next = some n → chooses (.pollBerth n))
          ∧ (next = none → chosen
              { s.roundCompleted with line := { s.roundCompleted.line with nextSend := some .pollMeter } }))
    (¬ due → exec .nextExchangeChoice s = .next s)
    ∧ (due →
        (s.grid.stopLatch = true → chosen
          { s with
            berths := s.berths.map fun b => { b with sent := 0, grantDue := false, retryWait := false }
            line :=
              { s.line with
                condition := .brk, nextSend := none, grantCount := 0, roundList := [], sweep := .start
                roundOpen := false } })
        ∧ (s.grid.stopLatch = false → s.line.restart = true → chooses .pollMeter)
        ∧ (s.grid.stopLatch = false → s.line.restart = false →
            (s.line.grantCount < 4 →
              (∀ b ∈ s.berths, b.grantDue = true → lowering b →
                (∀ c ∈ s.berths, c.grantDue = true → lowering c → b.number ≤ c.number) → chooses (.grantTo b.number))
              ∧ ((∀ c ∈ s.berths, c.grantDue = true → ¬ lowering c) → ∀ b ∈ s.berths, b.grantDue = true →
                (∀ c ∈ s.berths, c.grantDue = true → b.number ≤ c.number) → chooses (.grantTo b.number)))
            ∧ (4 ≤ s.line.grantCount ∨ (∀ b ∈ s.berths, b.grantDue = false) → polls)))

/-- R42, R43, R46, R48, R49, R60, R62: POLL: the chosen POLL goes out, to the meter node with a fresh round list, or to a
berth. PREAMBLE_END: break again while a stop is in force, else the POLL to the meter node that begins a round. A POLL that is
not chosen (log entry 5) and a preamble end outside PREAMBLE leave the state as it is (log entry 2, the model's choice). Each
character sent is eleven bit times, which a receiver reads back; with its stop bit at space it is a framing error (that a set
bit is at mark is log entry 42). -/
def Obligations.PollSendsChosenFrame : Prop :=
  (∀ s : State, s.powered = true →
    (s.line.nextSend = some .pollMeter →
      exec .poll s = .next
        { s with
          line :=
            { s.line with
              exchange := some { address := 0, kind := .poll, void := false }, nextSend := none, restart := false
              roundList := (s.berths.filter fun b => b.state != .outOfService).map Berth.number
              sweep := .meter, roundOpen := true, qualifying := !s.line.firstRound, grantCount := 0
              txd := pollFrame 0 } })
    ∧ (∀ n, s.line.nextSend = some (.pollBerth n) →
        exec .poll s = .next
          { s with
            line :=
              { s.line with
                exchange := some { address := n, kind := .poll, void := false }, nextSend := none
                sweep := .berth n, grantCount := 0, txd := pollFrame n } })
    ∧ ((∀ n, s.line.nextSend ≠ some (.pollBerth n)) → s.line.nextSend ≠ some .pollMeter → exec .poll s = .next s))
  ∧ (∀ s : State, s.powered = true →
      (s.line.condition ≠ .preamble → exec .preambleEnd s = .next s)
      ∧ (s.line.condition = .preamble → s.grid.stopLatch = true →
          exec .preambleEnd s = .next
            { s with
              berths := s.berths.map fun b => { b with sent := 0, grantDue := false, retryWait := false }
              line :=
                { s.line with
                  condition := .brk, nextSend := none, grantCount := 0, roundList := [], sweep := .start
                  roundOpen := false } })
      ∧ (s.line.condition = .preamble → s.grid.stopLatch = false →
          exec .preambleEnd s = .next
            { s with
              line :=
                { s.line with
                  condition := .frames, exchange := some { address := 0, kind := .poll, void := false }
                  nextSend := none, restart := false
                  roundList := (s.berths.filter fun b => b.state != .outOfService).map Berth.number
                  sweep := .meter, roundOpen := true, qualifying := !s.line.firstRound, grantCount := 0
                  txd := pollFrame 0 } }))
  ∧ (∀ n, n ≤ 32 → ∃ crc : Byte,
      pollFrame n =
        [{ byte := BitVec.ofNat 8 n, mark := true }, { byte := 1#8, mark := false }, { byte := 0#8, mark := false },
          { byte := crc, mark := false }]
      ∧ crc = crc8 [BitVec.ofNat 8 n, 1#8, 0#8])
  ∧ ∀ (s : State) (c : TxChar),
      let bit (set : Bool) : BitLevel := if set then .mark else .space
      s.txdLevels = s.line.txd.flatMap charLevels
      ∧ charLevels c =
          [.space, bit (c.byte.getLsbD 0), bit (c.byte.getLsbD 1), bit (c.byte.getLsbD 2), bit (c.byte.getLsbD 3),
            bit (c.byte.getLsbD 4), bit (c.byte.getLsbD 5), bit (c.byte.getLsbD 6), bit (c.byte.getLsbD 7), bit c.mark,
            .mark]
      ∧ readChar (charLevels c) = some { byte := c.byte, mark := c.mark, framingError := false }
      ∧ readChar ((charLevels c).take 10 ++ [.space]) = some { byte := c.byte, mark := c.mark, framingError := true }

/-- R43, R54, R55: GRANT: the frame carries the decided target as it stands, grant due becomes no and the grant count rises;
a grant no longer due does not go out (log entry 5). A GRANT that is not chosen leaves the state as it is (log entry 2, the
model's choice). -/
def Obligations.GrantCarriesDecidedTarget : Prop :=
  (∀ s : State, s.powered = true →
    (∀ n b, s.line.nextSend = some (.grantTo n) → s.berth? n = some b →
      (b.grantDue = true →
        exec .grant s = .next
          { s with
            line :=
              { s.line with
                exchange := some { address := n, kind := .grant b.decided, void := false }, nextSend := none
                grantCount := s.line.grantCount + 1, txd := grantFrame n b.decided }
            berths := s.berths.map fun x => if x.number = n then { x with grantDue := false } else x })
      ∧ (b.grantDue = false → exec .grant s = .next { s with line := { s.line with nextSend := none } }))
    ∧ ((∀ n, s.line.nextSend ≠ some (.grantTo n)) → exec .grant s = .next s))
  ∧ ∀ (n : Nat) (target : Int), n ≤ 32 → -100 ≤ target → target ≤ 150 → ∃ hi lo crc : Byte,
      grantFrame n target =
        [{ byte := BitVec.ofNat 8 n, mark := true }, { byte := 2#8, mark := false }, { byte := 2#8, mark := false },
          { byte := hi, mark := false }, { byte := lo, mark := false }, { byte := crc, mark := false }]
      ∧ (hi ++ lo : Half).toInt = target ∧ crc = crc8 [BitVec.ofNat 8 n, 2#8, 2#8, hi, lo]

/-- R6, R7, R9 to R13, R31 to R36, R39, R40, R49 to R52, R57, R66, R93, R110: a valid STATUS to the poll in flight: every field
of the berth it leaves, of every bus (the attached, the detached, the one that takes the pack data) and of every ticket, its
raises, the retry wait it ends, the pass it requests, and the round and the STARTING that the poll's end completes. -/
def Obligations.StatusTakesPlugAndPack : Prop :=
  ∀ (n : Nat) (a : Byte) (body : StatusBody) (s : State) (b : Berth), s.powered = true →
    s.line.exchange = some { address := n, kind := .poll, void := false } → n ≠ 0 → a.toNat = n → s.berth? n = some b →
    s.tablesOk = true → s.occupancyOk = true → s.ticketLinksOk = true →
      let id := if 9999 < body.vehicle.toNat then 0 else body.vehicle.toNat
      let plugged := body.connector ≠ 0#8
      let refused := b.state = .faulted ∧ b.faultCause = some .refused
      let free := ¬ refused ∧ body.faultCode = 0#8
      let changed := free ∧ plugged ∧ id ≠ 0 ∧ ∃ k, b.busOccupant = some k ∧ k ≠ id
      ∃ t b', exec (.status a body) s = .next t ∧ t.berth? n = some b'
        ∧ t.takesRoundOf (State.roundEnded n { s with line := { s.line with exchange := none } })
        ∧ b' =
            { b with
              state := b'.state, occupant := b'.occupant, foreignReason := b'.foreignReason, faultCause := b'.faultCause
              dispenserCode := b'.dispenserCode, wanted := b'.wanted, decided := b'.decided, grantDue := b'.grantDue
              reported := correctedOutput body.output.toInt b.correction, missCount := 0, retryWait := false }
        ∧ b'.grantDue = (if b.retryWait = false ∧ b'.decided = b.decided then b.grantDue else decide (b'.decided ≠ b'.sent))
        ∧ (refused → b'.state = .faulted ∧ b'.faultCause = some .refused ∧ b'.foreignReason = b.foreignReason
            ∧ b'.dispenserCode = b.dispenserCode ∧ s.keepsTargets t b b')
        ∧ (free → b'.faultCause = none ∧ b'.dispenserCode = none ∧ (b'.state ≠ .foreign → b'.foreignReason = none))
        ∧ (changed → b'.wanted = 0 ∧ b'.decided = 0)
        ∧ (b.state ≠ .foreign → b'.state = .foreign → b.decided < 0 → b'.wanted = 0 ∧ b'.decided = 0)
        ∧ (free → plugged → id ≠ 0 → ¬ changed → ¬ (b.state ≠ .foreign ∧ b'.state = .foreign ∧ b.decided < 0) →
            s.keepsTargets t b b')
        ∧ (¬ refused → body.faultCode ≠ 0#8 → b'.state = .faulted ∧ b'.faultCause = some .dispenser
            ∧ b'.dispenserCode = some body.faultCode.toNat ∧ b'.foreignReason = none ∧ b'.wanted = 0 ∧ b'.decided = 0)
        ∧ (refused ∨ body.faultCode ≠ 0#8 →
            (plugged → b.busOccupant = some id → b'.occupant = some id)
            ∧ (¬ plugged ∨ b.busOccupant ≠ some id → b'.occupant = none))
        ∧ (free → ¬ plugged → b'.state = .vacant ∧ b'.occupant = none ∧ b'.wanted = 0 ∧ b'.decided = 0)
        ∧ (free → plugged → id = 0 → b'.state = .awaitingId ∧ b'.occupant = none ∧ b'.wanted = 0 ∧ b'.decided = 0)
        ∧ (free → plugged → id ≠ 0 → b.busOccupant = some id → b'.state = .occupied ∧ b'.occupant = some id)
        ∧ (free → plugged → id ≠ 0 → s.bus? id = none → b'.state = .foreign ∧ b'.occupant = some id
            ∧ b'.foreignReason = some .unknown)
        ∧ (∀ x, free → plugged → id ≠ 0 → s.bus? id = some x →
            (x.state = .away → b'.state = .occupied ∧ b'.occupant = some id
              ∧ ∃ y, t.bus? id = some y ∧ y.state = .attached ∧ y.berth = some n)
            ∧ ∀ m r, x.berth = some m → m ≠ n → s.berth? m = some r →
                (r.state = .faulted ∧ r.faultCause = some .silent → b'.state = .occupied ∧ b'.occupant = some id
                  ∧ (∃ y, t.bus? id = some y ∧ y.state = .attached ∧ y.berth = some n)
                  ∧ ∃ r', t.berth? m = some r' ∧ r'.occupant = none ∧ r'.state = .faulted ∧ r'.reported = r.reported)
                ∧ (¬ (r.state = .faulted ∧ r.faultCause = some .silent) → b'.state = .foreign ∧ b'.occupant = some id
                  ∧ b'.foreignReason = some .duplicate))
        ∧ (∀ k, b.busOccupant = some k → b'.busOccupant ≠ some k →
            ∃ y, t.bus? k = some y ∧ y.state = .away ∧ y.berth = none)
        ∧ s.handsOn t (s.ticketUnplugged t (if b'.busOccupant = b.busOccupant then none else b.busOccupant))
        ∧ hasCause t.attention.flags Cause.vehicleForeign.number =
            (hasCause s.attention.flags Cause.vehicleForeign.number
              || (b'.state == .foreign && (b.state != .foreign || b.foreignReason != b'.foreignReason)))
        ∧ hasCause t.attention.flags Cause.berthFault.number =
            (hasCause s.attention.flags Cause.berthFault.number
              || (s.attention.armed && b.state != .faulted && b'.state == .faulted))
        ∧ t.attention.armed =
            ((s.attention.armed && !(b.state != .faulted && b'.state == .faulted))
              || (s.faultedCount != 0 && t.faultedCount == 0))
        ∧ (∀ c : Cause, c ≠ .vehicleForeign → c ≠ .berthFault → c ≠ .ticketAtRisk → c ≠ .runAborted →
            hasCause t.attention.flags c.number = hasCause s.attention.flags c.number)
        ∧ (let placed (x : Bus) : Bus :=
            if b'.busOccupant = some x.fleet ∧ x.berth ≠ some n then
              { x with
                state := .attached, berth := some n
                freshness := if x.freshness = .fresh then .stale else x.freshness }
            else if b.busOccupant = some x.fleet ∧ b'.busOccupant ≠ some x.fleet then s.busUnplugged x
            else x
          let reported (x : Bus) : Bus := match body.pack with
            | some p =>
              if b'.state = .occupied ∧ b'.occupant = some x.fleet then
                { x with
                  held := some (min p.energy.toNat x.capacity)
                  temperature := some (max (-40) (min 85 p.temperature.toInt))
                  band := some (bandOf (max (-40) (min 85 p.temperature.toInt)))
                  acceptance := some (min p.acceptance.toNat 150), packFault := p.packFault != 0#8, freshness := .fresh }
              else x
            | none => x
          t.buses = s.buses.map fun x => t.deriveBus (reported (placed x)))
        ∧ t.berths.map Berth.number = s.berths.map Berth.number
        ∧ (∀ m r, m ≠ n → s.berth? m = some r → ∃ r', t.berth? m = some r' ∧ s.keepsTargets t r r'
            ∧ r' =
              { r.setTarget false r'.wanted r'.decided with
                occupant := if r.busOccupant.isSome ∧ r.busOccupant = b'.busOccupant then none else r.occupant })
        ∧ t.profile = s.profile ∧ t.clock = s.clock ∧ t.pledges = s.pledges ∧ t.grid = s.grid ∧ t.store = s.store
        ∧ t.supervision = s.supervision ∧ t.depot = s.depot ∧ t.alloc.baseLoad = s.alloc.baseLoad

/-- R49 to R51, R53, R63, R66, R68, R70, R71, R76, R141, R142, R167: a valid METER to the poll of the meter node: the miss count,
the base load, the overdraw count and the abort when it reaches 3, the thermal pause source and the pause, resume or abort it
causes, the low count and sag, the pass that a changed base load or any other change requests, and the round (of an empty list)
and the STARTING that the poll's end completes. -/
def Obligations.MeterHandsOnItsContents : Prop :=
  ∀ (body : MeterBody) (s : State), s.powered = true →
    s.line.exchange = some { address := 0, kind := .poll, void := false } →
      let measured := min 4000 body.measured.toNat
      let voltage := min 1500 body.voltage.toNat
      let low : Prop := voltage < s.profile.sagTripLevel
      let count := min 8 (s.grid.lowCount + 1)
      let warn : Bool := body.transformer != 0#8
      let shows : Bool :=
        decide (s.profile.feederLimit * (100 + s.profile.overdrawTolerance) < measured * 100)
      let counted : RunControl := { s.run with overdraw := if shows then min 3 (s.run.overdraw + 1) else 0 }
      let aborted (r : RunControl) : RunControl :=
        { r with state := .idle, holdTimer := none, abortCause := some .overdraw }
      let arises : Prop := shows = true ∧ s.run.overdraw = 2 ∧ s.profile.overdrawAbort = true
        ∧ (s.run.state = .starting ∨ s.run.state = .running)
      let pauses : Prop := s.run.state = .running ∧ ¬ arises ∧ warn = true ∧ s.run.thermalPause = false
      let resumes : Prop := s.run.state = .paused ∧ s.run.hostPause = false ∧ s.run.thermalPause = true ∧ warn = false
      let overdrawn : Prop := counted.overdraw = 3 ∧ s.profile.overdrawAbort = true
      ∃ t run, exec (.meter body) s = .next t
        ∧ (arises → run = { aborted counted with thermalPause := warn })
        ∧ (pauses → run = { counted with state := .paused, thermalPause := warn })
        ∧ (resumes → overdrawn → run = { aborted counted with thermalPause := warn })
        ∧ (resumes → ¬ overdrawn → run = { counted with state := .running, thermalPause := warn })
        ∧ (¬ arises → ¬ pauses → ¬ resumes → run = { counted with thermalPause := warn })
        ∧ (let ended : State :=
            State.roundEnded 0 { s with line := { s.line with exchange := none, meterMiss := 0 }, run := run }
          t.line = ended.line ∧ t.run = ended.run
          ∧ (t.run.state ≠ s.run.state → t.alloc.passRequested = true)
          ∧ (hasCause t.attention.flags Cause.runAborted.number = true ↔
              hasCause ended.attention.flags Cause.runAborted.number = true ∨ arises ∨ (resumes ∧ overdrawn)))
        ∧ t.alloc.baseLoad =
            min s.profile.feederLimit (measured - (s.berths.map fun b => (max b.reported 0).toNat).sum)
        ∧ t.grid =
            { s.grid with
              lowCount := if low then count else 0
              sag :=
                if low then s.grid.sag || decide (s.profile.sagCount ≤ count)
                else s.grid.sag && decide (voltage < s.profile.sagTripLevel + s.profile.sagReleaseMargin) }
        ∧ hasCause t.attention.flags Cause.sag.number =
            (hasCause s.attention.flags Cause.sag.number || (!s.grid.sag && t.grid.sag))
        ∧ (∀ c : Cause, c ≠ .sag → c ≠ .ticketAtRisk → c ≠ .runAborted →
            hasCause t.attention.flags c.number = hasCause s.attention.flags c.number)
        ∧ (s.grid.sag = false → low → s.profile.sagCount ≤ count →
            (∀ b ∈ t.berths, b.wanted = 0 ∧ b.decided = 0)
            ∧ t.alloc.importCeiling = 0 ∧ t.alloc.exportCeiling = 0 ∧ t.alloc.binding = .held)
        ∧ (t.grid.sag ≠ s.grid.sag → t.alloc.passRequested = true)
        ∧ (t.run.state ≠ .running → s.run.state = .running → ∀ b ∈ t.berths, b.wanted = 0 ∧ b.decided = 0)
        ∧ s.handsOn t t.gradeTicket
        ∧ (t.alloc.baseLoad ≠ s.alloc.baseLoad → t.alloc.passRequested = true)
        ∧ t.buses = s.buses.map t.deriveBus
        ∧ List.Forall₂ (fun b b' => b' = b.setTarget false b'.wanted b'.decided) s.berths t.berths
        ∧ (s.tablesOk = true → t.grid.sag = s.grid.sag ∨ t.grid.sag = false →
            s.run.state ≠ .running ∨ t.run.state = .running → List.Forall₂ (s.keepsTargets t) s.berths t.berths)
        ∧ t.profile = s.profile ∧ t.clock = s.clock ∧ t.pledges = s.pledges ∧ t.store = s.store
        ∧ t.supervision = s.supervision ∧ t.depot = s.depot ∧ t.attention.armed = s.attention.armed

/-- R30, R38, R39, R52, R56: a valid CONFIRM to the grant in flight, accepted and refused. -/
def Obligations.ConfirmEndsGrant : Prop :=
  ∀ (n : Nat) (target : Int) (a : Byte) (body : ConfirmBody) (s : State) (b : Berth), s.powered = true →
    s.line.exchange = some { address := n, kind := .grant target, void := false } → a.toNat = n → s.berth? n = some b →
    s.tablesOk = true →
      let heard : Berth :=
        { b with reported := correctedOutput body.output.toInt b.correction, missCount := 0 }
      let ended (b' : Berth) : State :=
        { s with
          berths := s.berths.map fun x => if x.number = n then b' else x
          line := { s.line with exchange := none } }
      (body.accepted = 1#8 → ∃ t, exec (.confirm a body) s = .next t
        ∧ Settles s
            (ended
              (if b.state = .faulted ∧ b.faultCause = some .silent then
                { heard with
                  sent := target, grantDue := decide (b.decided ≠ target)
                  state := if b.occupant.isSome then .occupied else .awaitingId
                  foreignReason := none, faultCause := none, dispenserCode := none }
               else { heard with sent := target, grantDue := decide (b.decided ≠ target) })) t)
      ∧ (body.accepted ≠ 1#8 → ∃ t, exec (.confirm a body) s = .next t
        ∧ Settles s
            { ended
                { heard with
                  state := .faulted, occupant := b.busOccupant, foreignReason := none, faultCause := some .refused
                  dispenserCode := none, wanted := 0, decided := 0, retryWait := true, grantDue := false } with
              attention :=
                if b.state ≠ .faulted ∧ s.attention.armed = true then
                  { flags := s.attention.flags ||| causeBit Cause.berthFault.number, armed := false }
                else s.attention } t)

/-- R37, R39, R44, R45, R49 to R53, R56, R57, R63, R66, R69, R71: REPLY_TIMEOUT, and an INVALID_REPLY or a reply of the wrong kind
or address, which is the same miss: of a dispenser's poll or grant, and of the meter node: every field of the berth, bus and ticket
records, the raises and the pass requested (R17, R40). Characters of an INVALID_REPLY that do spell a reply are that reply (log
entry 24). With no exchange in flight nothing changes (R42; for REPLY_TIMEOUT log entry 2, the model's choice). -/
def Obligations.MissesAreCounted : Prop :=
  ∀ s : State, s.powered = true →
    let missed (t : State) : Prop := exec .replyTimeout s = .next t
      ∧ ∀ chars, parseReply chars = none → exec (.invalidReply chars) s = .next t
    let idle (line : BerthLine) : BerthLine := { line with exchange := none }
    (∀ chars a body, parseReply chars = some (.status a body) → exec (.invalidReply chars) s = exec (.status a body) s)
    ∧ (∀ chars a body, parseReply chars = some (.confirm a body) → exec (.invalidReply chars) s = exec (.confirm a body) s)
    ∧ (∀ chars a body, parseReply chars = some (.meter a body) →
        exec (.invalidReply chars) s = if a = 0#8 then exec (.meter body) s else exec .replyTimeout s)
    ∧ (s.line.exchange = none → missed s
        ∧ (∀ a body, exec (.status a body) s = .next s) ∧ (∀ body, exec (.meter body) s = .next s)
        ∧ ∀ a body, exec (.confirm a body) s = .next s)
    ∧ (∀ e a body, s.line.exchange = some e → e.kind ≠ .poll ∨ a.toNat ≠ e.address ∨ e.address = 0 →
        exec (.status a body) s = exec .replyTimeout s)
    ∧ (∀ e body, s.line.exchange = some e → e.kind ≠ .poll ∨ e.address ≠ 0 →
        exec (.meter body) s = exec .replyTimeout s)
    ∧ (∀ e a body, s.line.exchange = some e → e.kind = .poll ∨ a.toNat ≠ e.address →
        exec (.confirm a body) s = exec .replyTimeout s)
    ∧ (∀ n kind b, s.line.exchange = some { address := n, kind := kind, void := false } → kind ≠ .poll ∨ n ≠ 0 →
        s.berth? n = some b → s.tablesOk = true → s.countersOk = true →
        ∃ t b', missed t ∧ t.berth? n = some b'
          ∧ (kind = .poll → t.takesRoundOf (State.roundEnded n { s with line := idle s.line }))
          ∧ (kind ≠ .poll → t.line = idle s.line ∧ t.run = s.run)
          ∧ b' =
              { b with
                state := b'.state, occupant := b'.occupant, foreignReason := b'.foreignReason, faultCause := b'.faultCause
                dispenserCode := b'.dispenserCode, wanted := b'.wanted, decided := b'.decided, grantDue := b'.grantDue
                missCount := min 3 (b.missCount + 1), retryWait := decide (kind ≠ .poll) }
          ∧ (kind ≠ .poll → b'.grantDue = false)
          ∧ (kind = .poll → b'.grantDue =
              (if b.retryWait = false ∧ b'.decided = b.decided then b.grantDue else decide (b'.decided ≠ b'.sent)))
          ∧ (let third : Prop := b.missCount = 2 ∨ (b.missCount = 3 ∧ b.state ≠ .faulted)
            let refused : Prop := b.state = .faulted ∧ b.faultCause = some .refused
            (¬ third → b'.state = b.state ∧ b'.occupant = b.occupant ∧ b'.foreignReason = b.foreignReason
              ∧ b'.faultCause = b.faultCause ∧ b'.dispenserCode = b.dispenserCode)
            ∧ (third → refused → b'.state = .faulted ∧ b'.occupant = b.occupant ∧ b'.foreignReason = b.foreignReason
              ∧ b'.faultCause = some .refused ∧ b'.dispenserCode = b.dispenserCode)
            ∧ (third → ¬ refused → b'.state = .faulted ∧ b'.occupant = b.busOccupant ∧ b'.foreignReason = none
              ∧ b'.faultCause = some .silent ∧ b'.dispenserCode = none ∧ b'.wanted = 0 ∧ b'.decided = 0)
            ∧ (¬ third ∨ refused → s.keepsTargets t b b')
            ∧ t.buses = s.buses.map fun x => t.deriveBus
                (if third ∧ b.busOccupant = some x.fleet ∧ x.freshness = .fresh then { x with freshness := .stale } else x))
          ∧ s.handsOn t t.gradeTicket
          ∧ t.berths.map Berth.number = s.berths.map Berth.number
          ∧ (∀ m r, m ≠ n → s.berth? m = some r → ∃ r', t.berth? m = some r' ∧ s.keepsTargets t r r'
              ∧ r' = r.setTarget false r'.wanted r'.decided)
          ∧ hasCause t.attention.flags Cause.berthFault.number =
              (hasCause s.attention.flags Cause.berthFault.number
                || (s.attention.armed && b.state != .faulted && b'.state == .faulted))
          ∧ t.attention.armed =
              ((s.attention.armed && !(b.state != .faulted && b'.state == .faulted))
                || (s.faultedCount != 0 && t.faultedCount == 0))
          ∧ (∀ c : Cause, c ≠ .berthFault → c ≠ .ticketAtRisk → c ≠ .runAborted →
              hasCause t.attention.flags c.number = hasCause s.attention.flags c.number)
          ∧ t.clock = s.clock ∧ t.pledges = s.pledges ∧ t.grid = s.grid ∧ t.supervision = s.supervision
          ∧ t.profile = s.profile ∧ t.store = s.store ∧ t.depot = s.depot ∧ t.alloc.baseLoad = s.alloc.baseLoad)
    ∧ (s.line.exchange = some { address := 0, kind := .poll, void := false } →
        let third : Prop := s.line.meterMiss = 2
        let aborts : Prop := third ∧ (s.run.state = .starting ∨ s.run.state = .running)
          ∧ s.profile.meterSilentAbort = true
        let ended (run : RunControl) : State :=
          State.roundEnded 0
            { s with line := { idle s.line with meterMiss := min 3 (s.line.meterMiss + 1) }, run := run }
        ∃ t run, missed t
          ∧ (aborts → run = { s.run with state := .idle, holdTimer := none, abortCause := some .meterSilent })
          ∧ (¬ aborts → run = s.run)
          ∧ t.line = (ended run).line ∧ t.run = (ended run).run
          ∧ (t.run.state ≠ s.run.state → t.alloc.passRequested = true)
          ∧ (hasCause t.attention.flags Cause.meterSilent.number = true ↔
              hasCause s.attention.flags Cause.meterSilent.number = true ∨ third)
          ∧ (hasCause t.attention.flags Cause.runAborted.number = true ↔
              hasCause (ended run).attention.flags Cause.runAborted.number = true ∨ aborts)
          ∧ (aborts → s.run.state = .running → ∀ b ∈ t.berths, b.wanted = 0 ∧ b.decided = 0)
          ∧ (∀ c : Cause, c ≠ .meterSilent → c ≠ .ticketAtRisk → c ≠ .runAborted →
              hasCause t.attention.flags c.number = hasCause s.attention.flags c.number)
          ∧ s.handsOn t t.gradeTicket
          ∧ t.buses = s.buses.map t.deriveBus
          ∧ List.Forall₂ (fun b b' => b' = b.setTarget false b'.wanted b'.decided) s.berths t.berths
          ∧ (s.tablesOk = true → s.run.state ≠ .running ∨ t.run.state = .running →
              List.Forall₂ (s.keepsTargets t) s.berths t.berths)
          ∧ t.attention.armed = s.attention.armed
          ∧ t.alloc.baseLoad = s.alloc.baseLoad ∧ t.grid = s.grid ∧ t.clock = s.clock ∧ t.pledges = s.pledges
          ∧ t.supervision = s.supervision ∧ t.profile = s.profile ∧ t.store = s.store ∧ t.depot = s.depot)

/-- R58: the outcome of an exchange with a berth set OUT_OF_SERVICE or retired is discarded, whatever it is; the exchange
ends, and with it a round whose last poll it was (R49 to R51, R66). So it is after a RECORDS_RESET too (log entry 43, the
model's choice). -/
def Obligations.VoidOutcomeDiscarded : Prop :=
  ∀ (e : Exchange) (s : State), s.powered = true → s.line.exchange = some e → e.void = true →
    (∀ c, c = .replyTimeout ∨ (∃ a body, c = .status a body) ∨ (∃ body, c = .meter body) ∨ (∃ a body, c = .confirm a body)
        ∨ (∃ chars, c = .invalidReply chars) →
      exec c s = exec .replyTimeout s)
    ∧ (let ended : State := { s with line := { s.line with exchange := none } }
      ∃ t, exec .replyTimeout s = .next t
        ∧ (e.kind ≠ .poll → Settles s ended t)
        ∧ (e.kind = .poll → Settles s (ended.roundEnded e.address) t))

/-! ## The feeder allocator -/

/-- R81 to R92: ALLOCATION_PASS. With none raised nothing changes (log entry 2, the model's choice). A raised pass leaves the
state that `PassDecides` gives: claimants, the exporters and what they receive (R82 to R84), the import claims in R85's order
with the amounts of R86 and the trench rules of R87, wanted levels (R88), what is decided at once (R89; log entry 36) and by
raises (R90, R91), and pass requested no (R81), which it stays but for a raise of the settling. So every target stays within its
wanted level and every berth that is no claimant is at 0; the counted totals rise above no ceiling and no branch limit they were
within; wanted levels fit the ceilings, the branch limits, the trench quota and the spacing rule; and nothing else of a berth
changes. -/
def Obligations.AllocationPassKeepsCeilings : Prop :=
  ∀ s : State, s.powered = true →
    (s.alloc.passRequested = false → exec .allocationPass s = .next s)
    ∧ (s.alloc.passRequested = true → s.tablesOk = true → ∃ t post, exec .allocationPass s = .next t
        ∧ PassDecides s post ∧ Settles s post t
        ∧ (s.busesCurrent → s.ceilingsCurrent → s.commitmentsCurrent →
            t.reserve.readinessYield = s.reserve.readinessYield →
              t.alloc.passRequested = false ∧ t.berths = post.berths)
        ∧ t.totalImport ≤ max s.totalImport s.alloc.importCeiling
        ∧ t.totalExport ≤ max s.totalExport s.alloc.exportCeiling
        ∧ (∀ branch, t.branchImport branch ≤ max (s.branchImport branch) (s.profile.branchLimit branch))
        ∧ (∀ b ∈ t.berths, b.isClaimant = false → b.wanted = 0 ∧ b.decided = 0)
        ∧ (∀ b ∈ t.berths, importPart b.decided ≤ importPart b.wanted ∧ exportPart b.decided ≤ exportPart b.wanted)
        ∧ (t.berths.map fun b => importPart b.wanted).sum ≤ s.alloc.importCeiling
        ∧ (t.berths.map fun b => exportPart b.wanted).sum ≤ s.alloc.exportCeiling
        ∧ (∀ branch, ((t.berths.filter fun b => b.branch == branch).map fun b => importPart b.wanted).sum
            ≤ s.profile.branchLimit branch)
        ∧ (∀ trench, (t.berths.filter fun b =>
              b.trench == trench && decide (s.profile.highRateThreshold < importPart b.wanted)).length
            ≤ s.profile.trenchQuota)
        ∧ (∀ a ∈ t.berths, ∀ b ∈ t.berths, a.trench = b.trench →
            s.profile.spacingSections.getLsbD (a.trench - 1) = true → b.position = a.position + 1 →
              importPart a.wanted ≤ s.profile.highRateThreshold ∨ importPart b.wanted ≤ s.profile.highRateThreshold)
        ∧ List.Forall₂
            (fun b b' => ∃ wanted decided due, b' = { b with wanted := wanted, decided := decided, grantDue := due })
            s.berths t.berths
        ∧ t.run = s.run ∧ t.line = s.line ∧ t.clock = s.clock ∧ t.pledges = s.pledges ∧ t.grid = s.grid
        ∧ t.supervision = s.supervision ∧ t.profile = s.profile ∧ t.store = s.store ∧ t.depot = s.depot
        ∧ t.alloc.baseLoad = s.alloc.baseLoad)

/-- R77, R78: the ceilings: the smallest term in force, with TRIP ahead of CURTAIL ahead of FEEDER, and HELD at 0. -/
def Obligations.CeilingsAreSmallestTerms : Prop :=
  ∀ s : State,
    let held : Prop := s.grid.stopLatch = true ∨ s.grid.sag = true ∨ s.run.state ≠ .running
    let curtailing : Prop := ∃ p ∈ s.pledges, p.kind = .curtail ∧ (p.state = .armed ∨ p.state = .active)
    let tripped : Prop := s.grid.tripLatch = true ∧ s.profile.tripEnabled = true
    let feeder : Int := s.profile.feederLimit - s.alloc.baseLoad
    let curtail : Int := max 0 (feeder - s.reserve.curtailCommitment + s.reserve.readinessYield)
    let trip : Int := s.profile.tripAllowance
    let c : Int := s.importCeilingNow.1
    (held → s.importCeilingNow = (0, .held) ∧ s.exportCeilingNow = 0)
    ∧ (¬ held → s.alloc.baseLoad ≤ s.profile.feederLimit →
        c ≤ feeder ∧ (curtailing → c ≤ curtail) ∧ (tripped → c ≤ trip)
        ∧ (s.importCeilingNow.2 = .trip ↔ tripped ∧ c = trip)
        ∧ (s.importCeilingNow.2 = .curtail ↔ curtailing ∧ c = curtail ∧ ¬ (tripped ∧ c = trip))
        ∧ (s.importCeilingNow.2 = .feeder ↔ c = feeder ∧ ¬ (curtailing ∧ c = curtail) ∧ ¬ (tripped ∧ c = trip))
        ∧ s.importCeilingNow.2 ≠ .held
        ∧ s.exportCeilingNow = min s.profile.exportCeiling s.reserve.exportCommitment)

/-! ## Values the rules compute -/

/-- R30: the corrected output: to the nearest whole kilowatt, halves away from zero, within -100 and 150. -/
def Obligations.CorrectedOutputRoundsToNearest : Prop :=
  ∀ present correction : Int,
    let exact := present * (1000 + correction)
    ∃ q : Int, correctedOutput present correction = max (-100) (min 150 q)
      ∧ 2 * (1000 * q.natAbs) ≤ 2 * exact.natAbs + 1000 ∧ 2 * exact.natAbs < 2 * (1000 * q.natAbs) + 1000
      ∧ (exact < 0 → q ≤ 0) ∧ (0 ≤ exact → 0 ≤ q)

/-- R11, R14 to R16, R18, R19, R107, R108: the derived fields of a bus, and a ticket's grade. -/
def Obligations.DerivedFieldsFollowTheRules : Prop :=
  (∀ (s : State) (b : Bus),
    let d := s.deriveBus b
    let p := s.profile
    (s.ticketOf b = none →
      p.idleFloor * b.capacity ≤ 100 * d.floor ∧ (d.floor ≠ 0 → 100 * (d.floor - 1) < p.idleFloor * b.capacity))
    ∧ (∀ x, s.ticketOf b = some x → d.floor = min (x.need + p.reserveMargin) b.capacity)
    ∧ (s.berthOf b = none → d.thermal = 0 ∧ d.charge = 0 ∧ d.exportEligible = false)
    ∧ (∀ r, s.berthOf b = some r →
        let able : Prop := b.state = .attached ∧ b.inService = true ∧ b.packFault = false
        let warm : Nat := if b.band = some .frozen then p.warmUpPower else 0
        (¬ able ∨ b.band = some .hot → d.thermal = 0 ∧ d.charge = 0)
        ∧ (able → b.band ≠ some .hot →
            (∀ preheat : Nat,
              (∀ x now, s.ticketOf b = some x → s.now = some now →
                (minutesFrom now x.departure ≤ x.lead → 0 < minutesFrom now x.departure → preheat = x.power)
                ∧ ((x.lead : Int) < minutesFrom now x.departure ∨ minutesFrom now x.departure ≤ 0 → preheat = 0)) →
              (s.ticketOf b = none ∨ s.now = none → preheat = 0) →
              d.thermal = min (max warm preheat) (min b.rateCap r.maxImport)))
        ∧ (b.freshness ≠ .fresh ∨ b.band = some .frozen ∨ b.held = some b.capacity → d.charge = 0)
        ∧ (∀ acceptance, able → b.freshness = .fresh → b.held ≠ some b.capacity → b.acceptance = some acceptance →
            (b.band = some .normal → d.charge = min b.rateCap (min acceptance r.maxImport) - d.thermal)
            ∧ (b.band = some .cold → d.charge =
                min (min b.rateCap (min acceptance r.maxImport)) (acceptance * p.coldDerate / 100) - d.thermal))
        ∧ (∀ held, b.held = some held →
            (d.exportEligible = true ↔ able ∧ b.reserveEligible = true ∧ r.state = .occupied ∧ b.freshness = .fresh
              ∧ b.band = some .normal ∧ d.floor < held ∧ 0 < r.maxExport
              ∧ ∀ x now, s.ticketOf b = some x → s.now = some now →
                  (p.protectedHorizon : Int) < minutesFrom now x.departure))
        ∧ (b.held = none → d.exportEligible = false)))
  ∧ (∀ temperature : Int,
      (temperature ≤ -21 → bandOf temperature = .frozen)
      ∧ (-20 ≤ temperature → temperature ≤ 4 → bandOf temperature = .cold)
      ∧ (5 ≤ temperature → temperature ≤ 44 → bandOf temperature = .normal)
      ∧ (45 ≤ temperature → bandOf temperature = .hot))
  ∧ ∀ (s : State) (x : Ticket) (b : Bus), x.state = .assigned → x.bus.bind s.bus? = some b →
      let g := s.gradeTicket x
      (b.held = none → g.grade = some .unknown ∧ g.projected = none)
      ∧ ∀ held, b.held = some held →
          (∀ now r, s.now = some now → b.state = .attached → s.berthOf b = some r →
            g.projected =
              some (min b.capacity
                (held + (max r.decided 0).toNat.sub b.thermal * (minutesFrom now x.departure).toNat / 6)))
          ∧ (b.state = .away → g.projected = some (min b.capacity held))
          ∧ ∀ projected, g.projected = some projected →
              (b.freshness = .stale → g.grade = some .unknown)
              ∧ (b.freshness ≠ .stale → x.need ≤ held → g.grade = some .ready)
              ∧ (b.freshness ≠ .stale → held < x.need → x.need ≤ projected → g.grade = some .onTrack)
              ∧ (b.freshness ≠ .stale → held < x.need → projected < x.need → g.grade = some .atRisk)

/-- R115: the commitment test, made at window starts, is the test at every minute that some window covers (log entry 32). -/
def Obligations.CommitmentTestCoversEveryMinute : Prop :=
  ∀ (reserveCeiling exportCeiling : Nat) (set : List Pledge), (∀ p ∈ set, 0 < p.duration) →
    (commitmentTest reserveCeiling exportCeiling set = true ↔
      ∀ minute, (∃ p ∈ set, p.start ≤ minute ∧ minute < p.start + p.duration) →
        ((set.filter fun p => decide (p.start ≤ minute ∧ minute < p.start + p.duration)).map Pledge.committed).sum
            ≤ reserveCeiling
        ∧ ((set.filter fun p =>
              decide (p.kind = .exporting ∧ p.start ≤ minute ∧ minute < p.start + p.duration)).map Pledge.committed).sum
            ≤ exportCeiling)

/-- R163, R164, R168: an image that SAVE_PROFILE writes is accepted at POWER_ON and gives back the profile and the topology
and out-of-service setting of every berth, in the layout that log entry 10 chooses. An accepted image is one of that layout, with
every value in its range, its entries in any order; so an image is set aside whole when its CRC-16 does not match, when a setting
or topology field lies outside its range (or an out-of-service setting is neither 0 nor 1, log entry 10), or when a berth number
lies outside 1 to 32 or repeats. -/
def Obligations.SavedImageLoadsBack : Prop :=
  let settingsFit (p : Profile) : Prop := ∀ i v, p.values[i]? = some v → profileFieldFits (i + 1) v = true
  let entryFits (b : Berth) : Prop :=
    1 ≤ b.number ∧ b.number ≤ 32 ∧ 1 ≤ b.branch ∧ b.branch ≤ 4 ∧ 1 ≤ b.trench ∧ b.trench ≤ 8
      ∧ 1 ≤ b.position ∧ b.position ≤ 8 ∧ 10 ≤ b.maxImport ∧ b.maxImport ≤ 150 ∧ b.maxExport ≤ 100
      ∧ -50 ≤ b.correction ∧ b.correction ≤ 50
  let sealed (content : List Byte) : List Byte := content ++ [hiByte (crc16 content), loByte (crc16 content)]
  let imageOf (settings : List Int) (entries : List (List Int)) : List Byte :=
    sealed ((settings ++ entries.flatten).flatMap fun v => valueBytes (BitVec.ofInt 32 v))
  (∀ (p : Profile) (berths : List Berth),
    settingsFit p → keysRising Berth.number berths = true → (∀ b ∈ berths, entryFits b) →
    loadImage (imageBytes p berths) = some
      (p, berths.map fun b =>
        newBerth b.number b.branch b.trench b.position b.maxImport b.maxExport b.correction b.outOfService))
  ∧ (∀ (image : List Byte) (p : Profile) (berths : List Berth), loadImage image = some (p, berths) →
      settingsFit p ∧ keysRising Berth.number berths = true
      ∧ (∀ b ∈ berths, entryFits b
          ∧ b = newBerth b.number b.branch b.trench b.position b.maxImport b.maxExport b.correction b.outOfService)
      ∧ ∃ entries, entries.Perm berths ∧ image = imageBytes p entries)
  ∧ (∀ image : List Byte, (∀ content, image ≠ sealed content) → loadImage image = none)
  ∧ ∀ (settings : List Int) (entries : List (List Int)),
      settings.length = 59 → (∀ e ∈ entries, e.length = 8) →
      (∀ v ∈ settings ++ entries.flatten, -2147483648 ≤ v ∧ v ≤ 2147483647) →
      ((∃ i v, settings[i]? = some v ∧ profileFieldFits (i + 1) v = false)
        ∨ (∃ e ∈ entries, ∃ number, e[0]? = some number ∧ (number < 1 ∨ 32 < number))
        ∨ (∃ e ∈ entries, ∃ i v, 1 ≤ i ∧ e[i]? = some v ∧ berthFieldFits (i + 1) v = false)
        ∨ ¬ (entries.map fun e => e[0]?).Nodup) →
      loadImage (imageOf settings entries) = none

/-! ## Invariants that every step keeps -/

/-- R1, R23, R101, R114: every step keeps every table in strictly ascending key within its slots. -/
def Obligations.StepKeepsTables : Prop :=
  ∀ s t : State, s.tablesOk = true → step s = .next t → t.tablesOk = true

/-- R6, R40, R104: every step keeps the links between berths and buses, and between tickets and buses. -/
def Obligations.StepKeepsLinks : Prop :=
  ∀ s t : State, s.tablesOk = true → s.occupancyOk = true → s.ticketLinksOk = true → step s = .next t →
    t.occupancyOk = true ∧ t.ticketLinksOk = true

/-- R77 to R79, R82: every step keeps the ceilings what their terms give, every target at 0 while a stop or sag is in force
or the run is not RUNNING, and every target at 0 at a berth that is no claimant. -/
def Obligations.StepKeepsCeilingsAndZeroTargets : Prop :=
  ∀ s t : State, s.ceilingsCurrent → step s = .next t →
    t.ceilingsCurrent ∧ (s.heldTargetsZero → t.heldTargetsZero)
      ∧ (s.tablesOk = true → s.othersZero → t.othersZero)

/-- R17, R109, R128: every step keeps every derived bus field, every grade and projection, and the commitments current. -/
def Obligations.StepKeepsDerivedValues : Prop :=
  ∀ s t : State, step s = .next t →
    (s.busesCurrent → t.busesCurrent) ∧ (s.ticketsCurrent → t.ticketsCurrent)
      ∧ (s.commitmentsCurrent → t.commitmentsCurrent)

/-- R46, R48, R59, R145, R50, R52, R53, R70, R97, R98, R133, R141: every step keeps both links in a legal state and every
counter in its range. -/
def Obligations.StepKeepsLinkStatesAndCounters : Prop :=
  ∀ s t : State, step s = .next t →
    (s.linkOk = true → t.linkOk = true) ∧ (s.grantCapOk = true → t.grantCapOk = true)
      ∧ (s.countersOk = true → t.countersOk = true) ∧ (s.lineOk = true → t.lineOk = true)
      ∧ (s.ceilingsCurrent → s.heldTargetsZero → s.lineOk = true → s.breakOk → t.breakOk)
end

