-- ==== Sys2Proof/Laws/State.lean ====
section
/-! SUPPORT. One lemma for each field of State under each shared update, true by rfl. -/

namespace Sys2Proof.Machine

/-! ## updBus -/

@[simp] theorem updBus_powered (k : Nat) (f : Bus → Bus) (s : State) : (s.updBus k f).powered = s.powered := rfl
@[simp] theorem updBus_depot (k : Nat) (f : Bus → Bus) (s : State) : (s.updBus k f).depot = s.depot := rfl
@[simp] theorem updBus_buses (k : Nat) (f : Bus → Bus) (s : State) :
    (s.updBus k f).buses = updateKey Bus.fleet k f s.buses := rfl
@[simp] theorem updBus_berths (k : Nat) (f : Bus → Bus) (s : State) : (s.updBus k f).berths = s.berths := rfl
@[simp] theorem updBus_line (k : Nat) (f : Bus → Bus) (s : State) : (s.updBus k f).line = s.line := rfl
@[simp] theorem updBus_run (k : Nat) (f : Bus → Bus) (s : State) : (s.updBus k f).run = s.run := rfl
@[simp] theorem updBus_alloc (k : Nat) (f : Bus → Bus) (s : State) : (s.updBus k f).alloc = s.alloc := rfl
@[simp] theorem updBus_clock (k : Nat) (f : Bus → Bus) (s : State) : (s.updBus k f).clock = s.clock := rfl
@[simp] theorem updBus_tickets (k : Nat) (f : Bus → Bus) (s : State) : (s.updBus k f).tickets = s.tickets := rfl
@[simp] theorem updBus_pledges (k : Nat) (f : Bus → Bus) (s : State) : (s.updBus k f).pledges = s.pledges := rfl
@[simp] theorem updBus_reserve (k : Nat) (f : Bus → Bus) (s : State) : (s.updBus k f).reserve = s.reserve := rfl
@[simp] theorem updBus_grid (k : Nat) (f : Bus → Bus) (s : State) : (s.updBus k f).grid = s.grid := rfl
@[simp] theorem updBus_attention (k : Nat) (f : Bus → Bus) (s : State) : (s.updBus k f).attention = s.attention := rfl
@[simp] theorem updBus_supervision (k : Nat) (f : Bus → Bus) (s : State) :
    (s.updBus k f).supervision = s.supervision := rfl
@[simp] theorem updBus_profile (k : Nat) (f : Bus → Bus) (s : State) : (s.updBus k f).profile = s.profile := rfl
@[simp] theorem updBus_store (k : Nat) (f : Bus → Bus) (s : State) : (s.updBus k f).store = s.store := rfl
@[simp] theorem updBus_freeIndex (k : Nat) (f : Bus → Bus) (s : State) : (s.updBus k f).freeIndex = s.freeIndex := rfl
@[simp] theorem updBus_pending (k : Nat) (f : Bus → Bus) (s : State) : (s.updBus k f).pending = s.pending := rfl

/-! ## updBerth -/

@[simp] theorem updBerth_powered (n : Nat) (f : Berth → Berth) (s : State) :
    (s.updBerth n f).powered = s.powered := rfl
@[simp] theorem updBerth_depot (n : Nat) (f : Berth → Berth) (s : State) : (s.updBerth n f).depot = s.depot := rfl
@[simp] theorem updBerth_buses (n : Nat) (f : Berth → Berth) (s : State) : (s.updBerth n f).buses = s.buses := rfl
@[simp] theorem updBerth_berths (n : Nat) (f : Berth → Berth) (s : State) :
    (s.updBerth n f).berths = updateKey Berth.number n f s.berths := rfl
@[simp] theorem updBerth_line (n : Nat) (f : Berth → Berth) (s : State) : (s.updBerth n f).line = s.line := rfl
@[simp] theorem updBerth_run (n : Nat) (f : Berth → Berth) (s : State) : (s.updBerth n f).run = s.run := rfl
@[simp] theorem updBerth_alloc (n : Nat) (f : Berth → Berth) (s : State) : (s.updBerth n f).alloc = s.alloc := rfl
@[simp] theorem updBerth_clock (n : Nat) (f : Berth → Berth) (s : State) : (s.updBerth n f).clock = s.clock := rfl
@[simp] theorem updBerth_tickets (n : Nat) (f : Berth → Berth) (s : State) :
    (s.updBerth n f).tickets = s.tickets := rfl
@[simp] theorem updBerth_pledges (n : Nat) (f : Berth → Berth) (s : State) :
    (s.updBerth n f).pledges = s.pledges := rfl
@[simp] theorem updBerth_reserve (n : Nat) (f : Berth → Berth) (s : State) :
    (s.updBerth n f).reserve = s.reserve := rfl
@[simp] theorem updBerth_grid (n : Nat) (f : Berth → Berth) (s : State) : (s.updBerth n f).grid = s.grid := rfl
@[simp] theorem updBerth_attention (n : Nat) (f : Berth → Berth) (s : State) :
    (s.updBerth n f).attention = s.attention := rfl
@[simp] theorem updBerth_supervision (n : Nat) (f : Berth → Berth) (s : State) :
    (s.updBerth n f).supervision = s.supervision := rfl
@[simp] theorem updBerth_profile (n : Nat) (f : Berth → Berth) (s : State) :
    (s.updBerth n f).profile = s.profile := rfl
@[simp] theorem updBerth_store (n : Nat) (f : Berth → Berth) (s : State) : (s.updBerth n f).store = s.store := rfl
@[simp] theorem updBerth_freeIndex (n : Nat) (f : Berth → Berth) (s : State) :
    (s.updBerth n f).freeIndex = s.freeIndex := rfl
@[simp] theorem updBerth_pending (n : Nat) (f : Berth → Berth) (s : State) :
    (s.updBerth n f).pending = s.pending := rfl

/-! ## updTicket -/

@[simp] theorem updTicket_powered (k : Nat) (f : Ticket → Ticket) (s : State) :
    (s.updTicket k f).powered = s.powered := rfl
@[simp] theorem updTicket_depot (k : Nat) (f : Ticket → Ticket) (s : State) : (s.updTicket k f).depot = s.depot := rfl
@[simp] theorem updTicket_buses (k : Nat) (f : Ticket → Ticket) (s : State) : (s.updTicket k f).buses = s.buses := rfl
@[simp] theorem updTicket_berths (k : Nat) (f : Ticket → Ticket) (s : State) :
    (s.updTicket k f).berths = s.berths := rfl
@[simp] theorem updTicket_line (k : Nat) (f : Ticket → Ticket) (s : State) : (s.updTicket k f).line = s.line := rfl
@[simp] theorem updTicket_run (k : Nat) (f : Ticket → Ticket) (s : State) : (s.updTicket k f).run = s.run := rfl
@[simp] theorem updTicket_alloc (k : Nat) (f : Ticket → Ticket) (s : State) : (s.updTicket k f).alloc = s.alloc := rfl
@[simp] theorem updTicket_clock (k : Nat) (f : Ticket → Ticket) (s : State) : (s.updTicket k f).clock = s.clock := rfl
@[simp] theorem updTicket_tickets (k : Nat) (f : Ticket → Ticket) (s : State) :
    (s.updTicket k f).tickets = updateKey Ticket.id k f s.tickets := rfl
@[simp] theorem updTicket_pledges (k : Nat) (f : Ticket → Ticket) (s : State) :
    (s.updTicket k f).pledges = s.pledges := rfl
@[simp] theorem updTicket_reserve (k : Nat) (f : Ticket → Ticket) (s : State) :
    (s.updTicket k f).reserve = s.reserve := rfl
@[simp] theorem updTicket_grid (k : Nat) (f : Ticket → Ticket) (s : State) : (s.updTicket k f).grid = s.grid := rfl
@[simp] theorem updTicket_attention (k : Nat) (f : Ticket → Ticket) (s : State) :
    (s.updTicket k f).attention = s.attention := rfl
@[simp] theorem updTicket_supervision (k : Nat) (f : Ticket → Ticket) (s : State) :
    (s.updTicket k f).supervision = s.supervision := rfl
@[simp] theorem updTicket_profile (k : Nat) (f : Ticket → Ticket) (s : State) :
    (s.updTicket k f).profile = s.profile := rfl
@[simp] theorem updTicket_store (k : Nat) (f : Ticket → Ticket) (s : State) : (s.updTicket k f).store = s.store := rfl
@[simp] theorem updTicket_freeIndex (k : Nat) (f : Ticket → Ticket) (s : State) :
    (s.updTicket k f).freeIndex = s.freeIndex := rfl
@[simp] theorem updTicket_pending (k : Nat) (f : Ticket → Ticket) (s : State) :
    (s.updTicket k f).pending = s.pending := rfl

/-! ## updPledge -/

@[simp] theorem updPledge_powered (k : Nat) (f : Pledge → Pledge) (s : State) :
    (s.updPledge k f).powered = s.powered := rfl
@[simp] theorem updPledge_depot (k : Nat) (f : Pledge → Pledge) (s : State) : (s.updPledge k f).depot = s.depot := rfl
@[simp] theorem updPledge_buses (k : Nat) (f : Pledge → Pledge) (s : State) : (s.updPledge k f).buses = s.buses := rfl
@[simp] theorem updPledge_berths (k : Nat) (f : Pledge → Pledge) (s : State) :
    (s.updPledge k f).berths = s.berths := rfl
@[simp] theorem updPledge_line (k : Nat) (f : Pledge → Pledge) (s : State) : (s.updPledge k f).line = s.line := rfl
@[simp] theorem updPledge_run (k : Nat) (f : Pledge → Pledge) (s : State) : (s.updPledge k f).run = s.run := rfl
@[simp] theorem updPledge_alloc (k : Nat) (f : Pledge → Pledge) (s : State) : (s.updPledge k f).alloc = s.alloc := rfl
@[simp] theorem updPledge_clock (k : Nat) (f : Pledge → Pledge) (s : State) : (s.updPledge k f).clock = s.clock := rfl
@[simp] theorem updPledge_tickets (k : Nat) (f : Pledge → Pledge) (s : State) :
    (s.updPledge k f).tickets = s.tickets := rfl
@[simp] theorem updPledge_pledges (k : Nat) (f : Pledge → Pledge) (s : State) :
    (s.updPledge k f).pledges = updateKey Pledge.id k f s.pledges := rfl
@[simp] theorem updPledge_reserve (k : Nat) (f : Pledge → Pledge) (s : State) :
    (s.updPledge k f).reserve = s.reserve := rfl
@[simp] theorem updPledge_grid (k : Nat) (f : Pledge → Pledge) (s : State) : (s.updPledge k f).grid = s.grid := rfl
@[simp] theorem updPledge_attention (k : Nat) (f : Pledge → Pledge) (s : State) :
    (s.updPledge k f).attention = s.attention := rfl
@[simp] theorem updPledge_supervision (k : Nat) (f : Pledge → Pledge) (s : State) :
    (s.updPledge k f).supervision = s.supervision := rfl
@[simp] theorem updPledge_profile (k : Nat) (f : Pledge → Pledge) (s : State) :
    (s.updPledge k f).profile = s.profile := rfl
@[simp] theorem updPledge_store (k : Nat) (f : Pledge → Pledge) (s : State) : (s.updPledge k f).store = s.store := rfl
@[simp] theorem updPledge_freeIndex (k : Nat) (f : Pledge → Pledge) (s : State) :
    (s.updPledge k f).freeIndex = s.freeIndex := rfl
@[simp] theorem updPledge_pending (k : Nat) (f : Pledge → Pledge) (s : State) :
    (s.updPledge k f).pending = s.pending := rfl

/-! ## raiseCause -/

@[simp] theorem raiseCause_powered (c : Cause) (s : State) : (s.raiseCause c).powered = s.powered := rfl
@[simp] theorem raiseCause_depot (c : Cause) (s : State) : (s.raiseCause c).depot = s.depot := rfl
@[simp] theorem raiseCause_buses (c : Cause) (s : State) : (s.raiseCause c).buses = s.buses := rfl
@[simp] theorem raiseCause_berths (c : Cause) (s : State) : (s.raiseCause c).berths = s.berths := rfl
@[simp] theorem raiseCause_line (c : Cause) (s : State) : (s.raiseCause c).line = s.line := rfl
@[simp] theorem raiseCause_run (c : Cause) (s : State) : (s.raiseCause c).run = s.run := rfl
@[simp] theorem raiseCause_alloc (c : Cause) (s : State) : (s.raiseCause c).alloc = s.alloc := rfl
@[simp] theorem raiseCause_clock (c : Cause) (s : State) : (s.raiseCause c).clock = s.clock := rfl
@[simp] theorem raiseCause_tickets (c : Cause) (s : State) : (s.raiseCause c).tickets = s.tickets := rfl
@[simp] theorem raiseCause_pledges (c : Cause) (s : State) : (s.raiseCause c).pledges = s.pledges := rfl
@[simp] theorem raiseCause_reserve (c : Cause) (s : State) : (s.raiseCause c).reserve = s.reserve := rfl
@[simp] theorem raiseCause_grid (c : Cause) (s : State) : (s.raiseCause c).grid = s.grid := rfl
@[simp] theorem raiseCause_attention (c : Cause) (s : State) :
    (s.raiseCause c).attention = { s.attention with flags := s.attention.flags ||| causeBit c.number } := rfl
@[simp] theorem raiseCause_supervision (c : Cause) (s : State) : (s.raiseCause c).supervision = s.supervision := rfl
@[simp] theorem raiseCause_profile (c : Cause) (s : State) : (s.raiseCause c).profile = s.profile := rfl
@[simp] theorem raiseCause_store (c : Cause) (s : State) : (s.raiseCause c).store = s.store := rfl
@[simp] theorem raiseCause_freeIndex (c : Cause) (s : State) : (s.raiseCause c).freeIndex = s.freeIndex := rfl
@[simp] theorem raiseCause_pending (c : Cause) (s : State) : (s.raiseCause c).pending = s.pending := rfl

/-! ## requestPass -/

@[simp] theorem requestPass_powered (s : State) : s.requestPass.powered = s.powered := rfl
@[simp] theorem requestPass_depot (s : State) : s.requestPass.depot = s.depot := rfl
@[simp] theorem requestPass_buses (s : State) : s.requestPass.buses = s.buses := rfl
@[simp] theorem requestPass_berths (s : State) : s.requestPass.berths = s.berths := rfl
@[simp] theorem requestPass_line (s : State) : s.requestPass.line = s.line := rfl
@[simp] theorem requestPass_run (s : State) : s.requestPass.run = s.run := rfl
@[simp] theorem requestPass_alloc (s : State) : s.requestPass.alloc = { s.alloc with passRequested := true } := rfl
@[simp] theorem requestPass_clock (s : State) : s.requestPass.clock = s.clock := rfl
@[simp] theorem requestPass_tickets (s : State) : s.requestPass.tickets = s.tickets := rfl
@[simp] theorem requestPass_pledges (s : State) : s.requestPass.pledges = s.pledges := rfl
@[simp] theorem requestPass_reserve (s : State) : s.requestPass.reserve = s.reserve := rfl
@[simp] theorem requestPass_grid (s : State) : s.requestPass.grid = s.grid := rfl
@[simp] theorem requestPass_attention (s : State) : s.requestPass.attention = s.attention := rfl
@[simp] theorem requestPass_supervision (s : State) : s.requestPass.supervision = s.supervision := rfl
@[simp] theorem requestPass_profile (s : State) : s.requestPass.profile = s.profile := rfl
@[simp] theorem requestPass_store (s : State) : s.requestPass.store = s.store := rfl
@[simp] theorem requestPass_freeIndex (s : State) : s.requestPass.freeIndex = s.freeIndex := rfl
@[simp] theorem requestPass_pending (s : State) : s.requestPass.pending = s.pending := rfl

/-! ## setTarget -/

@[simp] theorem setTarget_powered (n : Nat) (w d : Int) (s : State) : (s.setTarget n w d).powered = s.powered := rfl
@[simp] theorem setTarget_depot (n : Nat) (w d : Int) (s : State) : (s.setTarget n w d).depot = s.depot := rfl
@[simp] theorem setTarget_buses (n : Nat) (w d : Int) (s : State) : (s.setTarget n w d).buses = s.buses := rfl
@[simp] theorem setTarget_berths (n : Nat) (w d : Int) (s : State) :
    (s.setTarget n w d).berths = updateKey Berth.number n (Berth.setTarget (s.grantInFlight n) w d) s.berths := rfl
@[simp] theorem setTarget_line (n : Nat) (w d : Int) (s : State) : (s.setTarget n w d).line = s.line := rfl
@[simp] theorem setTarget_run (n : Nat) (w d : Int) (s : State) : (s.setTarget n w d).run = s.run := rfl
@[simp] theorem setTarget_alloc (n : Nat) (w d : Int) (s : State) : (s.setTarget n w d).alloc = s.alloc := rfl
@[simp] theorem setTarget_clock (n : Nat) (w d : Int) (s : State) : (s.setTarget n w d).clock = s.clock := rfl
@[simp] theorem setTarget_tickets (n : Nat) (w d : Int) (s : State) : (s.setTarget n w d).tickets = s.tickets := rfl
@[simp] theorem setTarget_pledges (n : Nat) (w d : Int) (s : State) : (s.setTarget n w d).pledges = s.pledges := rfl
@[simp] theorem setTarget_reserve (n : Nat) (w d : Int) (s : State) : (s.setTarget n w d).reserve = s.reserve := rfl
@[simp] theorem setTarget_grid (n : Nat) (w d : Int) (s : State) : (s.setTarget n w d).grid = s.grid := rfl
@[simp] theorem setTarget_attention (n : Nat) (w d : Int) (s : State) :
    (s.setTarget n w d).attention = s.attention := rfl
@[simp] theorem setTarget_supervision (n : Nat) (w d : Int) (s : State) :
    (s.setTarget n w d).supervision = s.supervision := rfl
@[simp] theorem setTarget_profile (n : Nat) (w d : Int) (s : State) : (s.setTarget n w d).profile = s.profile := rfl
@[simp] theorem setTarget_store (n : Nat) (w d : Int) (s : State) : (s.setTarget n w d).store = s.store := rfl
@[simp] theorem setTarget_freeIndex (n : Nat) (w d : Int) (s : State) :
    (s.setTarget n w d).freeIndex = s.freeIndex := rfl
@[simp] theorem setTarget_pending (n : Nat) (w d : Int) (s : State) : (s.setTarget n w d).pending = s.pending := rfl

/-! ## zeroTargets -/

@[simp] theorem zeroTargets_powered (s : State) : s.zeroTargets.powered = s.powered := rfl
@[simp] theorem zeroTargets_depot (s : State) : s.zeroTargets.depot = s.depot := rfl
@[simp] theorem zeroTargets_buses (s : State) : s.zeroTargets.buses = s.buses := rfl
@[simp] theorem zeroTargets_berths (s : State) :
    s.zeroTargets.berths = s.berths.map fun b => b.setTarget (s.grantInFlight b.number) 0 0 := rfl
@[simp] theorem zeroTargets_line (s : State) : s.zeroTargets.line = s.line := rfl
@[simp] theorem zeroTargets_run (s : State) : s.zeroTargets.run = s.run := rfl
@[simp] theorem zeroTargets_alloc (s : State) : s.zeroTargets.alloc = s.alloc := rfl
@[simp] theorem zeroTargets_clock (s : State) : s.zeroTargets.clock = s.clock := rfl
@[simp] theorem zeroTargets_tickets (s : State) : s.zeroTargets.tickets = s.tickets := rfl
@[simp] theorem zeroTargets_pledges (s : State) : s.zeroTargets.pledges = s.pledges := rfl
@[simp] theorem zeroTargets_reserve (s : State) : s.zeroTargets.reserve = s.reserve := rfl
@[simp] theorem zeroTargets_grid (s : State) : s.zeroTargets.grid = s.grid := rfl
@[simp] theorem zeroTargets_attention (s : State) : s.zeroTargets.attention = s.attention := rfl
@[simp] theorem zeroTargets_supervision (s : State) : s.zeroTargets.supervision = s.supervision := rfl
@[simp] theorem zeroTargets_profile (s : State) : s.zeroTargets.profile = s.profile := rfl
@[simp] theorem zeroTargets_store (s : State) : s.zeroTargets.store = s.store := rfl
@[simp] theorem zeroTargets_freeIndex (s : State) : s.zeroTargets.freeIndex = s.freeIndex := rfl
@[simp] theorem zeroTargets_pending (s : State) : s.zeroTargets.pending = s.pending := rfl

/-! ## handCommitments -/

@[simp] theorem handCommitments_powered (s : State) : s.handCommitments.powered = s.powered := rfl
@[simp] theorem handCommitments_depot (s : State) : s.handCommitments.depot = s.depot := rfl
@[simp] theorem handCommitments_buses (s : State) : s.handCommitments.buses = s.buses := rfl
@[simp] theorem handCommitments_berths (s : State) : s.handCommitments.berths = s.berths := rfl
@[simp] theorem handCommitments_line (s : State) : s.handCommitments.line = s.line := rfl
@[simp] theorem handCommitments_run (s : State) : s.handCommitments.run = s.run := rfl
@[simp] theorem handCommitments_alloc (s : State) : s.handCommitments.alloc = s.alloc := rfl
@[simp] theorem handCommitments_clock (s : State) : s.handCommitments.clock = s.clock := rfl
@[simp] theorem handCommitments_tickets (s : State) : s.handCommitments.tickets = s.tickets := rfl
@[simp] theorem handCommitments_pledges (s : State) : s.handCommitments.pledges = s.pledges := rfl
@[simp] theorem handCommitments_grid (s : State) : s.handCommitments.grid = s.grid := rfl
@[simp] theorem handCommitments_attention (s : State) : s.handCommitments.attention = s.attention := rfl
@[simp] theorem handCommitments_supervision (s : State) : s.handCommitments.supervision = s.supervision := rfl
@[simp] theorem handCommitments_profile (s : State) : s.handCommitments.profile = s.profile := rfl
@[simp] theorem handCommitments_store (s : State) : s.handCommitments.store = s.store := rfl
@[simp] theorem handCommitments_freeIndex (s : State) : s.handCommitments.freeIndex = s.freeIndex := rfl
@[simp] theorem handCommitments_pending (s : State) : s.handCommitments.pending = s.pending := rfl

/-! ## recomputeCeilings -/

@[simp] theorem recomputeCeilings_powered (s : State) : s.recomputeCeilings.powered = s.powered := rfl
@[simp] theorem recomputeCeilings_depot (s : State) : s.recomputeCeilings.depot = s.depot := rfl
@[simp] theorem recomputeCeilings_buses (s : State) : s.recomputeCeilings.buses = s.buses := rfl
@[simp] theorem recomputeCeilings_berths (s : State) : s.recomputeCeilings.berths = s.berths := rfl
@[simp] theorem recomputeCeilings_line (s : State) : s.recomputeCeilings.line = s.line := rfl
@[simp] theorem recomputeCeilings_run (s : State) : s.recomputeCeilings.run = s.run := rfl
@[simp] theorem recomputeCeilings_clock (s : State) : s.recomputeCeilings.clock = s.clock := rfl
@[simp] theorem recomputeCeilings_tickets (s : State) : s.recomputeCeilings.tickets = s.tickets := rfl
@[simp] theorem recomputeCeilings_pledges (s : State) : s.recomputeCeilings.pledges = s.pledges := rfl
@[simp] theorem recomputeCeilings_reserve (s : State) : s.recomputeCeilings.reserve = s.reserve := rfl
@[simp] theorem recomputeCeilings_grid (s : State) : s.recomputeCeilings.grid = s.grid := rfl
@[simp] theorem recomputeCeilings_attention (s : State) : s.recomputeCeilings.attention = s.attention := rfl
@[simp] theorem recomputeCeilings_supervision (s : State) : s.recomputeCeilings.supervision = s.supervision := rfl
@[simp] theorem recomputeCeilings_profile (s : State) : s.recomputeCeilings.profile = s.profile := rfl
@[simp] theorem recomputeCeilings_store (s : State) : s.recomputeCeilings.store = s.store := rfl
@[simp] theorem recomputeCeilings_freeIndex (s : State) : s.recomputeCeilings.freeIndex = s.freeIndex := rfl
@[simp] theorem recomputeCeilings_pending (s : State) : s.recomputeCeilings.pending = s.pending := rfl

/-! ## abandonRound -/

@[simp] theorem abandonRound_powered (s : State) : s.abandonRound.powered = s.powered := rfl
@[simp] theorem abandonRound_depot (s : State) : s.abandonRound.depot = s.depot := rfl
@[simp] theorem abandonRound_buses (s : State) : s.abandonRound.buses = s.buses := rfl
@[simp] theorem abandonRound_berths (s : State) : s.abandonRound.berths = s.berths := rfl
@[simp] theorem abandonRound_line (s : State) :
    s.abandonRound.line = { s.line with roundList := [], sweep := .start, roundOpen := false } := rfl
@[simp] theorem abandonRound_run (s : State) : s.abandonRound.run = s.run := rfl
@[simp] theorem abandonRound_alloc (s : State) : s.abandonRound.alloc = s.alloc := rfl
@[simp] theorem abandonRound_clock (s : State) : s.abandonRound.clock = s.clock := rfl
@[simp] theorem abandonRound_tickets (s : State) : s.abandonRound.tickets = s.tickets := rfl
@[simp] theorem abandonRound_pledges (s : State) : s.abandonRound.pledges = s.pledges := rfl
@[simp] theorem abandonRound_reserve (s : State) : s.abandonRound.reserve = s.reserve := rfl
@[simp] theorem abandonRound_grid (s : State) : s.abandonRound.grid = s.grid := rfl
@[simp] theorem abandonRound_attention (s : State) : s.abandonRound.attention = s.attention := rfl
@[simp] theorem abandonRound_supervision (s : State) : s.abandonRound.supervision = s.supervision := rfl
@[simp] theorem abandonRound_profile (s : State) : s.abandonRound.profile = s.profile := rfl
@[simp] theorem abandonRound_store (s : State) : s.abandonRound.store = s.store := rfl
@[simp] theorem abandonRound_freeIndex (s : State) : s.abandonRound.freeIndex = s.freeIndex := rfl
@[simp] theorem abandonRound_pending (s : State) : s.abandonRound.pending = s.pending := rfl

/-! ## clearFirstRound -/

@[simp] theorem clearFirstRound_powered (s : State) : s.clearFirstRound.powered = s.powered := rfl
@[simp] theorem clearFirstRound_depot (s : State) : s.clearFirstRound.depot = s.depot := rfl
@[simp] theorem clearFirstRound_buses (s : State) : s.clearFirstRound.buses = s.buses := rfl
@[simp] theorem clearFirstRound_berths (s : State) : s.clearFirstRound.berths = s.berths := rfl
@[simp] theorem clearFirstRound_line (s : State) :
    s.clearFirstRound.line = { s.line with firstRound := false, qualifying := false } := rfl
@[simp] theorem clearFirstRound_run (s : State) : s.clearFirstRound.run = s.run := rfl
@[simp] theorem clearFirstRound_alloc (s : State) : s.clearFirstRound.alloc = s.alloc := rfl
@[simp] theorem clearFirstRound_clock (s : State) : s.clearFirstRound.clock = s.clock := rfl
@[simp] theorem clearFirstRound_tickets (s : State) : s.clearFirstRound.tickets = s.tickets := rfl
@[simp] theorem clearFirstRound_pledges (s : State) : s.clearFirstRound.pledges = s.pledges := rfl
@[simp] theorem clearFirstRound_reserve (s : State) : s.clearFirstRound.reserve = s.reserve := rfl
@[simp] theorem clearFirstRound_grid (s : State) : s.clearFirstRound.grid = s.grid := rfl
@[simp] theorem clearFirstRound_attention (s : State) : s.clearFirstRound.attention = s.attention := rfl
@[simp] theorem clearFirstRound_supervision (s : State) : s.clearFirstRound.supervision = s.supervision := rfl
@[simp] theorem clearFirstRound_profile (s : State) : s.clearFirstRound.profile = s.profile := rfl
@[simp] theorem clearFirstRound_store (s : State) : s.clearFirstRound.store = s.store := rfl
@[simp] theorem clearFirstRound_freeIndex (s : State) : s.clearFirstRound.freeIndex = s.freeIndex := rfl
@[simp] theorem clearFirstRound_pending (s : State) : s.clearFirstRound.pending = s.pending := rfl

/-! ## leaveLine -/

@[simp] theorem leaveLine_powered (n : Nat) (s : State) : (s.leaveLine n).powered = s.powered := rfl
@[simp] theorem leaveLine_depot (n : Nat) (s : State) : (s.leaveLine n).depot = s.depot := rfl
@[simp] theorem leaveLine_buses (n : Nat) (s : State) : (s.leaveLine n).buses = s.buses := rfl
@[simp] theorem leaveLine_berths (n : Nat) (s : State) : (s.leaveLine n).berths = s.berths := rfl
@[simp] theorem leaveLine_run (n : Nat) (s : State) : (s.leaveLine n).run = s.run := rfl
@[simp] theorem leaveLine_alloc (n : Nat) (s : State) : (s.leaveLine n).alloc = s.alloc := rfl
@[simp] theorem leaveLine_clock (n : Nat) (s : State) : (s.leaveLine n).clock = s.clock := rfl
@[simp] theorem leaveLine_tickets (n : Nat) (s : State) : (s.leaveLine n).tickets = s.tickets := rfl
@[simp] theorem leaveLine_pledges (n : Nat) (s : State) : (s.leaveLine n).pledges = s.pledges := rfl
@[simp] theorem leaveLine_reserve (n : Nat) (s : State) : (s.leaveLine n).reserve = s.reserve := rfl
@[simp] theorem leaveLine_grid (n : Nat) (s : State) : (s.leaveLine n).grid = s.grid := rfl
@[simp] theorem leaveLine_attention (n : Nat) (s : State) : (s.leaveLine n).attention = s.attention := rfl
@[simp] theorem leaveLine_supervision (n : Nat) (s : State) : (s.leaveLine n).supervision = s.supervision := rfl
@[simp] theorem leaveLine_profile (n : Nat) (s : State) : (s.leaveLine n).profile = s.profile := rfl
@[simp] theorem leaveLine_store (n : Nat) (s : State) : (s.leaveLine n).store = s.store := rfl
@[simp] theorem leaveLine_freeIndex (n : Nat) (s : State) : (s.leaveLine n).freeIndex = s.freeIndex := rfl
@[simp] theorem leaveLine_pending (n : Nat) (s : State) : (s.leaveLine n).pending = s.pending := rfl

/-! ## endExchange -/

@[simp] theorem endExchange_powered (s : State) : s.endExchange.powered = s.powered := rfl
@[simp] theorem endExchange_depot (s : State) : s.endExchange.depot = s.depot := rfl
@[simp] theorem endExchange_buses (s : State) : s.endExchange.buses = s.buses := rfl
@[simp] theorem endExchange_berths (s : State) : s.endExchange.berths = s.berths := rfl
@[simp] theorem endExchange_line (s : State) : s.endExchange.line = { s.line with exchange := none } := rfl
@[simp] theorem endExchange_run (s : State) : s.endExchange.run = s.run := rfl
@[simp] theorem endExchange_alloc (s : State) : s.endExchange.alloc = s.alloc := rfl
@[simp] theorem endExchange_clock (s : State) : s.endExchange.clock = s.clock := rfl
@[simp] theorem endExchange_tickets (s : State) : s.endExchange.tickets = s.tickets := rfl
@[simp] theorem endExchange_pledges (s : State) : s.endExchange.pledges = s.pledges := rfl
@[simp] theorem endExchange_reserve (s : State) : s.endExchange.reserve = s.reserve := rfl
@[simp] theorem endExchange_grid (s : State) : s.endExchange.grid = s.grid := rfl
@[simp] theorem endExchange_attention (s : State) : s.endExchange.attention = s.attention := rfl
@[simp] theorem endExchange_supervision (s : State) : s.endExchange.supervision = s.supervision := rfl
@[simp] theorem endExchange_profile (s : State) : s.endExchange.profile = s.profile := rfl
@[simp] theorem endExchange_store (s : State) : s.endExchange.store = s.store := rfl
@[simp] theorem endExchange_freeIndex (s : State) : s.endExchange.freeIndex = s.freeIndex := rfl
@[simp] theorem endExchange_pending (s : State) : s.endExchange.pending = s.pending := rfl

/-! ## restartSupervision -/

@[simp] theorem restartSupervision_powered (s : State) : s.restartSupervision.powered = s.powered := rfl
@[simp] theorem restartSupervision_depot (s : State) : s.restartSupervision.depot = s.depot := rfl
@[simp] theorem restartSupervision_buses (s : State) : s.restartSupervision.buses = s.buses := rfl
@[simp] theorem restartSupervision_berths (s : State) : s.restartSupervision.berths = s.berths := rfl
@[simp] theorem restartSupervision_line (s : State) : s.restartSupervision.line = s.line := rfl
@[simp] theorem restartSupervision_run (s : State) : s.restartSupervision.run = s.run := rfl
@[simp] theorem restartSupervision_alloc (s : State) : s.restartSupervision.alloc = s.alloc := rfl
@[simp] theorem restartSupervision_clock (s : State) : s.restartSupervision.clock = s.clock := rfl
@[simp] theorem restartSupervision_tickets (s : State) : s.restartSupervision.tickets = s.tickets := rfl
@[simp] theorem restartSupervision_pledges (s : State) : s.restartSupervision.pledges = s.pledges := rfl
@[simp] theorem restartSupervision_reserve (s : State) : s.restartSupervision.reserve = s.reserve := rfl
@[simp] theorem restartSupervision_grid (s : State) : s.restartSupervision.grid = s.grid := rfl
@[simp] theorem restartSupervision_attention (s : State) : s.restartSupervision.attention = s.attention := rfl
@[simp] theorem restartSupervision_supervision (s : State) :
    s.restartSupervision.supervision = { s.supervision.setFor s.profile.supervisionInterval with fallback := false } := rfl
@[simp] theorem restartSupervision_profile (s : State) : s.restartSupervision.profile = s.profile := rfl
@[simp] theorem restartSupervision_store (s : State) : s.restartSupervision.store = s.store := rfl
@[simp] theorem restartSupervision_freeIndex (s : State) : s.restartSupervision.freeIndex = s.freeIndex := rfl
@[simp] theorem restartSupervision_pending (s : State) : s.restartSupervision.pending = s.pending := rfl

/-! ## statusOut -/

@[simp] theorem statusOut_powered (s : State) : s.statusOut.powered = s.powered := rfl
@[simp] theorem statusOut_depot (s : State) : s.statusOut.depot = { s.depot with overrun := false } := rfl
@[simp] theorem statusOut_buses (s : State) : s.statusOut.buses = s.buses := rfl
@[simp] theorem statusOut_berths (s : State) : s.statusOut.berths = s.berths := rfl
@[simp] theorem statusOut_line (s : State) : s.statusOut.line = s.line := rfl
@[simp] theorem statusOut_run (s : State) : s.statusOut.run = s.run := rfl
@[simp] theorem statusOut_alloc (s : State) : s.statusOut.alloc = s.alloc := rfl
@[simp] theorem statusOut_clock (s : State) : s.statusOut.clock = s.clock := rfl
@[simp] theorem statusOut_tickets (s : State) : s.statusOut.tickets = s.tickets := rfl
@[simp] theorem statusOut_pledges (s : State) : s.statusOut.pledges = s.pledges := rfl
@[simp] theorem statusOut_reserve (s : State) : s.statusOut.reserve = s.reserve := rfl
@[simp] theorem statusOut_grid (s : State) : s.statusOut.grid = s.grid := rfl
@[simp] theorem statusOut_attention (s : State) : s.statusOut.attention = s.attention := rfl
@[simp] theorem statusOut_supervision (s : State) : s.statusOut.supervision = s.supervision := rfl
@[simp] theorem statusOut_profile (s : State) : s.statusOut.profile = s.profile := rfl
@[simp] theorem statusOut_store (s : State) : s.statusOut.store = s.store := rfl
@[simp] theorem statusOut_freeIndex (s : State) : s.statusOut.freeIndex = s.freeIndex := rfl
@[simp] theorem statusOut_pending (s : State) : s.statusOut.pending = s.pending := rfl

/-! ## shifted -/

@[simp] theorem shifted_powered (out : List Byte) (s : State) : (s.shifted out).powered = s.powered := rfl
@[simp] theorem shifted_depot (out : List Byte) (s : State) :
    (s.shifted out).depot = { s.depot with miso := out } := rfl
@[simp] theorem shifted_buses (out : List Byte) (s : State) : (s.shifted out).buses = s.buses := rfl
@[simp] theorem shifted_berths (out : List Byte) (s : State) : (s.shifted out).berths = s.berths := rfl
@[simp] theorem shifted_line (out : List Byte) (s : State) : (s.shifted out).line = s.line := rfl
@[simp] theorem shifted_run (out : List Byte) (s : State) : (s.shifted out).run = s.run := rfl
@[simp] theorem shifted_alloc (out : List Byte) (s : State) : (s.shifted out).alloc = s.alloc := rfl
@[simp] theorem shifted_clock (out : List Byte) (s : State) : (s.shifted out).clock = s.clock := rfl
@[simp] theorem shifted_tickets (out : List Byte) (s : State) : (s.shifted out).tickets = s.tickets := rfl
@[simp] theorem shifted_pledges (out : List Byte) (s : State) : (s.shifted out).pledges = s.pledges := rfl
@[simp] theorem shifted_reserve (out : List Byte) (s : State) : (s.shifted out).reserve = s.reserve := rfl
@[simp] theorem shifted_grid (out : List Byte) (s : State) : (s.shifted out).grid = s.grid := rfl
@[simp] theorem shifted_attention (out : List Byte) (s : State) : (s.shifted out).attention = s.attention := rfl
@[simp] theorem shifted_supervision (out : List Byte) (s : State) : (s.shifted out).supervision = s.supervision := rfl
@[simp] theorem shifted_profile (out : List Byte) (s : State) : (s.shifted out).profile = s.profile := rfl
@[simp] theorem shifted_store (out : List Byte) (s : State) : (s.shifted out).store = s.store := rfl
@[simp] theorem shifted_freeIndex (out : List Byte) (s : State) : (s.shifted out).freeIndex = s.freeIndex := rfl
@[simp] theorem shifted_pending (out : List Byte) (s : State) : (s.shifted out).pending = s.pending := rfl

/-! ## place -/

@[simp] theorem place_powered (bytes : List Byte) (s : State) : (s.place bytes).powered = s.powered := rfl
@[simp] theorem place_depot (bytes : List Byte) (s : State) :
    (s.place bytes).depot = { s.depot with state := .responseWaiting, assembly := none, response := some { bytes := bytes, position := 0 } } := rfl
@[simp] theorem place_buses (bytes : List Byte) (s : State) : (s.place bytes).buses = s.buses := rfl
@[simp] theorem place_berths (bytes : List Byte) (s : State) : (s.place bytes).berths = s.berths := rfl
@[simp] theorem place_line (bytes : List Byte) (s : State) : (s.place bytes).line = s.line := rfl
@[simp] theorem place_run (bytes : List Byte) (s : State) : (s.place bytes).run = s.run := rfl
@[simp] theorem place_alloc (bytes : List Byte) (s : State) : (s.place bytes).alloc = s.alloc := rfl
@[simp] theorem place_clock (bytes : List Byte) (s : State) : (s.place bytes).clock = s.clock := rfl
@[simp] theorem place_tickets (bytes : List Byte) (s : State) : (s.place bytes).tickets = s.tickets := rfl
@[simp] theorem place_pledges (bytes : List Byte) (s : State) : (s.place bytes).pledges = s.pledges := rfl
@[simp] theorem place_reserve (bytes : List Byte) (s : State) : (s.place bytes).reserve = s.reserve := rfl
@[simp] theorem place_grid (bytes : List Byte) (s : State) : (s.place bytes).grid = s.grid := rfl
@[simp] theorem place_attention (bytes : List Byte) (s : State) : (s.place bytes).attention = s.attention := rfl
@[simp] theorem place_supervision (bytes : List Byte) (s : State) : (s.place bytes).supervision = s.supervision := rfl
@[simp] theorem place_profile (bytes : List Byte) (s : State) : (s.place bytes).profile = s.profile := rfl
@[simp] theorem place_store (bytes : List Byte) (s : State) : (s.place bytes).store = s.store := rfl
@[simp] theorem place_freeIndex (bytes : List Byte) (s : State) : (s.place bytes).freeIndex = s.freeIndex := rfl
@[simp] theorem place_pending (bytes : List Byte) (s : State) : (s.place bytes).pending = s.pending := rfl

end Sys2Proof.Machine
end

