-- ==== Sys2Proof/Laws/Settle.lean ====
section
/-! SUPPORT. The end of an event: `closeEvent` gives `Settles`, one lemma for each operation it is made of, and
when it leaves a pass requested. -/

namespace Sys2Proof.Machine

/-! ## Outcomes -/

@[simp] theorem ifPowered_on (f : State → State) (s : State) (h : s.powered = true) : ifPowered f s = .next (f s) := by
  simp [ifPowered, h]

@[simp] theorem ifPowered_off (f : State → State) (s : State) (h : s.powered = false) : ifPowered f s = .next s := by
  simp [ifPowered, h]

/-! ## Withdrawal of export -/

/-- The berths after a list of withdrawals, each naming a berth and the bus it must hold. -/
def withdrawAll (s : State) (l : List (Nat × Nat)) (b : Berth) : Berth :=
  if b.decided < 0 ∧ l.any (fun x => x.1 == b.number && b.busOccupant == some x.2) = true then
    b.setTarget (s.grantInFlight b.number) 0 0
  else b

@[simp] theorem setTarget_number (f : Bool) (w d : Int) (b : Berth) : (b.setTarget f w d).number = b.number := rfl
@[simp] theorem setTarget_decided (f : Bool) (w d : Int) (b : Berth) : (b.setTarget f w d).decided = d := rfl
@[simp] theorem setTarget_wanted (f : Bool) (w d : Int) (b : Berth) : (b.setTarget f w d).wanted = w := rfl
@[simp] theorem setTarget_state (f : Bool) (w d : Int) (b : Berth) : (b.setTarget f w d).state = b.state := rfl
@[simp] theorem setTarget_occupant (f : Bool) (w d : Int) (b : Berth) : (b.setTarget f w d).occupant = b.occupant := rfl
@[simp] theorem setTarget_busOccupant (f : Bool) (w d : Int) (b : Berth) :
    (b.setTarget f w d).busOccupant = b.busOccupant := rfl

/-- One withdrawal touches the berths alone. -/
theorem withdrawExport_spec (n k : Nat) (s : State) :
    s.withdrawExport n k = { s with berths := s.berths.map (withdrawAll s [(n, k)]) } := by
  unfold State.withdrawExport State.updBerth updateKey
  congr 1
  refine List.map_congr_left fun b _ => ?_
  unfold withdrawAll
  by_cases h : b.number = n
  · subst h
    simp [and_comm]
  · have h' : ¬ n = b.number := fun e => h e.symm
    simp [h, h']

/-- Any number of withdrawals, said at once. -/
theorem withdrawFold_spec (l : List (Nat × Nat)) (s : State) :
    l.foldl (fun t x => t.withdrawExport x.1 x.2) s = { s with berths := s.berths.map (withdrawAll s l) } := by
  induction l generalizing s with
  | nil =>
    have h : withdrawAll s [] = id := funext fun b => by simp [withdrawAll]
    rw [h, List.map_id]
    rfl
  | cons x xs ih =>
    rw [List.foldl_cons, ih, withdrawExport_spec]
    congr 1
    rw [List.map_map]
    refine List.map_congr_left fun b _ => ?_
    show withdrawAll { s with berths := _ } xs (withdrawAll s [x] b) = withdrawAll s (x :: xs) b
    by_cases hd : b.decided < 0
    · by_cases hx : (x.1 == b.number && b.busOccupant == some x.2) = true
      · have h1 : withdrawAll s [x] b = b.setTarget (s.grantInFlight b.number) 0 0 := by
          unfold withdrawAll
          rw [if_pos ⟨hd, by simpa using hx⟩]
        have h2 : withdrawAll s (x :: xs) b = b.setTarget (s.grantInFlight b.number) 0 0 := by
          unfold withdrawAll
          rw [if_pos ⟨hd, by rw [List.any_cons, hx, Bool.true_or]⟩]
        rw [h1, h2]
        simp [withdrawAll]
      · have hx' := Bool.eq_false_iff.mpr hx
        have h1 : withdrawAll s [x] b = b := by
          unfold withdrawAll
          rw [if_neg (by simp only [List.any_cons, hx', List.any_nil]; simp)]
        rw [h1]
        unfold withdrawAll
        rw [List.any_cons, hx', Bool.false_or]
        rfl
    · have h1 : ∀ l, withdrawAll s l b = b := fun l => by
        unfold withdrawAll
        rw [if_neg (fun h => hd h.1)]
      rw [h1, h1]
      unfold withdrawAll
      rw [if_neg (fun h => hd h.1)]

/-! ## The bus table's part -/

/-- The withdrawals of `refreshBuses` are those of `State.withdrawn`. -/
theorem withdrawAll_eq_withdrawn (s d : State) (hl : d.line = s.line) :
    withdrawAll d (s.buses.filterMap s.lostExport) = s.withdrawn := by
  funext b
  have hg : d.grantInFlight = s.grantInFlight := funext fun n => by unfold State.grantInFlight; rw [hl]
  have hany : (s.buses.filterMap s.lostExport).any (fun x => x.1 == b.number && b.busOccupant == some x.2)
      = s.losesExport b := by
    unfold State.losesExport
    rw [List.any_filterMap]
    congr 1
    funext x
    have hs : ∀ y, s.lostExport x = some y → y.2 = x.fleet := by
      intro y hy
      unfold State.lostExport at hy
      split at hy
      · rw [Option.map_eq_some_iff] at hy
        obtain ⟨_, _, rfl⟩ := hy
        rfl
      · cases hy
    cases hy : s.lostExport x with
    | none => rfl
    | some y =>
      obtain ⟨n, k⟩ := y
      obtain rfl : k = x.fleet := hs _ hy
      have h : ((n, x.fleet) == (b.number, x.fleet)) = (n == b.number) := by
        by_cases h : n = b.number <;> simp [h]
      show ((n == b.number) && _) = ((some (n, x.fleet) == some (b.number, x.fleet)) && _)
      rw [Option.some_beq_some, h]
  unfold withdrawAll State.withdrawn
  rw [hany, hg]

/-- What `refreshBuses` does: derived fields, withdrawals, and possibly a request for a pass. -/
theorem refreshBuses_spec (s : State) :
    s.refreshBuses =
      { s with
        buses := s.buses.map s.deriveBus
        berths := s.berths.map s.withdrawn
        alloc := { s.alloc with passRequested := s.alloc.passRequested || s.demandChanged } } := by
  unfold State.refreshBuses
  simp only [withdrawFold_spec]
  rw [withdrawAll_eq_withdrawn s { s with buses := s.buses.map s.deriveBus } rfl]
  unfold State.demandChanged
  split
  · rename_i h
    simp [State.requestPass, h]
  · rename_i h
    simp [Bool.eq_false_iff.mpr h]

/-! ## The ticket table's part -/

/-- Grading reads the buses, the berths and the clock alone. -/
theorem gradeTicket_congr {s t : State} (hb : t.buses = s.buses) (hr : t.berths = s.berths) (hc : t.clock = s.clock)
    (x : Ticket) : t.gradeTicket x = s.gradeTicket x := by
  have hbus : t.bus? = s.bus? := funext fun k => by simp [State.bus?, hb]
  have hberth : t.berthOf = s.berthOf := funext fun b => by unfold State.berthOf State.berth?; rw [hr]
  have hnow : t.now = s.now := by simp [State.now, hc]
  simp [State.gradeTicket, hbus, hberth, hnow]

/-- Deriving a bus's fields reads the tickets, the berths, the clock and the profile alone. -/
theorem deriveBus_congr {s t : State} (ht : t.tickets = s.tickets) (hr : t.berths = s.berths) (hc : t.clock = s.clock)
    (hp : t.profile = s.profile) (b : Bus) : t.deriveBus b = s.deriveBus b := by
  have hticket : t.ticketOf = s.ticketOf := funext fun b => by unfold State.ticketOf State.ticket?; rw [ht]
  have hberth : t.berthOf = s.berthOf := funext fun b => by unfold State.berthOf State.berth?; rw [hr]
  have hnow : t.now = s.now := by simp [State.now, hc]
  simp [State.deriveBus, hticket, hberth, hnow, hp]

/-- Bringing the yield list up to date reads the buses, the tickets, the pledges, the clock and the list alone. -/
theorem updatedYields_congr {s t : State} (hb : t.buses = s.buses) (ht : t.tickets = s.tickets)
    (hp : t.pledges = s.pledges) (hc : t.clock = s.clock) (hy : t.reserve.yieldList = s.reserve.yieldList)
    (risk : List Nat) : t.updatedYields risk = s.updatedYields risk := by
  have hbus : t.bus? = s.bus? := funext fun k => by unfold State.bus?; rw [hb]
  have hticket : t.ticket? = s.ticket? := funext fun k => by unfold State.ticket?; rw [ht]
  have hnow : t.now = s.now := by unfold State.now; rw [hc]
  have hq : t.qualifies = s.qualifies := funext fun x => by unfold State.qualifies; rw [hnow, hbus, hp]
  have hk : t.keepsEntry = s.keepsEntry := funext fun e => by unfold State.keepsEntry; rw [hticket, hq]
  have hu : t.topUp risk = s.topUp risk := funext fun e => by unfold State.topUp; rw [hticket, hnow]
  have hn : t.newEntries = s.newEntries := funext fun e => by unfold State.newEntries; rw [ht, hq, hnow]
  have he : t.capEntry = s.capEntry := funext fun e => by unfold State.capEntry; rw [hticket, hbus]
  unfold State.updatedYields
  rw [hk, hu, hn, he, hy]

/-- Finding the tickets newly AT_RISK reads the buses, the berths, the tickets and the clock alone. -/
theorem newlyAtRisk_congr {s t : State} (hb : t.buses = s.buses) (hr : t.berths = s.berths) (ht : t.tickets = s.tickets)
    (hc : t.clock = s.clock) : t.newlyAtRisk = s.newlyAtRisk := by
  have hg : t.gradeTicket = s.gradeTicket := funext fun x => gradeTicket_congr hb hr hc x
  unfold State.newlyAtRisk
  rw [ht, hg]

/-- The import ceiling reads the run state, the grid line monitor, the profile, the base load and the pledge table. -/
theorem importCeilingNow_congr {s t : State} (hr : t.run.state = s.run.state) (hg : t.grid = s.grid)
    (hp : t.profile = s.profile) (hb : t.alloc.baseLoad = s.alloc.baseLoad) (hl : t.pledges = s.pledges)
    (hv : t.reserve = s.reserve) : t.importCeilingNow = s.importCeilingNow := by
  simp [State.importCeilingNow, State.heldAtZero, State.stopInForce, State.tripInForce, State.curtailTerm,
    State.feederTerm, hr, hg, hp, hb, hl, hv]

/-- The export ceiling reads the run state, the grid line monitor, the profile and the export commitment. -/
theorem exportCeilingNow_congr {s t : State} (hr : t.run.state = s.run.state) (hg : t.grid = s.grid)
    (hp : t.profile = s.profile) (hv : t.reserve = s.reserve) : t.exportCeilingNow = s.exportCeilingNow := by
  simp [State.exportCeilingNow, State.heldAtZero, State.stopInForce, hr, hg, hp, hv]

/-- What `settleTickets` does: grades, TICKET_AT_RISK, and the yield list where a ticket is handed on. -/
theorem settleTickets_spec (s before : State) :
    s.settleTickets before =
      { s with
        tickets := s.tickets.map s.gradeTicket
        attention :=
          { s.attention with
            flags :=
              if s.newlyAtRisk.isEmpty then s.attention.flags
              else s.attention.flags ||| causeBit Cause.ticketAtRisk.number }
        reserve :=
          if handOnView before.tickets = handOnView (s.tickets.map s.gradeTicket) then s.reserve
          else
            { s.reserve with
              yieldList := ({ s with tickets := s.tickets.map s.gradeTicket } : State).updatedYields s.newlyAtRisk
              readinessYield :=
                readinessYield
                  (({ s with tickets := s.tickets.map s.gradeTicket } : State).updatedYields s.newlyAtRisk) s.pledges } } := by
  have hr : s.regrade =
      { s with
        tickets := s.tickets.map s.gradeTicket
        attention :=
          { s.attention with
            flags :=
              if s.newlyAtRisk.isEmpty then s.attention.flags
              else s.attention.flags ||| causeBit Cause.ticketAtRisk.number } } := by
    unfold State.regrade State.raiseIf
    cases h : s.newlyAtRisk.isEmpty <;> rfl
  unfold State.settleTickets
  by_cases hv : handOnView before.tickets = handOnView (s.tickets.map s.gradeTicket)
  · have : (handOnView before.tickets != handOnView s.regrade.tickets) = false := by
      rw [hr]
      simpa using hv
    rw [if_pos hv]
    dsimp only
    rw [this, hr]
    rfl
  · have : (handOnView before.tickets != handOnView s.regrade.tickets) = true := by
      rw [hr]
      simpa using hv
    rw [if_neg hv]
    dsimp only
    rw [this, if_pos rfl]
    have hu : s.regrade.updatedYields s.newlyAtRisk =
        ({ s with tickets := s.tickets.map s.gradeTicket } : State).updatedYields s.newlyAtRisk := by
      rw [hr]
      exact updatedYields_congr rfl rfl rfl rfl rfl _
    unfold State.updateYield
    simp only [hu]
    rw [hr]

/-! ## The end of an event -/

/-- What `finishEvent` does. -/
theorem finishEvent_spec (s before : State) :
    s.finishEvent before =
      { s.handCommitments.recomputeCeilings with
        attention :=
          { s.attention with armed := s.attention.armed || (before.faultedCount != 0 && s.faultedCount == 0) }
        alloc :=
          { s.handCommitments.recomputeCeilings.alloc with
            passRequested := s.alloc.passRequested || before.passDue s.handCommitments.recomputeCeilings } } := by
  have harm : (s.handCommitments.recomputeCeilings).rearmEpisode before =
      { s.handCommitments.recomputeCeilings with
        attention :=
          { s.attention with armed := s.attention.armed || (before.faultedCount != 0 && s.faultedCount == 0) } } := by
    unfold State.rearmEpisode
    split
    · rename_i h
      have hf : s.faultedCount = 0 := h.2
      have hb : (before.faultedCount != 0) = true := bne_iff_ne.mpr h.1
      rw [hf, hb]
      simp [State.handCommitments, State.recomputeCeilings]
    · rename_i h
      have hf : (before.faultedCount != 0 && s.faultedCount == 0) = false := by
        by_contra hc
        rw [Bool.not_eq_false, Bool.and_eq_true, bne_iff_ne, beq_iff_eq] at hc
        exact h hc
      rw [hf]
      simp [State.handCommitments, State.recomputeCeilings]
  unfold State.finishEvent
  rw [harm]
  unfold State.raisePasses
  split
  · rename_i h
    have hd : before.passDue s.handCommitments.recomputeCeilings = true := h
    rw [hd, Bool.or_true]
    rfl
  · rename_i h
    have hd : before.passDue s.handCommitments.recomputeCeilings = false := Bool.eq_false_iff.mpr h
    rw [hd, Bool.or_false]
    rfl

/-- The end of an event, said once: `closeEvent` settles what its owners have left. -/
theorem closeEvent_settles (before post : State) : Settles before post (post.closeEvent before) := by
  unfold State.closeEvent
  rw [finishEvent_spec, settleTickets_spec, refreshBuses_spec]
  refine ⟨⟨rfl, rfl, rfl, rfl, rfl, rfl, rfl, rfl, rfl, rfl, rfl, rfl, rfl⟩, rfl, rfl, rfl, ?_, ⟨rfl, rfl⟩, ⟨rfl, rfl, rfl⟩,
    ⟨rfl, rfl⟩, rfl⟩
  by_cases hv : handOnView before.tickets = handOnView (post.tickets.map (State.gradeTicket
      { post with
        buses := post.buses.map post.deriveBus
        berths := post.berths.map post.withdrawn
        alloc := { post.alloc with passRequested := post.alloc.passRequested || post.demandChanged } }))
  · rw [if_pos hv]
    exact Eq.mpr (if_pos hv) ⟨rfl, rfl⟩
  · rw [if_neg hv]
    exact Eq.mpr (if_neg hv) ⟨updatedYields_congr rfl rfl rfl rfl rfl _, rfl⟩

/-! ## What an event hands on -/

/-- Two lists agree under `f` and `g` exactly where they have one length and no pair of their members differs. -/
theorem map_eq_map_iff_zip {α β γ : Type} (f : α → γ) (g : β → γ) (l : List α) (m : List β) :
    l.map f = m.map g ↔ l.length = m.length ∧ ∀ z ∈ l.zip m, f z.1 = g z.2 := by
  induction l generalizing m with
  | nil => cases m <;> simp
  | cons a l ih =>
    cases m with
    | nil => simp
    | cons b m => simp [ih, and_left_comm]

/-- R17: a bus shows a change that raises a pass exactly where one of the fields that R17 names has changed. -/
theorem busPassView_ne_iff (x y : Bus) :
    y.passView ≠ x.passView ↔
      y.thermal ≠ x.thermal ∨ y.charge ≠ x.charge ∨ y.exportEligible ≠ x.exportEligible ∨ y.state ≠ x.state
        ∨ y.berth ≠ x.berth ∨ y.ticket ≠ x.ticket ∨ y.held ≠ x.held ∨ y.capacity ≠ x.capacity := by
  simp only [Bus.passView, Bus.demandView, ne_eq, Prod.mk.injEq, not_and_or, or_assoc]

/-- R80: a pass is due exactly where a change that R17, R40 or R76 to R78 names has been made. -/
theorem passDue_iff (before t : State) : before.passDue t = true ↔ before.raisesPass t := by
  have hb : busesChanged before t = true ↔ ∃ y ∈ t.buses, ∃ x, before.bus? y.fleet = some x
      ∧ (y.thermal ≠ x.thermal ∨ y.charge ≠ x.charge ∨ y.exportEligible ≠ x.exportEligible ∨ y.state ≠ x.state
        ∨ y.berth ≠ x.berth ∨ y.ticket ≠ x.ticket ∨ y.held ≠ x.held ∨ y.capacity ≠ x.capacity) := by
    unfold busesChanged
    rw [List.any_eq_true]
    refine exists_congr fun y => and_congr_right fun _ => ?_
    cases h : before.bus? y.fleet with
    | none => simp
    | some x => simp only [bne_iff_ne, busPassView_ne_iff, Option.some.injEq, exists_eq_left']
  have hr : berthsChanged before t = true ↔
      t.berths.map Berth.number ≠ before.berths.map Berth.number
      ∨ ∃ z ∈ before.berths.zip t.berths,
          z.2.state ≠ z.1.state ∨ z.2.occupant ≠ z.1.occupant ∨ z.2.foreignReason ≠ z.1.foreignReason
            ∨ z.2.faultCause ≠ z.1.faultCause ∨ z.2.reported ≠ z.1.reported
            ∨ z.2.foreignDemand t.profile ≠ z.1.foreignDemand before.profile := by
    unfold berthsChanged
    rw [bne_iff_ne, ne_eq, map_eq_map_iff_zip, ne_comm, ne_eq (List.map _ _), map_eq_map_iff_zip]
    by_cases hl : before.berths.length = t.berths.length
    · simp only [hl, true_and, not_forall, exists_prop, ← exists_or, ← and_or_left]
      refine exists_congr fun z => and_congr_right fun _ => ?_
      simp only [Berth.passView, Prod.mk.injEq, ne_eq, @eq_comm _ z.1.state, @eq_comm _ z.1.occupant,
        @eq_comm _ z.1.foreignReason, @eq_comm _ z.1.faultCause, @eq_comm _ z.1.reported,
        @eq_comm _ (z.1.foreignDemand _)]
      tauto
    · simp [hl]
  have hf : (before.feederView != t.feederView) = true ↔
      t.alloc.baseLoad ≠ before.alloc.baseLoad
      ∨ t.alloc.importCeiling ≠ before.alloc.importCeiling ∨ t.alloc.binding ≠ before.alloc.binding
      ∨ t.alloc.exportCeiling ≠ before.alloc.exportCeiling
      ∨ t.reserve.curtailCommitment ≠ before.reserve.curtailCommitment
      ∨ t.reserve.exportCommitment ≠ before.reserve.exportCommitment
      ∨ t.reserve.readinessYield ≠ before.reserve.readinessYield := by
    rw [bne_iff_ne, ne_comm]
    simp only [State.feederView, ne_eq, Prod.mk.injEq, not_and_or, or_assoc]
  unfold State.passDue State.raisesPass
  rw [Bool.or_eq_true, Bool.or_eq_true, hb, hr, hf, or_assoc, or_assoc]

/-- R80: an event that makes such a change leaves a pass requested. -/
theorem Settles.requests_pass {before post t : State} (h : Settles before post t) (hr : before.raisesPass t) :
    t.alloc.passRequested = true := by
  obtain ⟨_, _, _, _, _, _, _, _, hp⟩ := h
  rw [hp, (passDue_iff before t).mpr hr, Bool.or_true]

/-- R80: an event that leaves a pass requested found it so, changed what demand or eligibility shows, or made such a change. -/
theorem Settles.pass_requested_iff {before post t : State} (h : Settles before post t) :
    t.alloc.passRequested = true ↔
      post.alloc.passRequested = true ∨ post.demandChanged = true ∨ before.raisesPass t := by
  obtain ⟨_, _, _, _, _, _, _, _, hp⟩ := h
  rw [hp, Bool.or_eq_true, Bool.or_eq_true, passDue_iff, or_assoc]

@[simp] theorem releasedBy_none (s : State) (x : Ticket) : s.releasedBy none x = false := by
  simp [State.releasedBy]

@[simp] theorem ticketUnplugged_none (s t : State) (x : Ticket) : s.ticketUnplugged t none x = t.gradeTicket x := by
  simp [State.ticketUnplugged]

@[simp] theorem busUnplugged_fleet (s : State) (x : Bus) : (s.busUnplugged x).fleet = x.fleet := rfl
@[simp] theorem busUnplugged_held (s : State) (x : Bus) : (s.busUnplugged x).held = x.held := rfl
@[simp] theorem busUnplugged_freshness (s : State) (x : Bus) : (s.busUnplugged x).freshness = x.freshness := rfl

end Sys2Proof.Machine
end

