-- ==== Sys2Proof/Laws/Requests.lean ====
section
/-! SUPPORT. A request, said once: what `State.request` does in each link state, and that an owner's settled answer gives
`AnsweredDone`. -/

namespace Sys2Proof.Machine

/-- Restarting the timer sets it from the interval and ends fallback. -/
theorem restartSupervision_eq (s : State) : s.restartSupervision = { s with supervision := s.restarted } := by
  unfold State.restartSupervision State.restarted Supervision.setFor
  split <;> rfl

/-- A request that the link carries and that is well formed is answered by its owner. -/
theorem request_owner (h : RequestHead) (r : Request) (s : State) (hl : s.linkBusy = false) (hb : r.body.length ≤ 1024)
    (hf : r.formOk = true) (hs : r ≠ .control .saveProfile) :
    s.request h r =
      ((s.begun.owner r).respond h).shifted
        ((if r.body.length ≤ 56 then s else s.midRequest).requestOut r.body.length) := by
  have hl' : s.statusOut.linkBusy = false := hl
  have hb' : ¬ 1024 < r.body.length := by omega
  unfold State.request
  simp only [hl', hb', if_false, Bool.false_eq_true]
  unfold State.dispatch
  simp only [hf, if_true, State.serve, hs, if_false, restartSupervision_eq]
  rfl

/-- A well-formed SAVE_PROFILE that the link carries begins a write. -/
theorem request_saveProfile (h : RequestHead) (s : State) (hl : s.linkBusy = false) :
    s.request h (.control .saveProfile) = (s.begun.beginSave h).shifted (s.requestOut 1) := by
  have hl' : s.statusOut.linkBusy = false := hl
  unfold State.request
  simp only [hl', if_false, Bool.false_eq_true]
  unfold State.dispatch
  simp only [State.serve, restartSupervision_eq]
  rfl

/-- A request whose form fails the head check gets BAD_REQUEST, and changes nothing else. -/
theorem request_badForm (h : RequestHead) (r : Request) (s : State) (hl : s.linkBusy = false)
    (hb : r.body.length ≤ 1024) (hf : r.formOk = false) :
    s.request h r = s.replied h r.body.length .badRequest 0 [] := by
  have hl' : s.statusOut.linkBusy = false := hl
  have hb' : ¬ 1024 < r.body.length := by omega
  unfold State.request
  simp only [hl', hb', if_false, Bool.false_eq_true]
  unfold State.dispatch
  simp only [hf, if_false, restartSupervision_eq, Bool.false_eq_true]
  rfl

/-- A request the link cannot carry is discarded, with OVERRUN and LINK_OVERRUN. -/
theorem request_discarded (h : RequestHead) (r : Request) (s : State) (hl : s.linkBusy = true) :
    s.request h r =
      s.statusOut.discardSend.shifted
        ((if r.body.length ≤ 56 then s else s.statusOut.discardSend).requestOut r.body.length) := by
  have hl' : s.statusOut.linkBusy = true := hl
  unfold State.request
  simp only [hl', if_true]

/-- An owner that answers with a status and a body and changes nothing gives `State.replied`. -/
theorem respond_replied (s : State) (h : RequestHead) (n : Nat) (st : Status) (f : Nat) (body : List Byte) :
    (({ status := st, failing := f, body := body, state := s.begun } : Answer).respond h).shifted
      ((if n ≤ 56 then s else s.midRequest).requestOut n) = s.replied h n st f body := rfl

/-- The end of an event reads and writes nothing of the depot link and the timer. -/
theorem Settles.withDepot {before before' post t : State} (h : Settles before post t) (d : DepotLink)
    (hb : before'.tickets = before.tickets) (hs : before'.buses = before.buses) (hr : before'.berths = before.berths)
    (hp : before'.profile = before.profile) (ha : before'.alloc = before.alloc) (hv : before'.reserve = before.reserve) :
    Settles before' { post with depot := d } { t with depot := d } := by
  obtain ⟨⟨h1, _, h3⟩, hbus, hberth, htick, hy, hc, hce, hat, hpa⟩ := h
  have hf : before'.faultedCount = before.faultedCount := by unfold State.faultedCount; rw [hr]
  have hrisk : State.newRisk { post with depot := d } { t with depot := d } = post.newRisk t :=
    newlyAtRisk_congr rfl rfl rfl rfl
  have hview : before'.feederView = before.feederView := by unfold State.feederView; rw [ha, hv]
  have hdue : before'.passDue { t with depot := d } = before.passDue t := by
    have hbc : busesChanged before' { t with depot := d } = busesChanged before t := by
      unfold busesChanged State.bus?
      rw [hs]
    have hrc : berthsChanged before' { t with depot := d } = berthsChanged before t := by
      unfold berthsChanged
      rw [hr, hp]
    unfold State.passDue
    rw [hbc, hrc, hview]
    rfl
  refine ⟨⟨h1, rfl, h3⟩, hbus, hberth, htick, ?_, hc, hce, ?_, ?_⟩
  · unfold State.yieldsSettled at hy ⊢
    rw [hb, hrisk]
    split at hy
    · rename_i hv'
      rw [if_pos (show handOnView before.tickets = handOnView t.tickets from hv')]
      exact hy
    · rename_i hv'
      rw [if_neg (show ¬ handOnView before.tickets = handOnView t.tickets from hv')]
      refine ⟨hy.1.trans (updatedYields_congr rfl rfl rfl rfl rfl _), hy.2⟩
  · unfold State.attentionSettled at hat ⊢
    rw [hrisk, hf]
    exact hat
  · rw [hdue]
    exact hpa

/-- A settled answer of an owner, placed as the response, is an `AnsweredDone`. -/
theorem settled_answered (s post : State) (h : RequestHead) (n : Nat) (body : State → List Byte)
    (hd : post.depot = s.begun.depot) (hsv : post.supervision = s.restarted)
    (hbody : ∀ (u : State) (d : DepotLink), body { u with depot := d } = body u) :
    AnsweredDone s h n post body
      (((State.settled s.begun post body).respond h).shifted ((if n ≤ 56 then s else s.midRequest).requestOut n)) := by
  have hset := (closeEvent_settles s.begun post).withDepot (before' := s)
    (s.answered h n .done 0 (body (post.closeEvent s.begun))) rfl rfl rfl rfl rfl rfl
  have he : ((State.settled s.begun post body).respond h).shifted ((if n ≤ 56 then s else s.midRequest).requestOut n)
      = { post.closeEvent s.begun with depot := s.answered h n .done 0 (body (post.closeEvent s.begun)) } := by
    have hdep : (post.closeEvent s.begun).depot = s.begun.depot := by
      rw [← hd]
      exact (closeEvent_settles s.begun post).1.2.1
    unfold State.settled Answer.respond accept State.place State.shifted State.answered
    simp only [hdep]
    rfl
  rw [he]
  unfold AnsweredDone
  rw [hbody, ← hsv]
  exact hset

end Sys2Proof.Machine
end

