-- ==== Sys2Proof/Laws/Runs.lean ====
section
/-! SUPPORT. Depot time, characters, changes of run state, the end of a round and a second, each said once: what `minutesFrom`,
`readChar`, `State.setRun`, `State.testStarting`, `State.pollEnded` and `State.countSecond` give, for proofs to cite in place
of their definitions. -/

namespace Sys2Proof.Machine

/-! ## Depot time (R97) -/

/-- The three ways in which two depot times stand to each other, with the minutes between them. -/
theorem minutesFrom_cases (a b : Nat) :
    (a / 1440 = 65535 ∧ b / 1440 = 0 ∧ minutesFrom a b = (b : Int) + 94371840 - a)
      ∨ (a / 1440 = 0 ∧ b / 1440 = 65535 ∧ minutesFrom a b = (b : Int) - 94371840 - a)
      ∨ (¬ (a / 1440 = 65535 ∧ b / 1440 = 0) ∧ ¬ (a / 1440 = 0 ∧ b / 1440 = 65535) ∧ minutesFrom a b = (b : Int) - a) := by
  unfold minutesFrom
  by_cases h : a / 1440 = 65535 ∧ b / 1440 = 0
  · exact .inl ⟨h.1, h.2, if_pos h⟩
  · by_cases h' : a / 1440 = 0 ∧ b / 1440 = 65535
    · exact .inr (.inl ⟨h'.1, h'.2, by rw [if_neg h, if_pos h']⟩)
    · exact .inr (.inr ⟨h, h', by rw [if_neg h, if_neg h']⟩)

/-- The minutes back are the minutes there, negated. -/
theorem minutesFrom_swap (a b : Nat) : minutesFrom b a = -minutesFrom a b := by
  have := minutesFrom_cases a b
  have := minutesFrom_cases b a
  omega

@[simp] theorem minutesFrom_self (a : Nat) : minutesFrom a a = 0 := by
  have := minutesFrom_cases a a
  omega

/-- The minutes to the next minute are one, across the wrap of R98 too. -/
theorem minutesFrom_next (time : DepotMoment) (hm : time.minute < 1440) (hd : time.day < 65536) :
    minutesFrom time.total time.next.total = 1 := by
  have := minutesFrom_cases time.total time.next.total
  revert this
  unfold DepotMoment.next
  split
  · simp only [DepotMoment.total]; omega
  · split
    · simp only [DepotMoment.total]; omega
    · have hd : time.day = 65535 := by omega
      have hm : time.minute = 1439 := by omega
      simp only [DepotMoment.total, hd, hm]
      decide

theorem earlier_iff (a b : Nat) : earlier a b = true ↔ 0 < minutesFrom a b := by simp [earlier]

/-- Of two depot times at most one is the earlier. -/
theorem earlier_asymm {a b : Nat} (h : earlier a b = true) : earlier b a = false := by
  rw [earlier_iff] at h
  simp [earlier, minutesFrom_swap a b]
  omega

/-! ## Characters of the berth link (R42) -/

/-- A character sent is read back, with no framing error. -/
theorem readChar_charLevels (c : TxChar) :
    readChar (charLevels c) = some { byte := c.byte, mark := c.mark, framingError := false } := by
  obtain ⟨byte, mark⟩ := c
  have hb : byteOfLevels ((List.range 8).map fun i => bitLevel (byte.getLsbD i)) = byte := by
    revert byte; decide +kernel
  have hm : (bitLevel mark == BitLevel.mark) = mark := by cases mark <;> rfl
  simp only [List.range, List.range.loop, List.map] at hb
  simp only [charLevels, readChar, List.range, List.range.loop, List.map, List.cons_append, List.nil_append, hb, hm]
  rfl

/-! ## Changes of run state (R63, R79) -/

/-- Setting the run state that stands changes nothing. -/
theorem setRun_same (s : State) : s.setRun s.run.state = s := by simp [State.setRun]

/-- Any other run state is set, raises a pass and, out of RUNNING, sets every target to 0. -/
theorem setRun_of_ne {r : RunState} {s : State} (h : s.run.state ≠ r) :
    s.setRun r =
      { s with
        run := { s.run with state := r }
        berths :=
          if s.run.state = .running then s.berths.map fun b => b.setTarget (s.grantInFlight b.number) 0 0 else s.berths
        alloc := { s.alloc with passRequested := true } } := by
  simp only [State.setRun, if_neg h]
  split <;> simp_all [State.zeroTargets, State.requestPass, State.grantInFlight]

@[simp] theorem setRun_state (r : RunState) (s : State) : (s.setRun r).run.state = r := by
  by_cases h : s.run.state = r
  · subst h; rw [setRun_same]
  · rw [setRun_of_ne h]

@[simp] theorem setRun_line (r : RunState) (s : State) : (s.setRun r).line = s.line := by
  by_cases h : s.run.state = r
  · subst h; rw [setRun_same]
  · rw [setRun_of_ne h]

/-! ## The end of STARTING and of a round (R49 to R51, R66) -/

/-- R66's test leaves what `startingTested` writes out. -/
theorem testStarting_eq (s : State) : s.testStarting = s.startingTested := by
  unfold State.testStarting State.startingTested
  by_cases h : s.run.state = .starting ∧ s.run.holdExpired = true ∧ s.line.firstRound = true
  · rw [if_pos h, if_pos h]
    have hr : s.run.state = .starting := h.1
    by_cases hs : s.line.meterMiss = 3 <;> by_cases hm : s.profile.meterSilentAbort <;>
      by_cases ho : s.run.overdraw = 3 <;> by_cases hd : s.profile.overdrawAbort <;>
      by_cases hh : s.run.hostPause <;> by_cases ht : s.run.thermalPause <;>
      simp [State.endStarting, State.presentCause, State.causePresent, State.causeEnabled, State.meterSilent,
        State.abortRun, State.raiseCause, setRun_of_ne, hs, hm, ho, hd, hh, ht, hr]
  · rw [if_neg h, if_neg h]

theorem completeRound_eq (s : State) : s.completeRound = s.roundCompleted := by
  unfold State.completeRound State.roundCompleted
  rw [testStarting_eq]

/-- The end of a poll leaves what `roundEnded` writes out. -/
theorem pollEnded_eq (a : Nat) (s : State) : s.pollEnded a = s.roundEnded a := by
  unfold State.pollEnded State.roundEnded State.roundEndsAt
  rw [completeRound_eq]
  by_cases ho : s.line.roundOpen = true <;> by_cases ha : a = 0 <;> simp [ho, ha]

/-! ## A second of the internal time base -/

/-- R66, R98, R160: when each timer runs out with a second. -/
theorem timerDue_eq (s : State) (k : TimerKind) :
    s.timerDue k = match k with
      | .hold => s.run.holdTimer.any fun r => decide (r ≤ 1)
      | .supervision => decide (s.supervision.condition = .counting ∧ s.supervision.remaining ≤ 1)
      | .minute => decide (s.clock.time.isSome ∧ 59 ≤ s.clock.seconds) := by
  cases k
  · cases h : s.run.holdTimer <;> simp [State.timerDue, h]
  · rw [Bool.eq_iff_iff]
    simp [State.timerDue]
  · rw [Bool.eq_iff_iff]
    simp [State.timerDue]

/-- What counting a second does: it lowers the two timers that run and hold more than one second, and raises a seconds count
below 59 of a SET clock. -/
theorem countSecond_eq (s : State) :
    s.countSecond =
      { s with
        run := { s.run with holdTimer := s.run.holdTimer.map fun r => if r ≤ 1 then r else r - 1 }
        supervision :=
          if s.supervision.condition = .counting ∧ 1 < s.supervision.remaining then
            { s.supervision with remaining := s.supervision.remaining - 1 }
          else s.supervision
        clock :=
          if s.clock.time.isSome ∧ s.clock.seconds < 59 then { s.clock with seconds := s.clock.seconds + 1 }
          else s.clock } := by
  have hrun : (if s.timerDue .hold then s.run else { s.run with holdTimer := s.run.holdTimer.map fun r => r - 1 })
      = { s.run with holdTimer := s.run.holdTimer.map fun r => if r ≤ 1 then r else r - 1 } := by
    rw [timerDue_eq]
    dsimp only
    generalize s.run = run
    obtain ⟨_, _, _, timer, _, _, _, _, _⟩ := run
    cases timer with
    | none => simp
    | some r => by_cases h : r ≤ 1 <;> simp [h]
  have hsup : (s.supervision.condition = .counting ∧ s.timerDue .supervision = false)
      ↔ (s.supervision.condition = .counting ∧ 1 < s.supervision.remaining) := by
    simp +contextual [timerDue_eq]
  have hclock : (s.clock.time.isSome ∧ s.timerDue .minute = false) ↔ (s.clock.time.isSome ∧ s.clock.seconds < 59) := by
    simp +contextual [timerDue_eq]
  unfold State.countSecond
  rw [hrun]
  simp only [hsup, hclock]

/-- On an empty queue the event of a timer that runs out is that of its row, in a part with power. -/
theorem timerEvent_eq (s : State) (k : TimerKind) (h : s.powered = true) :
    exec (match k with
      | .hold => .holdTimerExpiry
      | .supervision => .supervisionExpiry
      | .minute => .minuteEvent) s = .next (s.timerEvent k) := by
  cases k
  · show ifPowered State.expireHold s = _
    simp [ifPowered, h, State.timerEvent]
  · show ifPowered State.expireSupervision s = _
    simp [ifPowered, h, State.timerEvent]
  · show ifPowered State.advanceMinute s = _
    simp [ifPowered, h, State.timerEvent]

end Sys2Proof.Machine
end

