-- ==== Sys2Proof/Laws/Tables.lean ====
section
/-! SUPPORT. The tables of records in ascending key: what insertion, removal and change of a record keep, and what a lookup
then finds. -/

namespace Sys2Proof.Machine

variable {α : Type} {key : α → Nat}

/-- The table form as a proposition. -/
theorem keysRising_iff (l : List α) : keysRising key l = true ↔ (l.map key).Pairwise (· < ·) := by
  induction l with
  | nil => simp [keysRising]
  | cons x l ih =>
    cases l with
    | nil => simp [keysRising]
    | cons y l =>
      simp only [keysRising, Bool.and_eq_true, decide_eq_true_eq, ih, List.map_cons, List.pairwise_cons, List.mem_cons]
      constructor
      · rintro ⟨hxy, hy, hl⟩
        refine ⟨?_, hy, hl⟩
        rintro k (rfl | hk)
        · exact hxy
        · exact lt_trans hxy (hy k hk)
      · rintro ⟨hx, hy, hl⟩
        exact ⟨hx _ (Or.inl rfl), hy, hl⟩

/-- No two records of a table have one key. -/
theorem key_injOn_of_keysRising {l : List α} (h : keysRising key l = true) {x y : α} (hx : x ∈ l) (hy : y ∈ l)
    (hk : key x = key y) : x = y := by
  have hn : (l.map key).Nodup := ((keysRising_iff l).1 h).imp fun hlt => ne_of_lt hlt
  exact List.inj_on_of_nodup_map hn hx hy hk

theorem mem_insertByKey (x z : α) (l : List α) : z ∈ insertByKey key x l ↔ z = x ∨ z ∈ l := by
  induction l with
  | nil => simp [insertByKey]
  | cons y l ih =>
    unfold insertByKey
    split
    · simp
    · simp only [List.mem_cons, ih]; tauto

@[simp] theorem length_insertByKey (x : α) (l : List α) : (insertByKey key x l).length = l.length + 1 := by
  induction l with
  | nil => rfl
  | cons y l ih => unfold insertByKey; split <;> simp [ih]

/-- A record of a new key keeps the table form. -/
theorem keysRising_insertByKey (x : α) (l : List α) (h : keysRising key l = true) (hx : ∀ y ∈ l, key y ≠ key x) :
    keysRising key (insertByKey key x l) = true := by
  induction l with
  | nil => rfl
  | cons y l ih =>
    rw [keysRising_iff, List.map_cons, List.pairwise_cons] at h
    have hl := ih ((keysRising_iff l).2 h.2) fun z hz => hx z (List.mem_cons_of_mem _ hz)
    unfold insertByKey
    split
    · rename_i hlt
      rw [keysRising_iff]
      simp only [List.map_cons, List.pairwise_cons, List.mem_cons]
      refine ⟨?_, h.1, h.2⟩
      rintro k (rfl | hk)
      · exact hlt
      · exact lt_trans hlt (h.1 k hk)
    · rename_i hge
      rw [keysRising_iff] at hl ⊢
      rw [List.map_cons, List.pairwise_cons]
      refine ⟨?_, hl⟩
      intro k hk
      obtain ⟨z, hz, rfl⟩ := List.mem_map.1 hk
      rcases (mem_insertByKey x z l).1 hz with rfl | hz
      · exact lt_of_le_of_ne (not_lt.1 hge) (hx y (List.mem_cons_self ..))
      · exact h.1 _ (List.mem_map.2 ⟨z, hz, rfl⟩)

/-- Removing records keeps the table form. -/
theorem keysRising_filter (p : α → Bool) (l : List α) (h : keysRising key l = true) :
    keysRising key (l.filter p) = true := by
  rw [keysRising_iff] at h ⊢
  exact h.sublist ((List.filter_sublist (p := p) (l := l)).map key)

theorem keysRising_eraseKey (k : Nat) (l : List α) (h : keysRising key l = true) :
    keysRising key (eraseKey key k l) = true := keysRising_filter _ l h

/-- A change of records that keeps their keys keeps the table form. -/
theorem keysRising_map (f : α → α) (hf : ∀ x, key (f x) = key x) (l : List α) (h : keysRising key l = true) :
    keysRising key (l.map f) = true := by
  rw [keysRising_iff] at h ⊢
  rwa [List.map_map, show key ∘ f = key from funext hf]

theorem map_key_updateKey (k : Nat) (f : α → α) (hf : ∀ x, key (f x) = key x) (l : List α) :
    (updateKey key k f l).map key = l.map key := by
  unfold updateKey
  rw [List.map_map]
  refine List.map_congr_left fun x _ => ?_
  simp only [Function.comp]
  split
  · exact hf x
  · rfl

theorem keysRising_updateKey (k : Nat) (f : α → α) (hf : ∀ x, key (f x) = key x) (l : List α)
    (h : keysRising key l = true) : keysRising key (updateKey key k f l) = true := by
  rw [keysRising_iff] at h ⊢
  rwa [map_key_updateKey k f hf]

@[simp] theorem length_updateKey (k : Nat) (f : α → α) (l : List α) : (updateKey key k f l).length = l.length := by
  simp [updateKey]

/-! ## Lookup -/

theorem mem_of_findKey {k : Nat} {l : List α} {x : α} (h : findKey key k l = some x) : x ∈ l :=
  List.mem_of_find?_eq_some h

theorem key_of_findKey {k : Nat} {l : List α} {x : α} (h : findKey key k l = some x) : key x = k := by
  have := List.find?_some h
  simpa using this

/-- A lookup that finds nothing: no record has the key. -/
theorem findKey_eq_none (k : Nat) (l : List α) : findKey key k l = none ↔ ∀ x ∈ l, key x ≠ k := by
  simp [findKey]

/-- In a table, the lookup of a record's key finds that record. -/
theorem findKey_of_mem {l : List α} (h : keysRising key l = true) {x : α} (hx : x ∈ l) :
    findKey key (key x) l = some x := by
  cases hf : findKey key (key x) l with
  | none => exact absurd rfl ((findKey_eq_none (key x) l).1 hf x hx)
  | some y => rw [key_injOn_of_keysRising h (mem_of_findKey hf) hx (key_of_findKey hf)]

/-- What a lookup finds after one record has changed. -/
theorem findKey_updateKey (k m : Nat) (f : α → α) (hf : ∀ x, key (f x) = key x) (l : List α) :
    findKey key m (updateKey key k f l) = (findKey key m l).map fun x => if key x == k then f x else x := by
  induction l with
  | nil => rfl
  | cons y l ih =>
    have hk : key (if key y == k then f y else y) = key y := by split <;> simp [hf]
    simp only [findKey, updateKey, List.map_cons, List.find?_cons, hk] at ih ⊢
    split
    · rfl
    · exact ih

/-- What a lookup finds after a change of every record that keeps the keys. -/
theorem findKey_map (m : Nat) (f : α → α) (hf : ∀ x, key (f x) = key x) (l : List α) :
    findKey key m (l.map f) = (findKey key m l).map f := by
  induction l with
  | nil => rfl
  | cons y l ih =>
    simp only [findKey, List.map_cons, List.find?_cons, hf] at ih ⊢
    split
    · rfl
    · exact ih

/-- What a lookup finds after a record has been removed. -/
theorem findKey_eraseKey (k m : Nat) (l : List α) :
    findKey key m (eraseKey key k l) = if m = k then none else findKey key m l := by
  induction l with
  | nil => simp [findKey, eraseKey]
  | cons y l ih =>
    simp only [findKey, eraseKey] at ih ⊢
    by_cases hy : key y = k
    · rw [List.filter_cons_of_neg (by simp [hy]), ih]
      split
      · rfl
      · rename_i hm
        rw [List.find?_cons_of_neg]
        simp [hy, Ne.symm hm]
    · rw [List.filter_cons_of_pos (by simp [hy])]
      by_cases hm : key y = m
      · rw [List.find?_cons_of_pos (by simp [hm]), List.find?_cons_of_pos (by simp [hm])]
        rw [if_neg (by rw [← hm]; exact hy)]
      · rw [List.find?_cons_of_neg (by simp [hm]), List.find?_cons_of_neg (by simp [hm]), ih]

/-- What a lookup finds after a record of a new key has been put in. -/
theorem findKey_insertByKey (x : α) (m : Nat) (l : List α) (hx : ∀ y ∈ l, key y ≠ key x) :
    findKey key m (insertByKey key x l) = if key x = m then some x else findKey key m l := by
  induction l with
  | nil => by_cases h : key x = m <;> simp [findKey, insertByKey, h]
  | cons y l ih =>
    have ih := ih fun z hz => hx z (List.mem_cons_of_mem _ hz)
    have hy := hx y (List.mem_cons_self ..)
    unfold insertByKey
    split
    · by_cases h : key x = m <;> simp [findKey, h]
    · simp only [findKey, List.find?_cons] at ih ⊢
      by_cases hm : key y = m
      · have : key x ≠ m := fun h => hy (hm.trans h.symm)
        simp [hm, this]
      · simp only [show (key y == m) = false by simpa using hm]
        exact ih

/-! ## Order by insertion -/

theorem insertSorted_perm (before : α → α → Bool) (x : α) (l : List α) : (insertSorted before x l).Perm (x :: l) := by
  induction l with
  | nil => exact List.Perm.refl _
  | cons y l ih =>
    unfold insertSorted
    split
    · exact List.Perm.refl _
    · exact (ih.cons y).trans (List.Perm.swap x y l)

/-- Sorting loses and doubles nothing. -/
theorem sortBy_perm (before : α → α → Bool) (l : List α) : (sortBy before l).Perm l := by
  induction l with
  | nil => exact List.Perm.refl _
  | cons x l ih => exact (insertSorted_perm _ x _).trans (ih.cons x)

end Sys2Proof.Machine
end

