-- ==== Sys2Proof/WellFormed.lean ====
section
/-! DEFINITION. The static checks of a command: what no host or line can send at all. -/

namespace Sys2Proof

/-- R147: a request's body is at most 1024 bytes, whatever its kind. -/
def bodyFits (bytes : Nat) : Bool := decide (bytes ≤ 1024)

/-- 11 section 11.1.1: the direction bytes, SEND 5Ah and FETCH A5h. -/
def isDirection (direction : Byte) : Bool := direction == 0x5A#8 || direction == 0xA5#8

/-- The checks: a request row's body can be carried (R147); an IGNORED_TRANSACTION is neither a SEND nor a FETCH,
unless it ends with its status byte (R145). Every other command is well formed by its type. -/
def Instr.wellFormed : Instr → Bool
  | .enrolBus _ ps => bodyFits (5 * ps.length)
  | .enrolBerth _ ps => bodyFits (5 * ps.length)
  | .enrolTicket _ ps => bodyFits (5 * ps.length)
  | .enrolPledge _ ps => bodyFits (5 * ps.length)
  | .amendBus _ ps => bodyFits (5 * ps.length)
  | .amendBerth _ ps => bodyFits (5 * ps.length)
  | .amendTicket _ ps => bodyFits (5 * ps.length)
  | .amendPledge _ ps => bodyFits (5 * ps.length)
  | .amendProfile _ ps => bodyFits (5 * ps.length)
  | .setClock ps => bodyFits (1 + 5 * ps.length)
  | .attend causes => bodyFits causes.length
  | .ignoredTransaction statusWhole direction bytes =>
      !statusWhole || !isDirection direction || bytes.isEmpty
  | .send _ => true
  | .fetch _ => true
  | .lookupBus _ => true
  | .lookupBerth _ => true
  | .lookupTicket _ => true
  | .lookupPledge _ => true
  | .lookupProfile _ => true
  | .list _ _ _ => true
  | .retireBus _ => true
  | .retireBerth _ => true
  | .retireTicket _ => true
  | .retirePledge _ => true
  | .summary => true
  | .runStart => true
  | .runStop => true
  | .pause => true
  | .resume => true
  | .allStop => true
  | .clearStop => true
  | .ackTrip => true
  | .withdraw _ => true
  | .saveProfile => true
  | .profileWriteEnd => true
  | .recordsReset => true
  | .powerOn => true
  | .nextExchangeChoice => true
  | .preambleEnd => true
  | .poll => true
  | .grant => true
  | .status _ _ => true
  | .meter _ => true
  | .confirm _ _ => true
  | .invalidReply _ => true
  | .replyTimeout => true
  | .allocationPass => true
  | .holdTimerExpiry => true
  | .supervisionExpiry => true
  | .minuteEvent => true
  | .tripAssertion => true
  | .tripRelease => true
  | .stopAssertion => true
  | .stopRelease => true
  | .lineSample _ _ => true
  | .powerFailure => true

end Sys2Proof
end

