-- ==== Sys2Proof/Tests/Slice0.lean ====
section
/-! SUPPORT. The model's own tests: terms that the well-formedness check refuses, small states on which commands are run,
and, for every statement with hypotheses, states and operands that meet them clause by clause. -/

namespace Sys2Proof.Tests

set_option Elab.async false

open Sys2Proof.Machine

/-! ## Helpers -/

/-- A pair of a field identifier and a value. -/
def pair (ident : Nat) (v : Int) : Pair := { ident := BitVec.ofNat 8 ident, value := BitVec.ofInt 32 v }

/-- The next state, where there is one. -/
def nextOf (o : Host.Outcome State Fault Refusal) : Option State :=
  match o with
  | .next t => some t
  | .fault _ => none
  | .refused _ => none

/-- The status code of the response waiting after a command, 255 where none waits. -/
def statusAfter (c : Instr) (s : State) : Nat :=
  match (nextOf (exec c s)).bind fun t => t.depot.response with
  | some r => ((r.bytes.head?).getD 0xFF#8).toNat
  | none => 255

/-- A fresh bus of 400.0 kWh that holds 120.0 kWh at 20 °C. -/
def busAt (fleet : Nat) (berth ticket : Option Nat) : Bus :=
  { fleet := fleet, capacity := 4000, rateCap := 100, reserveEligible := true, inService := true
    state := if berth.isSome then .attached else .away
    berth := berth, ticket := ticket, held := some 1200, temperature := some 20, band := some .normal
    acceptance := some 60, packFault := false, freshness := .fresh, floor := 0, exportEligible := false, thermal := 0
    charge := 0 }

/-- A berth of 100 kW import and 50 kW export on branch 1, in its own place. -/
def berthOn (n : Nat) (state : BerthState) (occupant : Option Nat) : Berth :=
  { newBerth n 1 1 n 100 50 0 false with state := state, occupant := occupant, outOfService := state == .outOfService }

/-- A ticket of an energy need of 200.0 kWh. -/
def ticketFor (id departure : Nat) (state : TicketState) (bus : Option Nat) : Ticket :=
  { id := id, route := 5, departure := departure, need := 2000, lead := 20, power := 10, bus := bus, lastBus := bus
    state := state, grade := none, projected := none, readyAtRelease := none }

/-- A pledge of 50 kW for one hour. -/
def pledgeOf (id : Nat) (kind : PledgeKind) (start : Nat) (state : PledgeState) : Pledge :=
  { id := id, kind := kind, start := start, duration := 60, committed := 50, yields := kind == .curtail, state := state
    forecast := none, grade := none, delivered := 0, shortMinutes := 0, worst := 0, outcome := none }

/-- Minute 400 of day 3. -/
def dawn : Nat := 3 * 1440 + 400

/-- A small depot in a running charging run: a berth in each state, a ticket in each state, a pledge in each state. -/
def yard : State :=
  { State.reset with
    profile := { Profile.defaults with reserveCeiling := 400, exportCeiling := 200, tripEnabled := true }
    buses := [busAt 101 (some 1) (some 11), busAt 102 (some 2) none, busAt 103 none none, busAt 104 (some 4) none]
    berths :=
      [berthOn 1 .occupied (some 101), berthOn 2 .occupied (some 102), berthOn 3 .vacant none,
       { berthOn 4 .faulted (some 104) with faultCause := some .silent, missCount := 3 }, berthOn 5 .outOfService none,
       { berthOn 6 .foreign (some 500) with foreignReason := some .unknown }, berthOn 7 .awaitingId none]
    tickets :=
      [ticketFor 11 (dawn + 60) .assigned (some 101), ticketFor 12 (dawn + 90) .opened none,
       ticketFor 13 (dawn - 60) .released none]
    pledges :=
      [pledgeOf 21 .curtail (dawn + 100) .booked, pledgeOf 22 .curtail (dawn - 30) .active,
       pledgeOf 23 .exporting (dawn + 5) .armed, pledgeOf 24 .curtail (dawn - 200) .complete]
    clock := { time := some { day := 3, minute := 400 }, seconds := 0 }
    line := { State.reset.line with condition := .frames, roundList := [1, 2, 3, 4, 6, 7], sweep := .meter, roundOpen := true }
    run := { State.reset.run with state := .running } }

/-- The depot with every derived value current. -/
def depotAtDawn : State := yard.closeEvent yard

/-- The depot with the run IDLE. -/
def idleDepot : State := { yard with run := { yard.run with state := .idle } }

/-- A state with an exchange in flight. -/
def inFlight (address : Nat) (kind : ExchangeKind) (s : State) : State :=
  { s with line := { s.line with exchange := some { address := address, kind := kind, void := false } } }

/-- A reply of a berth with a vehicle plugged in, without pack data. -/
def pluggedIn (vehicle : Nat) : StatusBody :=
  { connector := 1#8, vehicle := BitVec.ofNat 16 vehicle, output := 40#16, faultCode := 0#8, pack := none }

/-- A complete request is taken in these states. -/
theorem test_states_take_requests :
    yard.takesRequests ∧ depotAtDawn.takesRequests ∧ idleDepot.takesRequests ∧ State.reset.takesRequests :=
  ⟨⟨by decide, by decide⟩, ⟨by decide +kernel, by decide +kernel⟩, ⟨by decide, by decide⟩, ⟨by decide, by decide⟩⟩

/-! ## Well-formedness: each check refuses an ill-formed term -/

/-- 205 pairs are 1025 body bytes, 204 are 1020. -/
def longBody : List Pair := List.replicate 205 (pair 2 300)

theorem test_pairs_above_1024_bytes_refused :
    [Instr.enrolBus 1#16 longBody, .enrolBerth 1#16 longBody, .enrolTicket 1#16 longBody, .enrolPledge 1#16 longBody,
      .amendBus 1#16 longBody, .amendBerth 1#16 longBody, .amendTicket 1#16 longBody, .amendPledge 1#16 longBody,
      .amendProfile 0#16 longBody, .setClock longBody].all (fun c => !c.wellFormed) = true := by decide +kernel

theorem test_pairs_of_1020_bytes_accepted : (Instr.amendBus 1#16 (longBody.drop 1)).wellFormed = true := by decide +kernel

theorem test_attend_above_1024_causes_refused :
    (Instr.attend (List.replicate 1025 1#8)).wellFormed = false ∧ (Instr.attend (List.replicate 1024 1#8)).wellFormed = true := by
  decide +kernel

theorem test_ignored_transaction_is_no_send_or_fetch :
    (Instr.ignoredTransaction true 0x5A#8 [1#8]).wellFormed = false
      ∧ (Instr.ignoredTransaction true 0xA5#8 [1#8]).wellFormed = false
      ∧ (Instr.ignoredTransaction true 0x45#8 [1#8]).wellFormed = true
      ∧ (Instr.ignoredTransaction true 0x5A#8 []).wellFormed = true
      ∧ (Instr.ignoredTransaction false 0x5A#8 [1#8]).wellFormed = true := by decide

/-! ## Values worked out in the spec -/

theorem test_corrected_output_examples_of_R30 :
    correctedOutput (-80) 25 = -82 ∧ correctedOutput 47 (-30) = 46 ∧ correctedOutput 150 50 = 150 := by decide

/-- The check values of the nine digits, for the polynomials and initial values of R168. -/
theorem test_check_values_of_digits :
    crc8 [0x31#8, 0x32#8, 0x33#8, 0x34#8, 0x35#8, 0x36#8, 0x37#8, 0x38#8, 0x39#8] = 0xF4#8
      ∧ crc16 [0x31#8, 0x32#8, 0x33#8, 0x34#8, 0x35#8, 0x36#8, 0x37#8, 0x38#8, 0x39#8] = 0x29B1#16 := by decide +kernel

/-- Section 6.4: 127.0 kWh at a decided 50 kW with 10 kW thermal and 20 minutes to departure projects 140.3 kWh. -/
theorem test_projection_example_of_R107 :
    projectedFor (some 100) (ticketFor 1 120 .assigned none) (some { berthOn 1 .occupied none with decided := 50 })
      { busAt 1 (some 1) none with held := some 1270, thermal := 10 } = some 1403 := by decide

/-- Section 7.3: 200 kW from 07:00, then 80 kW of export from 07:45 passes, and 30 kW more from 08:00 does not. -/
theorem test_commitment_example_of_R115 :
    let first := { pledgeOf 1 .curtail 420 .booked with committed := 200 }
    let second := { pledgeOf 2 .exporting 465 .booked with committed := 80, duration := 30 }
    let third := { pledgeOf 3 .exporting 480 .booked with committed := 30, duration := 30 }
    commitmentTest 300 100 [second, first] = true ∧ commitmentTest 300 100 [third, second, first] = false := by decide

theorem test_frames_of_section_11_2 :
    pollFrame 3 = [⟨3#8, true⟩, ⟨1#8, false⟩, ⟨0#8, false⟩, ⟨crc8 [3#8, 1#8, 0#8], false⟩]
      ∧ grantFrame 3 (-2)
        = [⟨3#8, true⟩, ⟨2#8, false⟩, ⟨2#8, false⟩, ⟨0xFF#8, false⟩, ⟨0xFE#8, false⟩,
           ⟨crc8 [3#8, 2#8, 2#8, 0xFF#8, 0xFE#8], false⟩] := by decide +kernel

/-- R42: the address 05h with its mark, bit time by bit time, and the same with its stop bit at space. -/
theorem test_character_of_R42 :
    charLevels ⟨5#8, true⟩ =
        [.space, .mark, .space, .mark, .space, .space, .space, .space, .space, .mark, .mark]
      ∧ readChar [.space, .mark, .space, .mark, .space, .space, .space, .space, .space, .mark, .space] = some ⟨5#8, true, true⟩
      ∧ readChar [.mark, .mark, .space, .mark, .space, .space, .space, .space, .space, .mark, .mark] = none := by decide

/-- R97, R98: the last minute of day 65535 is one minute before minute 0 of day 0, and day 1 lies between days 0 and 2. -/
theorem test_depot_time_across_the_wrap :
    minutesFrom 94371839 0 = 1 ∧ minutesFrom 0 94371839 = -1 ∧ earlier 94370400 1439 = true ∧ earlier 1439 94370400 = false
      ∧ minutesFrom 1440 2880 = 1440 ∧ earlier 1440 94371839 = true := by decide

/-! ## Commands on a small state -/

theorem test_enrol_and_lookup_statuses :
    statusAfter (.enrolBus 105#16 [pair 2 3000, pair 3 80]) yard = 0
      ∧ statusAfter (.enrolBus 101#16 [pair 2 3000, pair 3 80]) yard = 2
      ∧ statusAfter (.enrolBerth 9#16 [pair 2 1, pair 3 1, pair 4 8, pair 5 100]) yard = 4
      ∧ statusAfter (.enrolBerth 9#16 [pair 2 1, pair 3 1, pair 4 8, pair 5 100]) idleDepot = 0
      ∧ statusAfter (.enrolTicket 14#16 [pair 2 1, pair 3 (dawn + 1 : Nat), pair 4 1000]) yard = 0
      ∧ statusAfter (.enrolPledge 25#16 [pair 2 0, pair 3 (dawn + 10 : Nat), pair 4 15, pair 5 10]) yard = 0
      ∧ statusAfter (.lookupBus 101#16) yard = 0 ∧ statusAfter (.lookupBerth 33#16) yard = 1
      ∧ statusAfter (.lookupTicket 11#16) yard = 0 ∧ statusAfter (.lookupPledge 20#16) yard = 1
      ∧ statusAfter (.lookupProfile 0#16) yard = 0 ∧ statusAfter (.lookupProfile 1#16) yard = 1 := by decide +kernel

theorem test_amend_and_retire_statuses :
    statusAfter (.amendBus 101#16 [pair 2 1000]) yard = 0 ∧ statusAfter (.amendBerth 1#16 [pair 5 50]) yard = 4
      ∧ statusAfter (.amendBerth 1#16 [pair 8 1]) yard = 0 ∧ statusAfter (.amendTicket 12#16 [pair 7 101]) yard = 6
      ∧ statusAfter (.amendTicket 12#16 [pair 7 102]) yard = 0 ∧ statusAfter (.amendPledge 22#16 [pair 5 60]) yard = 8
      ∧ statusAfter (.amendPledge 21#16 [pair 5 60]) yard = 0 ∧ statusAfter (.amendProfile 0#16 [pair 1 300]) yard = 4
      ∧ statusAfter (.amendProfile 0#16 [pair 8 30]) yard = 0 ∧ statusAfter (.retireBus 101#16) yard = 5
      ∧ statusAfter (.retireBus 103#16) yard = 0 ∧ statusAfter (.retireBerth 3#16) idleDepot = 0
      ∧ statusAfter (.retireTicket 11#16) yard = 0 ∧ statusAfter (.retirePledge 23#16) yard = 8
      ∧ statusAfter (.retirePledge 24#16) yard = 0 := by decide +kernel

theorem test_list_and_attend_statuses :
    statusAfter (.list .bus 0#16 none) yard = 0 ∧ statusAfter (.list .profile 0#16 none) yard = 9
      ∧ statusAfter (.list .ticket 0#16 (some 65#8)) yard = 9 ∧ statusAfter (.attend [1#8, 14#8]) yard = 0
      ∧ statusAfter (.attend [15#8]) yard = 9 ∧ statusAfter (.attend [3#8, 3#8]) yard = 9
      ∧ statusAfter .summary yard = 0 := by decide +kernel

theorem test_control_statuses :
    statusAfter .runStart yard = 4 ∧ statusAfter .runStart idleDepot = 0 ∧ statusAfter .runStart State.reset = 10
      ∧ statusAfter .runStop yard = 0 ∧ statusAfter .pause yard = 0 ∧ statusAfter .resume yard = 0
      ∧ statusAfter .allStop yard = 0 ∧ statusAfter .clearStop yard = 0 ∧ statusAfter .ackTrip yard = 0
      ∧ statusAfter (.withdraw 22#16) yard = 0 ∧ statusAfter (.withdraw 21#16) yard = 8
      ∧ statusAfter (.setClock [pair 1 3, pair 2 400]) yard = 4
      ∧ statusAfter (.setClock [pair 1 3, pair 2 1440]) State.reset = 7
      ∧ statusAfter (.setClock [pair 1 65535, pair 2 1439]) State.reset = 0
      ∧ statusAfter .recordsReset yard = 0 ∧ statusAfter .saveProfile yard = 255 := by decide +kernel

/-- The bytes of the response waiting after a command. -/
def responseAfter (c : Instr) (s : State) : List Byte :=
  (((nextOf (exec c s)).bind fun t => t.depot.response).map ResponseBuffer.bytes).getD []

/-- A refused SET_CLOCK carries the day and minute as they stand (log entry 38). -/
theorem test_refused_set_clock_carries_the_time :
    (responseAfter (.setClock [pair 1 3, pair 2 500]) yard).drop 8
        = [66#8, 0#8, 0#8, 0#8, 3#8, 67#8, 0#8, 0#8, 1#8, 144#8]
      ∧ (responseAfter (.setClock [pair 1 3, pair 2 1440]) State.reset).drop 8
        = [66#8, 0x80#8, 0#8, 0#8, 0#8, 67#8, 0x80#8, 0#8, 0#8, 0#8] := by decide +kernel

/-- R63: entering and leaving STARTING raise a pass, as every change of run state does. -/
theorem test_run_state_changes_raise_a_pass :
    ((nextOf (exec .runStart idleDepot)).map fun s => (s.run.state, s.alloc.passRequested)) = some (.starting, true)
      ∧ (([.starting, .paused] : List RunState).all fun r =>
        (((nextOf (exec .runStop { yard with run := { yard.run with state := r } })).map fun s =>
          s.alloc.passRequested).getD false)) = true := by decide +kernel

/-- R97, R102: one minute before the wrap, a departure on day 0 is still to come and one on day 65534 is past. -/
theorem test_departure_across_the_wrap :
    let lastDay := { State.reset with clock := { time := some { day := 65535, minute := 1439 }, seconds := 0 } }
    statusAfter (.enrolTicket 1#16 [pair 2 1, pair 3 10, pair 4 1000]) lastDay = 0
      ∧ statusAfter (.enrolTicket 1#16 [pair 2 1, pair 3 94370399, pair 4 1000]) lastDay = 7 := by decide +kernel

theorem test_save_then_write_end :
    ((nextOf (exec .saveProfile yard)).map fun s => (s.depot.state, s.store.write.isSome)) = some (.working, true)
      ∧ ((nextOf (exec .saveProfile yard)).map (statusAfter .profileWriteEnd)) = some 0 := by decide +kernel

/-- LOOKUP of bus 7 in one SEND of its one segment: FIRST and LAST, no body. -/
theorem test_send_and_fetch :
    statusAfter (.send [0xC0#8, 0#8, 0#8, 1#8, 1#8, 0#8, 7#8]) yard = 1
      ∧ (((nextOf (exec (.lookupBus 7#16) yard)).bind fun s => nextOf (exec (.fetch 60) s)).map fun s =>
          (s.depot.state, s.depot.miso.take 9))
        = some (.ready, [0xAB#8, 1#8, 1#8, 1#8, 0#8, 7#8, 0#8, 0#8, 0#8]) := by decide +kernel

theorem test_ignored_transaction :
    ((nextOf (exec (.ignoredTransaction true 0x45#8 [1#8, 2#8]) { yard with depot := { yard.depot with overrun := true } })).map
      fun s => (s.depot.overrun, s.depot.miso)) = some (false, [0xAC#8, 0xFF#8, 0xFF#8]) := by decide +kernel

theorem test_power_failure_then_power_on :
    (((nextOf (exec .powerFailure yard)).bind fun s => nextOf (exec .powerOn s)).map fun s =>
      (s.powered, s.buses, s.attention.flags, s.line.condition)) = some (true, [], 0x1000#14, .preamble) := by decide +kernel

theorem test_choice_then_poll :
    (((nextOf (exec .nextExchangeChoice yard)).bind fun s => nextOf (exec .poll s)).map fun s =>
      (s.line.exchange, s.line.sweep)) = some (some { address := 1, kind := .poll, void := false }, .berth 1) := by
  decide +kernel

theorem test_preamble_end_begins_round :
    ((nextOf (exec .preambleEnd State.reset)).map fun s => (s.line.condition, s.line.exchange, s.line.txd.length))
      = some (.frames, some { address := 0, kind := .poll, void := false }, 4) := by decide +kernel

theorem test_grant_then_confirm :
    (((nextOf (exec .grant
        { yard with
          line := { yard.line with nextSend := some (.grantTo 1) }
          berths := [{ berthOn 1 .occupied (some 101) with wanted := 40, decided := 40, grantDue := true }] })).bind fun s =>
        nextOf (exec (.confirm 1#8 { accepted := 1#8, output := 38#16 }) s)).map fun s =>
      s.berths.map fun b => (b.sent, b.reported, b.grantDue)) = some [(40, 38, false)] := by decide +kernel

theorem test_status_attaches_an_away_bus :
    ((nextOf (exec (.status 7#8 (pluggedIn 103)) (inFlight 7 .poll yard))).bind fun s =>
      (s.berth? 7).map fun b => (b.state, b.occupant, b.reported)) = some (.occupied, some 103, 40)
      ∧ ((nextOf (exec (.status 7#8 (pluggedIn 103)) (inFlight 7 .poll yard))).bind fun s =>
        (s.bus? 103).map fun b => (b.state, b.berth, b.freshness)) = some (.attached, some 7, .stale) := by decide +kernel

theorem test_status_moves_a_bus_from_a_silent_berth :
    ((nextOf (exec (.status 3#8 (pluggedIn 104)) (inFlight 3 .poll yard))).map fun s =>
      ((s.berth? 3).map fun b => (b.state, b.occupant), (s.berth? 4).map fun b => (b.state, b.occupant)))
      = some (some (.occupied, some 104), some (.faulted, none)) := by decide +kernel

theorem test_meter_and_third_meter_miss :
    ((nextOf (exec (.meter { measured := 90#16, voltage := 1000#16, transformer := 0#8 }) (inFlight 0 .poll yard))).map fun s =>
      (s.alloc.baseLoad, s.line.meterMiss)) = some (90, 0)
      ∧ ((nextOf (exec .replyTimeout
          (inFlight 0 .poll { yard with line := { yard.line with meterMiss := 2 } }))).map fun s =>
        (s.run.state, s.run.abortCause)) = some (.idle, some .meterSilent) := by decide +kernel

theorem test_third_miss_faults_a_berth :
    ((nextOf (exec (.invalidReply []) (inFlight 1 .poll
        { yard with berths := [{ berthOn 1 .occupied (some 101) with missCount := 2 }] }))).map fun s =>
      s.berths.map fun b => (b.state, b.faultCause, b.occupant)) = some [(.faulted, some .silent, some 101)] := by decide +kernel

/-- Two claims of 60 kW each within a ceiling of 100 kW: the later one in the ranking takes what is left. -/
theorem test_allocation_pass_shares_the_ceiling :
    ((nextOf (exec .allocationPass
        { depotAtDawn with alloc := { depotAtDawn.alloc with importCeiling := 100, passRequested := true } })).map fun s =>
      (s.berths.map Berth.wanted).take 2) = some [60, 40] := by decide +kernel

theorem test_timer_expiries :
    ((nextOf (exec .holdTimerExpiry
        { yard with run := { yard.run with state := .starting, holdTimer := some 1 }
                    line := { yard.line with firstRound := true } })).map fun s => s.run.state) = some .running
      ∧ ((nextOf (exec .supervisionExpiry
          { idleDepot with supervision := { condition := .counting, remaining := 1, fallback := false } })).map fun s =>
        (s.run.state, s.supervision.condition, s.supervision.fallback)) = some (.starting, .expired, true) := by decide +kernel

theorem test_minute_event_assesses_the_active_pledge :
    ((nextOf (exec .minuteEvent depotAtDawn)).map fun s =>
      (s.clock.time, (s.pledge? 22).map fun p => (p.delivered, p.shortMinutes)))
      = some (some { day := 3, minute := 401 }, some (50, 0)) := by decide +kernel

theorem test_last_minute_wraps :
    ((nextOf (exec .minuteEvent { State.reset with clock := { time := some { day := 65535, minute := 1439 }, seconds := 59 } })).map
      fun s => s.clock) = some { time := some { day := 0, minute := 0 }, seconds := 0 } := by decide +kernel

theorem test_lines :
    ((nextOf (exec .tripAssertion yard)).map fun s => (s.grid.tripLatch, s.alloc.importCeiling)) = some (true, 0)
      ∧ ((nextOf (exec .tripRelease { yard with grid := { yard.grid with tripLatch := true, tripAck := true } })).map fun s =>
        s.grid.tripLatch) = some false
      ∧ ((nextOf (exec .stopAssertion yard)).map fun s => (s.grid.stopLatch, s.alloc.binding)) = some (true, .held)
      ∧ ((nextOf (exec .stopRelease { yard with grid := { yard.grid with stopLatch := true, clearRemembered := true } })).map
        fun s => s.grid.stopLatch) = some false
      ∧ ((nextOf (exec (.lineSample .asserted .released) { yard with grid := { yard.grid with tripCount := 2 } })).map fun s =>
        (s.grid.tripLevel, s.grid.tripCount, s.grid.tripLatch)) = some (.asserted, 0, true) := by decide +kernel

/-! ## Witnesses: every statement's hypotheses are met, clause by clause -/

/-- A bus body and its check. -/
def busBody : List Pair := [pair 2 3000, pair 3 80]

/-- A depot with a hold timer, a supervision timer and a seconds count. -/
def timedDepot (hold : Option Nat) (remaining seconds : Nat) : State :=
  { yard with
    run := { yard.run with holdTimer := hold }, supervision := { yard.supervision with condition := .counting, remaining := remaining }
    clock := { yard.clock with seconds := seconds } }

/-- The hold timer, and the supervision timer and the clock, after a step on the empty queue. -/
def afterSecond (s : State) : Option Nat × Supervision × DepotClock :=
  match step s with
  | .next t => (t.run.holdTimer, t.supervision, t.clock)
  | .fault _ => (none, s.supervision, s.clock)
  | .refused _ => (none, s.supervision, s.clock)

/-- R66, R98, R160: a second counted by all three timers, and each of them running out with it alone; in the last depot two run
out together. -/
theorem test_witness_IdleStep :
    let clock (minute seconds : Nat) : DepotClock := { time := some { day := 3, minute := minute }, seconds := seconds }
    let one : Supervision := { condition := .counting, remaining := 1, fallback := false }
    afterSecond (timedDepot (some 2) 2 58) = (some 1, one, clock 400 59)
      ∧ afterSecond (timedDepot (some 1) 2 58) = (none, one, clock 400 59)
      ∧ afterSecond (timedDepot (some 2) 1 58) = (some 1, { condition := .expired, remaining := 0, fallback := true }, clock 400 59)
      ∧ afterSecond (timedDepot (some 2) 2 59) = (some 1, one, clock 401 0)
      ∧ (timedDepot (some 1) 2 59).run.holdTimer = some 1 ∧ (timedDepot (some 1) 2 59).clock.seconds = 59
      ∧ (timedDepot (some 1) 2 59).powered = true ∧ (timedDepot (some 1) 2 59).pending = [] := by decide +kernel

theorem test_witness_EveryCommandCompletes :
    ({ yard with powered := false } : State).powered = false ∧ Instr.summary ≠ Instr.powerOn := by decide

/-- A part with a write in progress, one without, an image that loads and one that fails. -/
theorem test_witness_PowerOnAndPowerFailure :
    yard.powered = true ∧ yard.store.write = none
      ∧ (({ yard with store := { image := [], write := some { bytes := [1#8], head := controlHead 0#16 } } } : State).store.write).isSome
      ∧ loadImage [] = none := by
  decide +kernel

set_option maxRecDepth 200000 in
/-- An image that loads. -/
theorem test_witness_image_that_loads : (loadImage (imageBytes Profile.defaults [])).isSome = true := by decide +kernel

/-- R157, log entry 14: PROFILE_DEFAULTED drives ATTN; without power ATTN is released, with the flag still held. -/
theorem test_attn_without_power :
    State.reset.attn = true ∧ ({ State.reset with powered := false } : State).attn = false := by decide +kernel

/-- The head of an AMEND of bus 233, as bytes. -/
def amendHead : List Byte := [4#8, 1#8, 0#8, 233#8]

/-- The state of an assembly of 80 bytes of which 56 are there. -/
def assembling : State :=
  { yard with
    depot :=
      { yard.depot with
        state := .assembling
        assembly := some { head := headOf 4#8 1#8 233#16, total := 80, body := List.replicate 56 0#8 } } }

/-- Segments of every kind: whole and not, first and not, matching and not, short, exact and long. -/
theorem test_witness_SendTakesSegment :
    assembling.powered = true ∧ assembling.linkBusy = false
      ∧ (parseSegment ([0xB8#8, 4#8, 0#8] ++ amendHead ++ List.replicate 56 0#8)).isSome = true
      ∧ parseSegment ([0xB9#8, 4#8, 0#8] ++ amendHead ++ List.replicate 57 0#8) = none
      ∧ parseSegment ([0x81#8, 4#8, 1#8] ++ amendHead ++ [0#8]) = none
      ∧ parseSegment ([0x82#8, 0#8, 5#8] ++ amendHead ++ [0#8]) = none
      ∧ parseSegment ([0x80#8, 0#8, 0#8] ++ [4#8, 1#8, 0#8]) = none
      ∧ (parseSegment ([0x58#8, 0#8, 80#8] ++ amendHead ++ List.replicate 24 0#8)).map (fun g => (g.first, g.last, g.body.length))
        = some (false, true, 24)
      ∧ (parseSegment ([0x57#8, 0#8, 80#8] ++ amendHead ++ List.replicate 23 0#8)).map (fun g => (g.last, g.body.length))
        = some (true, 23)
      ∧ (parseSegment ([0x19#8, 0#8, 80#8] ++ amendHead ++ List.replicate 25 0#8)).map (fun g => (g.last, g.body.length))
        = some (false, 25)
      ∧ (parseSegment ([0x00#8, 0#8, 80#8] ++ [4#8, 1#8, 0#8, 234#8])).map Segment.head ≠ some (headOf 4#8 1#8 233#16)
      ∧ (parseSegment ([0x00#8, 0#8, 81#8] ++ amendHead)).map (fun g => (g.head, g.total))
        = some (headOf 4#8 1#8 233#16, 81) := by
  decide +kernel

theorem test_witness_BusyLinkDiscardsSend :
    ({ yard with depot := { yard.depot with state := .working } } : State).depot.state = .working
      ∧ ({ yard with depot := { yard.depot with state := .responseWaiting } } : State).depot.state = .responseWaiting
      ∧ yard.powered = true ∧ ([0xC0#8] : List Byte) ≠ [] := by decide

/-- A row of each kind is a request, one of them of 1024 body bytes. -/
theorem test_witness_RowsSpellTheirRequests :
    (asRequest (.setClock [pair 1 3, pair 2 400])).isSome = true
      ∧ ((asRequest (.attend (List.replicate 1024 1#8))).map fun x => x.2.body.length) = some 1024
      ∧ ((asRequest (.amendBus 1#16 [pair 2 300])).map fun x => x.2.body.length) = some 5 := by decide +kernel

/-- A response with bytes left after the fetch, one that the fetch ends, and a link with no response. -/
theorem test_witness_FetchShiftsResponse :
    let waiting (n : Nat) : State :=
      { yard with depot := { yard.depot with
          state := .responseWaiting, response := some { bytes := List.replicate n 0#8, position := 0 } } }
    (waiting 61).powered = true ∧ (waiting 61).depot.state = .responseWaiting
      ∧ ((waiting 61).depot.response.map fun r => decide (r.position + min 61 60 < r.bytes.length)) = some true
      ∧ ((waiting 60).depot.response.map fun r => decide (r.position + min 61 60 < r.bytes.length)) = some false
      ∧ yard.depot.state ≠ .responseWaiting := by decide +kernel

/-- Log entry 15: a SEND with no byte changes nothing other than OVERRUN, which it shows and clears. -/
theorem test_send_without_bytes :
    let s : State := { yard with depot := { yard.depot with state := .responseWaiting, overrun := true } }
    nextOf (exec (.send []) s) = some { s with depot := { s.depot with overrun := false, miso := [s.statusByte] } } := by
  decide +kernel

theorem test_witness_IgnoredTransactionKeepsState :
    yard.powered = true ∧ (0x45#8 : Byte) ≠ 0x5A#8 ∧ (0x45#8 : Byte) ≠ 0xA5#8 ∧ yard.depot.response = none := by decide

theorem test_witness_Lookup_List_Summary :
    yard.takesRequests ∧ (yard.bus? 101).isSome = true ∧ yard.bus? 105 = none ∧ (yard.berth? 1).isSome = true
      ∧ yard.berth? 32 = none ∧ (yard.ticket? 11).isSome = true ∧ yard.ticket? 0 = none ∧ (yard.pledge? 21).isSome = true
      ∧ yard.pledge? 0 = none ∧ TableId.bus ≠ TableId.profile
      ∧ ((some 1#8 : Option Byte).map BitVec.toNat).getD 64 = 1 ∧ ((some 64#8 : Option Byte).map BitVec.toNat).getD 64 = 64
      ∧ ((some 0#8 : Option Byte).map BitVec.toNat).getD 64 = 0 ∧ ((some 65#8 : Option Byte).map BitVec.toNat).getD 64 = 65 :=
  ⟨⟨by decide, by decide⟩, by decide⟩

/-- Causes at both ends of the range, and just outside it; an URGENT cause ahead of a ROUTINE one. -/
theorem test_witness_AttendAcknowledgesThenReports :
    yard.takesRequests ∧ (∀ c ∈ ([1#8, 14#8] : List Byte), 1 ≤ c.toNat ∧ c.toNat ≤ 14) ∧ ([1#8, 14#8] : List Byte).Nodup
      ∧ (∃ c ∈ ([0#8] : List Byte), c.toNat = 0 ∨ 14 < c.toNat) ∧ (∃ c ∈ ([15#8] : List Byte), c.toNat = 0 ∨ 14 < c.toNat)
      ∧ ¬ ([2#8, 2#8] : List Byte).Nodup
      ∧ ({ yard with attention := { flags := 0x0082#14, armed := true } } : State).firstPending = some 2
      ∧ ({ yard with attention := { flags := 0#14, armed := true } } : State).firstPending = none :=
  ⟨⟨by decide, by decide⟩, by decide⟩

/-- Heads and bodies at each edge of what spells a request: kinds 0 and 9; a table above 4; a body of the wrong length; and,
well formed but refused by the rest of the head check, a LIST of 65 keys. -/
theorem test_witness_heads_and_bodies :
    (([(⟨0#8, 0#8, 0#16⟩, []), (⟨9#8, 0#8, 0#16⟩, []), (⟨1#8, 5#8, 0#16⟩, []), (⟨1#8, 4#8, 0#16⟩, [0#8]),
        (⟨2#8, 1#8, 0#16⟩, [1#8, 1#8]), (⟨3#8, 1#8, 0#16⟩, [1#8]), (⟨4#8, 1#8, 0#16⟩, [1#8, 0#8, 0#8, 0#8]),
        (⟨5#8, 1#8, 0#16⟩, [1#8]), (⟨6#8, 0#8, 0#16⟩, [1#8]), (⟨8#8, 0#8, 0#16⟩, []), (⟨8#8, 0#8, 0#16⟩, [0#8]),
        (⟨8#8, 0#8, 0#16⟩, [12#8]), (⟨8#8, 0#8, 0#16⟩, [1#8, 1#8]), (⟨8#8, 0#8, 0#16⟩, [9#8, 1#8])] :
          List (RequestHead × List Byte)).all fun x => (parseRequest x.1 x.2).isNone) = true
      ∧ (([(⟨1#8, 4#8, 0#16⟩, []), (⟨2#8, 1#8, 0#16⟩, [65#8]), (⟨3#8, 1#8, 0#16⟩, []), (⟨4#8, 0#8, 0#16⟩, List.replicate 5 1#8),
        (⟨6#8, 9#8, 0#16⟩, []), (⟨7#8, 0#8, 0#16⟩, [99#8]), (⟨8#8, 0#8, 0#16⟩, [11#8]),
        (⟨8#8, 0#8, 0#16⟩, 9#8 :: List.replicate 125 1#8)] :
          List (RequestHead × List Byte)).all fun x => (parseRequest x.1 x.2).isSome) = true
      ∧ (parseRequest ⟨2#8, 1#8, 0#16⟩ [65#8]).map Request.formOk = some false
      ∧ statusAfter (.send [0xC0#8, 0#8, 0#8, 9#8, 0#8, 0#8, 0#8]) yard = 9 := by decide +kernel

/-- Malformed and refused rows: too many pairs, none, and requests that their owners refuse, with and without a body. -/
theorem test_witness_MalformedAndRefused :
    yard.takesRequests
      ∧ (asRequest (.amendBus 101#16 [])).map (fun x => x.2.formOk) = some false
      ∧ (asRequest (.enrolBus 105#16 (List.replicate 25 (pair 2 300)))).map (fun x => x.2.formOk) = some false
      ∧ (asRequest (.retireBus 101#16)).map (fun x => (x.2.formOk, decide (x.2.body.length ≤ 1024))) = some (true, true)
      ∧ (yard.begun.owner (.retire .bus 101)).status ≠ .done ∧ Instr.retireBus 101#16 ≠ Instr.runStart
      ∧ (yard.begun.owner (.control (.setClock [pair 1 3, pair 2 500]))).status ≠ .done :=
  ⟨⟨by decide, by decide⟩, by decide +kernel⟩

/-- A full bus table, 96 records. -/
def fullBuses : State := { yard with buses := (List.range 96).map fun i => busAt (i + 1) none none }

/-- ENROL of a bus: keys 0, 1, 9999, 10000; a record that stands; each result of the check; a full table. -/
theorem test_witness_EnrolBus :
    yard.takesRequests ∧ fullBuses.takesRequests ∧ busBody.length ≤ 24 ∧ (0#16 : Half).toNat = 0 ∧ 9999 < (10000#16 : Half).toNat
      ∧ (yard.bus? (101#16 : Half).toNat).isSome = true ∧ yard.bus? (9999#16 : Half).toNat = none ∧ yard.bus? (1#16 : Half).toNat = none
      ∧ checkPairs 16 busFieldFits [2, 3] [] busBody = none
      ∧ checkPairs 16 busFieldFits [2, 3] [] [pair 2 199] = some (.badField, 2)
      ∧ checkPairs 16 busFieldFits [2, 3] [] [pair 2 200, pair 2 200] = some (.badRequest, 0)
      ∧ yard.buses.length < 96 ∧ fullBuses.buses.length = 96 ∧ fullBuses.bus? 200 = none :=
  ⟨⟨by decide, by decide⟩, ⟨by decide, by decide⟩, by decide +kernel⟩

/-- A berth body and its check. -/
def berthBody : List Pair := [pair 2 4, pair 3 8, pair 4 8, pair 5 150]

/-- ENROL of a berth: BUSY; keys 0, 1, 32, 33; a record that stands; each result of the check. -/
theorem test_witness_EnrolBerth :
    idleDepot.takesRequests ∧ yard.takesRequests ∧ yard.run.state ≠ .idle ∧ idleDepot.run.state = .idle
      ∧ (0#16 : Half).toNat = 0 ∧ 32 < (33#16 : Half).toNat ∧ (idleDepot.berth? (1#16 : Half).toNat).isSome = true
      ∧ idleDepot.berth? (32#16 : Half).toNat = none ∧ checkPairs 19 berthFieldFits [2, 3, 4, 5] [] berthBody = none
      ∧ checkPairs 19 berthFieldFits [2, 3, 4, 5] [] [pair 2 5] = some (.badField, 2) :=
  ⟨⟨by decide, by decide⟩, ⟨by decide, by decide⟩, by decide +kernel⟩

/-- A full ticket table, 128 records. -/
def fullTickets : State := { yard with tickets := (List.range 128).map fun i => ticketFor (i + 100) (dawn + 5) .opened none }

/-- ENROL of a ticket: no key, no clock, a record that stands, a departure now and one minute later, a full table. -/
theorem test_witness_EnrolTicket :
    yard.takesRequests ∧ State.reset.takesRequests ∧ fullTickets.takesRequests ∧ State.reset.now = none ∧ yard.now = some dawn
      ∧ (yard.ticket? 11).isSome = true ∧ yard.ticket? 14 = none
      ∧ checkPairs 12 ticketEnrolFits [2, 3, 4] [] [pair 2 1, pair 3 (dawn : Nat), pair 4 10] = none
      ∧ checkPairs 12 ticketEnrolFits [2, 3, 4] [] [pair 2 1, pair 3 (dawn : Nat), pair 4 10, pair 7 1] = some (.badField, 7)
      ∧ carriedFor [pair 2 1, pair 3 (dawn : Nat), pair 4 10] 3 = some ((dawn : Nat) : Int)
      ∧ carriedFor [pair 3 (dawn + 1 : Nat)] 3 = some ((dawn + 1 : Nat) : Int)
      ∧ minutesFrom dawn dawn ≤ 0 ∧ 0 < minutesFrom dawn (dawn + 1)
      ∧ yard.tickets.length < 128 ∧ fullTickets.tickets.length = 128 ∧ fullTickets.ticket? 14 = none :=
  ⟨⟨by decide, by decide⟩, ⟨by decide, by decide⟩, ⟨by decide, by decide⟩, by decide +kernel⟩

/-- A pledge body from a start. -/
def pledgeBody (kind : Int) (start : Nat) (committed : Int) : List Pair :=
  [pair 2 kind, pair 3 (start : Nat), pair 4 15, pair 5 committed]

/-- A full pledge table, 16 records. -/
def fullPledges : State := { yard with pledges := (List.range 16).map fun i => pledgeOf (i + 100) .curtail 0 .complete }

/-- ENROL of a pledge: a start now, one inside the arming lead, one at the end of depot time, one that fits; full; over. -/
theorem test_witness_EnrolPledge :
    yard.takesRequests ∧ fullPledges.takesRequests ∧ yard.profile.armingLead = 10
      ∧ checkPairs 13 pledgeFieldFits [2, 3, 4, 5] [] (pledgeBody 0 dawn 10) = none
      ∧ checkPairs 13 pledgeFieldFits [2, 3, 4, 5] [6] (pledgeBody 1 dawn 10 ++ [pair 6 1]) = some (.badField, 6)
      ∧ minutesFrom dawn (newPledge 25 (pledgeBody 0 dawn 10)).start ≤ 0
      ∧ minutesFrom dawn (newPledge 25 (pledgeBody 0 (dawn + 9) 10)).start < yard.profile.armingLead
      ∧ 94371839 < (newPledge 25 (pledgeBody 0 94371825 10)).start + 15
      ∧ (yard.profile.armingLead : Int) ≤ minutesFrom dawn (newPledge 25 (pledgeBody 0 (dawn + 10) 10)).start
      ∧ yard.pledge? 25 = none ∧ fullPledges.pledges.length = 16 ∧ fullPledges.pledge? 25 = none
      ∧ yard.admits (newPledge 25 (pledgeBody 0 (dawn + 10) 10) :: yard.livePledges) = true
      ∧ yard.admits (newPledge 25 (pledgeBody 0 (dawn + 10) 2000) :: yard.livePledges) = false :=
  ⟨⟨by decide, by decide⟩, ⟨by decide, by decide⟩, by decide +kernel⟩

/-- AMEND of a bus and of a berth: no record, a failing pair, an accepted one; BUSY both ways; a setting carried or not. -/
theorem test_witness_AmendBus_AmendBerth :
    yard.takesRequests ∧ idleDepot.takesRequests ∧ yard.bus? 105 = none ∧ (yard.bus? 101).isSome = true
      ∧ checkPairs 16 busFieldFits [] [] [pair 2 200] = none ∧ checkPairs 16 busFieldFits [] [] [pair 1 5] = some (.badField, 1)
      ∧ yard.berth? 32 = none ∧ (yard.berth? 1).isSome = true
      ∧ (∃ i ∈ [2, 3, 4, 5, 6, 7], (carriedFor [pair 7 (-50)] i).isSome) ∧ yard.run.state ≠ .idle ∧ idleDepot.run.state = .idle
      ∧ ({ berthOn 1 .occupied (some 101) with reported := 1 } : Berth).countedImport ≠ 0
      ∧ checkPairs 19 berthFieldFits [] [] [pair 7 (-51)] = some (.badField, 7)
      ∧ checkPairs 19 berthFieldFits [] [] [pair 2 1, pair 8 1] = none
      ∧ carriedFor [pair 2 1] 8 = none ∧ carriedFor [pair 8 1] 8 = some 1 ∧ carriedFor [pair 8 0] 8 = some 0 :=
  ⟨⟨by decide, by decide⟩, ⟨by decide, by decide⟩, by decide +kernel⟩

theorem test_witness_OutOfServiceSetting :
    yard.takesRequests ∧ yard.tablesOk = true ∧ yard.ticketLinksOk = true
      ∧ (yard.berth? 1).map Berth.state = some .occupied ∧ (yard.berth? 5).map Berth.state = some .outOfService
      ∧ (yard.berth? 1).bind Berth.busOccupant = some 101 ∧ (yard.bus? 101).isSome = true :=
  ⟨⟨by decide, by decide⟩, by decide⟩

/-- The depot with a ticket to leave in half an hour and a frame chosen. -/
def chosenDepot (chosen : NextSend) : State :=
  { idleDepot with
    tickets := [ticketFor 11 (dawn + 30) .assigned (some 101)], line := { idleDepot.line with nextSend := some chosen } }

/-- R28, R58, R110, log entry 5: a berth set out of service gives up its bus, the bus its ticket within the release window, and
the frame chosen for it is dropped, as it is for a retired berth; a frame chosen for another berth stays. -/
theorem test_out_of_service_releases_and_drops_frame :
    (chosenDepot (.grantTo 1)).ticketLinksOk = true
      ∧ (nextOf (exec (.amendBerth 1#16 [pair 8 1]) (chosenDepot (.grantTo 1)))).map
        (fun t => (t.line.nextSend, (t.bus? 101).map fun b => (b.state, b.ticket), (t.ticket? 11).map Ticket.state))
        = some (none, some (.away, none), some .released)
      ∧ (nextOf (exec (.amendBerth 1#16 [pair 8 1]) (chosenDepot (.pollBerth 2)))).map (fun t => t.line.nextSend)
        = some (some (.pollBerth 2))
      ∧ (nextOf (exec (.retireBerth 3#16) (chosenDepot (.pollBerth 3)))).map (fun t => (t.line.nextSend, t.line.roundList))
        = some (none, [1, 2, 4, 6, 7]) := by decide +kernel

/-- AMEND of a ticket: every branch of the bus value, with a departure now and one minute later. -/
theorem test_witness_AmendTicket :
    yard.takesRequests ∧ yard.ticket? 14 = none ∧ (yard.ticket? 13).map Ticket.state = some .released
      ∧ (yard.ticket? 11).map Ticket.bus = some (some 101) ∧ (yard.ticket? 12).map Ticket.bus = some none
      ∧ checkPairs 12 ticketFieldFits [] [] [pair 3 (dawn : Nat)] = none
      ∧ checkPairs 12 ticketFieldFits [] [] [pair 7 10000] = some (.badField, 7)
      ∧ carriedFor [pair 3 (dawn : Nat)] 3 = some ((dawn : Nat) : Int) ∧ yard.now = some dawn
      ∧ carriedFor [pair 3 (dawn + 1 : Nat)] 3 = some ((dawn + 1 : Nat) : Int)
      ∧ minutesFrom dawn dawn ≤ 0 ∧ 0 < minutesFrom dawn (dawn + 1)
      ∧ carriedFor [pair 2 1] 7 = none ∧ carriedFor [pair 7 0] 7 = some 0 ∧ carriedFor [pair 7 1] 7 = some ((1 : Nat) : Int)
      ∧ yard.bus? 1 = none ∧ (yard.bus? 101).bind Bus.ticket = some 11 ∧ (yard.bus? 102).map Bus.ticket = some none :=
  ⟨⟨by decide, by decide⟩, by decide +kernel⟩

theorem test_witness_AmendPledge :
    yard.takesRequests ∧ yard.pledge? 25 = none ∧ (yard.pledge? 22).map Pledge.state = some .active
      ∧ (yard.pledge? 21).map Pledge.state = some .booked
      ∧ checkPairs 13 pledgeFieldFits [] [] [pair 4 14] = some (.badField, 4)
      ∧ checkPairs 13 pledgeFieldFits [] [] [pair 4 15] = none
      ∧ minutesFrom dawn (dawn + 9) < yard.profile.armingLead ∧ yard.now = some dawn
      ∧ (yard.profile.armingLead : Int) ≤ minutesFrom dawn (dawn + 10) ∧ dawn + 10 + 60 ≤ 94371839
      ∧ (yard.pledge? 21).map (fun q => yard.admits ({ q with committed := 401 } :: yard.livePledges.filter fun p => p.id != 21))
        = some false
      ∧ (yard.pledge? 21).map (fun q => yard.admits ({ q with committed := 60 } :: yard.livePledges.filter fun p => p.id != 21))
        = some true :=
  ⟨⟨by decide, by decide⟩, by decide +kernel⟩

/-- AMEND of the profile: key 0 and 1; limits free and not; ceilings that pass and do not. -/
theorem test_witness_AmendProfile :
    yard.takesRequests ∧ idleDepot.takesRequests ∧ (1#16 : Half) ≠ 0#16
      ∧ checkPairs 59 profileFieldFits [] [] [pair 30 4] = some (.badField, 30)
      ∧ checkPairs 59 profileFieldFits [] [] [pair 30 5] = none
      ∧ (∃ i ∈ [1, 2, 3, 4, 5], (carriedFor [pair 5 0] i).isSome) ∧ yard.run.state ≠ .idle
      ∧ idleDepot.run.state = .idle ∧ (∀ b ∈ idleDepot.berths, b.countedImport = 0)
      ∧ (∃ i ∈ [6, 7], (carriedFor [pair 6 0] i).isSome)
      ∧ commitmentTest (yard.profile.amend [pair 6 0]).reserveCeiling 200 (yard.pledges.filter Pledge.isLive) = false
      ∧ commitmentTest 400 200 (yard.pledges.filter Pledge.isLive) = true :=
  ⟨⟨by decide, by decide⟩, ⟨by decide, by decide⟩, by decide +kernel⟩

/-- RETIRE and WITHDRAW: every branch of the four tables. -/
theorem test_witness_RetireFreesSlot_Withdraw :
    yard.takesRequests ∧ idleDepot.takesRequests ∧ yard.bus? 105 = none ∧ (yard.bus? 101).map Bus.state = some .attached
      ∧ (yard.bus? 103).map (fun b => (b.state, b.ticket)) = some (.away, none) ∧ yard.berth? 32 = none ∧ yard.run.state ≠ .idle
      ∧ idleDepot.run.state = .idle ∧ (idleDepot.berth? 1).map Berth.state = some .occupied
      ∧ (idleDepot.berth? 3).map Berth.state = some .vacant ∧ (idleDepot.berth? 5).map Berth.state = some .outOfService
      ∧ yard.ticket? 14 = none ∧ (yard.ticket? 11).isSome = true ∧ yard.pledge? 25 = none
      ∧ (yard.pledge? 21).map Pledge.state = some .booked ∧ (yard.pledge? 22).map (fun p => (p.state, p.kind, p.yields)) =
        some (.active, .curtail, true)
      ∧ (yard.pledge? 23).map (fun p => (p.state, p.kind)) = some (.armed, .exporting)
      ∧ (yard.pledge? 24).map Pledge.state = some .complete :=
  ⟨⟨by decide, by decide⟩, ⟨by decide, by decide⟩, by decide⟩

/-- A depot whose one ticket is AT_RISK, at a berth, inside the window of a yielding pledge: the yield list takes it, tops it up
when it is handed on, and caps it at its bus's charge demand; it leaves when it is READY. -/
theorem test_witness_yield_list :
    let s (grade : TicketGrade) (yields : List YieldEntry) : State :=
      { yard with
        tickets := [{ ticketFor 11 (dawn + 60) .assigned (some 101) with grade := some grade, projected := some 1700 }]
        buses := [{ busAt 101 (some 1) (some 11) with charge := 40 }]
        reserve := { yard.reserve with yieldList := yields } }
    (s .atRisk []).tablesOk = true ∧ keysRising YieldEntry.ticket (s .atRisk []).reserve.yieldList = true
      ∧ (s .atRisk []).updatedYields [11] = [⟨11, 30⟩] ∧ (s .atRisk [⟨11, 5⟩]).updatedYields [11] = [⟨11, 35⟩]
      ∧ (s .onTrack [⟨11, 5⟩]).updatedYields [] = [⟨11, 5⟩] ∧ (s .atRisk [⟨11, 30⟩]).updatedYields [11] = [⟨11, 40⟩]
      ∧ (s .ready [⟨11, 5⟩]).updatedYields [] = [] ∧ readinessYield [⟨11, 30⟩] yard.pledges = 30
      ∧ readinessYield [⟨11, 30⟩, ⟨12, 30⟩] yard.pledges = 50 := by decide +kernel

/-- The check of pairs: a repetition, and pairs that fail and do not. -/
theorem test_witness_PairCheck :
    ¬ (([pair 2 200, pair 2 300] : List Pair).map pairId).Nodup ∧ ((busBody).map pairId).Nodup
      ∧ checkPairs 16 busFieldFits [2, 3] [] [pair 5 2] = some (.badField, 2) := by decide +kernel

/-- A plan that fails each check, and one that passes. -/
theorem test_witness_PlanChecksInOrder :
    State.reset.clock.time = none ∧ yard.clock.time ≠ none ∧ (∀ b ∈ ({ yard with berths := [] } : State).berths, b.outOfService = true)
      ∧ (∃ b ∈ yard.berths, b.branch = 1) ∧ ({ yard.profile with branchLimit1 := 0 } : Profile).branchLimit 1 = 0
      ∧ ({ yard.profile with branchLimit1 := 401 } : Profile).branchLimit 1 > yard.profile.feederLimit
      ∧ ({ yard with berths := [berthOn 1 .vacant none, { berthOn 2 .vacant none with position := 1 }] } : State).planFault
        = some (.sharedPlace, some 1)
      ∧ ¬ (∀ b ∈ yard.berths, b.outOfService = true) ∧ yard.planFault = none := by decide +kernel

theorem test_witness_RunStart :
    yard.takesRequests ∧ idleDepot.takesRequests ∧ State.reset.takesRequests ∧ yard.run.state ≠ .idle
      ∧ idleDepot.run.state = .idle ∧ idleDepot.planFault = none ∧ State.reset.planFault = some (.clockUnset, none) :=
  ⟨⟨by decide, by decide⟩, ⟨by decide, by decide⟩, ⟨by decide, by decide⟩, by decide +kernel⟩

/-- A run in a state, with its pause sources. -/
def runIn (state : RunState) (host thermal : Bool) : State :=
  { yard with run := { yard.run with state := state, hostPause := host, thermalPause := thermal } }

theorem test_witness_StopPauseResume :
    (runIn .paused true false).takesRequests ∧ idleDepot.run.state = .idle ∧ yard.run.state = .running
      ∧ yard.run.hostPause = false ∧ (runIn .starting false false).run.state = .starting
      ∧ (runIn .paused true true).run.thermalPause = true ∧ (runIn .paused true false).run.thermalPause = false
      ∧ (runIn .paused true false).run.hostPause = true
      ∧ ({ runIn .paused true false with line := { yard.line with meterMiss := 3 } } : State).line.meterMiss = 3
      ∧ yard.profile.meterSilentAbort = true ∧ yard.profile.overdrawAbort = true ∧ yard.line.meterMiss ≠ 3
      ∧ ({ runIn .paused true false with
          run := { (runIn .paused true false).run with overdraw := 3 } } : State).run.overdraw = 3 ∧ yard.run.overdraw ≠ 3 :=
  ⟨⟨by decide, by decide⟩, by decide⟩

theorem test_witness_TimerExpiries :
    yard.powered = true ∧ yard.run.holdTimer = none
      ∧ ({ yard with run := { yard.run with holdTimer := some 1 } } : State).run.holdTimer = some 1
      ∧ (runIn .starting false false).run.state = .starting ∧ yard.line.firstRound = false
      ∧ ({ yard with line := { yard.line with firstRound := true } } : State).line.firstRound = true
      ∧ yard.presentCause = none
      ∧ ({ yard with line := { yard.line with meterMiss := 3 } } : State).presentCause = some .meterSilent
      ∧ yard.supervision.condition ≠ .counting
      ∧ ({ yard with supervision := { yard.supervision with condition := .counting } } : State).supervision.condition = .counting
      ∧ yard.profile.fallbackRun = true ∧ idleDepot.run.state = .idle ∧ idleDepot.planFault = none
      ∧ State.reset.planFault = some (.clockUnset, none) := by decide +kernel

/-- The stop latch clear, set, and set with the clear remembered; the line at each level. -/
theorem test_witness_DepotStop_Trip :
    yard.powered = true ∧ yard.linkBusy = false ∧ yard.grid.stopLatch = false
      ∧ ({ yard with grid := { yard.grid with stopLatch := true, clearRemembered := true } } : State).grid.clearRemembered = true
      ∧ yard.grid.clearRemembered = false ∧ yard.profile.tripEnabled = true
      ∧ ((nextOf (exec .tripAssertion yard)).map State.heldAtZero) = some false := by decide +kernel

/-- A sample at the recognised level, the first, second and third at the opposite one. -/
theorem test_witness_LineSampleQualifies :
    yard.powered = true ∧ Level.released = yard.grid.tripLevel
      ∧ (Level.asserted = yard.grid.tripLevel ∨ ({ yard.grid with tripCount := 1 } : GridMonitor).tripCount < 2)
      ∧ ¬ (Level.asserted = yard.grid.tripLevel ∨ ({ yard.grid with tripCount := 2 } : GridMonitor).tripCount < 2)
      ∧ ¬ (Level.asserted = yard.grid.stopLevel ∨ ({ yard.grid with stopCount := 2 } : GridMonitor).stopCount < 2) := by decide

theorem test_witness_SetClock :
    yard.takesRequests ∧ State.reset.takesRequests
      ∧ checkPairs 2 clockFieldFits [1, 2] [] [pair 1 65536, pair 2 0] = some (.badField, 1)
      ∧ checkPairs 2 clockFieldFits [1, 2] [] [pair 1 65535, pair 2 1439] = none
      ∧ 1 + 5 * (List.replicate 204 (pair 1 3)).length ≤ 1024
      ∧ checkPairs 2 clockFieldFits [1, 2] [] (List.replicate 204 (pair 1 3)) = some (.badRequest, 0)
      ∧ checkPairs 2 clockFieldFits [1, 2] [] [pair 1 65536, pair 2 1440] = some (.badField, 1) ∧ State.reset.tablesOk = true
      ∧ (∃ p ∈ yard.pledges, p.state = .armed ∨ p.state = .active)
      ∧ (∀ p ∈ State.reset.pledges, p.state = .booked ∨ p.state = .complete)
      ∧ carriedFor [pair 1 65535, pair 2 1439] 1 = some ((65535 : Nat) : Int)
      ∧ carriedFor [pair 1 65535, pair 2 1439] 2 = some ((1439 : Nat) : Int) :=
  ⟨⟨by decide, by decide⟩, ⟨by decide, by decide⟩, by decide +kernel⟩

/-- A minute event with the clock UNSET and set; each way a pledge and a ticket stand to the new minute, at the ends of their
windows; and the minute after the last one. -/
theorem test_witness_MinuteEvent :
    let now := dawn + 1
    let booked (start : Nat) : Pledge := pledgeOf 30 .curtail start .booked
    let states (s : State) : List PledgeState := [dawn - 59, now - 1, now, now + 10, now + 11].map fun start =>
      (s.pledgeAfter now (booked start)).state
    yard.powered = true ∧ State.reset.clock.time = none ∧ yard.clock.time = some { day := 3, minute := 400 }
      ∧ yard.tablesOk = true ∧ states yard = [.complete, .active, .active, .armed, .booked]
      ∧ states { yard with supervision := { yard.supervision with fallback := true } }
        = [.complete, .complete, .complete, .complete, .booked]
      ∧ (yard.pledgeAfter now (booked (now - 1))).shortMinutes = 1
      ∧ ([dawn - 59, dawn - 58].map fun start => (yard.pledgeAfter now (pledgeOf 30 .curtail start .active)).outcome)
        = [some .met, none]
      ∧ (yard.pledgeAfter now (pledgeOf 30 .exporting (now + 1) .armed)).forecast = some .shortForecast
      ∧ yard.missedNow now (ticketFor 12 (now - 14) .opened none) = false
      ∧ yard.missedNow now (ticketFor 12 (now - 15) .opened none) = true
      ∧ yard.releasedNow now (ticketFor 12 now .assigned (some 103)) = true
      ∧ yard.releasedNow now (ticketFor 12 (now + 1) .assigned (some 103)) = false
      ∧ ({ day := 65535, minute := 1439 } : DepotMoment).next = { day := 0, minute := 0 }
      ∧ ({ day := 65534, minute := 1439 } : DepotMoment).next = { day := 65535, minute := 0 } := by decide +kernel

theorem test_witness_SaveProfile :
    yard.takesRequests ∧ yard.store.write = none
      ∧ ({ yard with store := { image := [], write := some { bytes := [], head := controlHead 0#16 } } } : State).store.write
        = some { bytes := [], head := controlHead 0#16 } :=
  ⟨⟨by decide, by decide⟩, by decide⟩

/-- R20, R93, R98: a bus that the minute brings inside its protected horizon stops exporting; a second berth, whose bus keeps its
eligibility, keeps its targets. -/
theorem test_minute_withdraws_one_export :
    let exporter (n bus : Nat) : Berth := { berthOn n .occupied (some bus) with wanted := -30, decided := -30 }
    let full (b : Bus) : Bus := { b with held := some 3900, exportEligible := true }
    let s : State :=
      { yard with
        buses := [full (busAt 101 (some 1) (some 11)), full (busAt 102 (some 2) none)]
        berths := [exporter 1 101, exporter 2 102], tickets := [ticketFor 11 (dawn + 91) .assigned (some 101)] }
    ((nextOf (exec .minuteEvent s)).map fun t => t.berths.map fun b => (b.wanted, b.decided)) = some [(0, 0), (-30, -30)] := by
  decide +kernel

/-- R58, R62, log entries 5 and 43: a records reset drops the frame chosen and keeps the exchange in flight, void as it was. -/
theorem test_records_reset_of_the_line :
    let flight : Exchange := { address := 5, kind := .poll, void := true }
    ((nextOf (exec .recordsReset { yard with line := { yard.line with exchange := some flight, qualifying := true } })).map fun t =>
        (t.line.exchange, t.line.qualifying, t.line.restart)) = some (some flight, false, true)
      ∧ ((nextOf (exec .recordsReset { yard with line := { yard.line with nextSend := some (.grantTo 1) } })).map fun t =>
        t.line.nextSend) = some none := by decide +kernel

/-- A line at a choice: nothing due, break, restart, a lowering, a raise, four grants, polls of every kind. -/
theorem test_witness_NextExchange :
    yard.powered = true ∧ yard.choiceDue = true ∧ (inFlight 1 .poll yard).choiceDue = false
      ∧ ({ yard with grid := { yard.grid with stopLatch := true } } : State).grid.stopLatch = true
      ∧ ({ yard with line := { yard.line with restart := true } } : State).line.restart = true ∧ yard.line.restart = false
      ∧ yard.line.grantCount < 4 ∧ ({ yard.line with grantCount := 4 } : BerthLine).grantCount = 4
      ∧ (max ({ berthOn 1 .occupied none with sent := 1 } : Berth).decided 0 < max 1 0)
      ∧ ¬ (max ({ berthOn 1 .occupied none with decided := 1 } : Berth).decided 0 < max 0 0
        ∨ max (-({ berthOn 1 .occupied none with decided := 1 } : Berth).decided) 0 < max (-0 : Int) 0)
      ∧ (∀ b ∈ yard.berths, b.grantDue = false) ∧ yard.line.roundOpen = true ∧ yard.nextInSweep = some 1
      ∧ ({ yard with line := { yard.line with sweep := .berth 7 } } : State).nextInSweep = none
      ∧ ({ yard.line with roundOpen := false } : BerthLine).roundOpen = false := by decide +kernel

theorem test_witness_PollSendsChosenFrame :
    yard.powered = true
      ∧ ({ yard with line := { yard.line with nextSend := some .pollMeter } } : State).line.nextSend = some .pollMeter
      ∧ ({ yard with line := { yard.line with nextSend := some (.pollBerth 32) } } : State).line.nextSend = some (.pollBerth 32)
      ∧ yard.line.nextSend ≠ some .pollMeter ∧ (∀ n, yard.line.nextSend ≠ some (.pollBerth n))
      ∧ State.reset.line.condition = .preamble ∧ yard.line.condition ≠ .preamble ∧ State.reset.grid.stopLatch = false
      ∧ ({ State.reset with grid := { State.reset.grid with stopLatch := true } } : State).grid.stopLatch = true :=
  ⟨by decide, by decide, by decide, by decide, (fun n h => by cases h), by decide, by decide, by decide, by decide⟩

theorem test_witness_GrantCarriesDecidedTarget :
    yard.powered = true
      ∧ ({ yard with line := { yard.line with nextSend := some (.grantTo 1) } } : State).line.nextSend = some (.grantTo 1)
      ∧ (yard.berth? 1).map Berth.grantDue = some false
      ∧ (({ yard with berths := [{ berthOn 1 .occupied none with grantDue := true }] } : State).berth? 1).map Berth.grantDue
        = some true
      ∧ (∀ n, yard.line.nextSend ≠ some (.grantTo n)) :=
  ⟨by decide, by decide, by decide, by decide, (fun n h => by cases h)⟩

/-- A STATUS in each row of the plug table: faulted and refused, a fault code, unplugged, vehicle 0 and 10000, the occupant
again, an unknown vehicle, an AWAY bus, a bus at a silent berth and one at another berth; with and without pack data. -/
theorem test_witness_StatusTakesPlugAndPack :
    (inFlight 1 .poll yard).powered = true ∧ yard.tablesOk = true ∧ yard.occupancyOk = true ∧ yard.ticketLinksOk = true
      ∧ (inFlight 1 .poll yard).line.exchange = some { address := 1, kind := .poll, void := false } ∧ (1#8 : Byte).toNat = 1
      ∧ (({ yard with berths := [{ berthOn 1 .faulted none with faultCause := some .refused }] } : State).berth? 1).map
        (fun b => (b.state, b.faultCause)) = some (.faulted, some .refused)
      ∧ ({ pluggedIn 101 with faultCode := 1#8 } : StatusBody).faultCode ≠ 0#8
      ∧ ({ pluggedIn 101 with connector := 0#8 } : StatusBody).connector = 0#8 ∧ (pluggedIn 0).vehicle.toNat = 0
      ∧ 9999 < (pluggedIn 10000).vehicle.toNat ∧ (yard.berth? 1).bind Berth.busOccupant = some (pluggedIn 101).vehicle.toNat
      ∧ yard.bus? (pluggedIn 9999).vehicle.toNat = none ∧ (yard.bus? 103).map Bus.state = some .away
      ∧ (yard.bus? 104).map Bus.berth = some (some 4) ∧ (yard.berth? 4).map (fun r => (r.state, r.faultCause))
        = some (.faulted, some .silent)
      ∧ (yard.bus? 101).map Bus.berth = some (some 1) ∧ (yard.berth? 1).map Berth.state = some .occupied := by decide +kernel

/-- R32, R36, R57, R110: unplugged within the release window of its ticket, bus 101 is detached and the ticket RELEASED; with a
fault code the berth keeps the occupant it has, and a retry wait ends with a grant due. -/
theorem test_status_detaches_and_releases :
    let early : State := { yard with tickets := [ticketFor 11 (dawn + 30) .assigned (some 101)] }
    let after (body : StatusBody) (s : State) := nextOf (exec (.status 1#8 body) (inFlight 1 .poll s))
    ((after { pluggedIn 0 with connector := 0#8 } early).map fun t =>
        ((t.bus? 101).map fun b => (b.state, b.ticket), (t.ticket? 11).map fun x => (x.state, x.readyAtRelease)))
      = some (some (.away, none), some (.released, some false))
      ∧ ((after { pluggedIn 101 with faultCode := 9#8 } yard).bind fun t => (t.berth? 1).map fun b =>
        (b.state, b.occupant, b.dispenserCode)) = some (.faulted, some 101, some 9)
      ∧ ((after (pluggedIn 101)
          { yard with berths := [{ berthOn 1 .occupied (some 101) with decided := 30, retryWait := true }] }).map fun t =>
        t.berths.map fun b => (b.retryWait, b.grantDue)) = some [(false, true)] := by decide +kernel

/-- A depot of one berth in a state, with an output of 40 kW and a target, bus 103 AWAY, and no pass requested. -/
def plugDepot (state : BerthState) (occupant : Option Nat) (target : Int) : State :=
  let s : State :=
    { yard with
      buses := [busAt 101 (if state = .occupied then some 1 else none) none, busAt 103 none none], tickets := []
      berths := [{ berthOn 1 state occupant with reported := 40, wanted := target, decided := target }] }
  { s.closeEvent s with alloc := { (s.closeEvent s).alloc with passRequested := false } }

/-- The berth, bus 103 and the request for a pass after a STATUS of a vehicle. -/
def afterPlug (vehicle : Nat) (s : State) : List (BerthState × Int × Int) × Option Freshness × Bool :=
  match exec (.status 1#8 (pluggedIn vehicle)) (inFlight 1 .poll s) with
  | .next t =>
    (t.berths.map fun b => (b.state, b.wanted, b.decided), (t.bus? 103).map Bus.freshness, t.alloc.passRequested)
  | .fault _ => ([], none, false)
  | .refused _ => ([], none, false)

/-- R6, R13, R33, R35, R40: a change of vehicle makes both targets 0 and an AWAY bus that was FRESH STALE; an entry into FOREIGN
stops an export; the same vehicle with the same output keeps its target and requests no pass. -/
theorem test_status_targets_and_freshness :
    afterPlug 103 (plugDepot .occupied (some 101) 30) = ([(.occupied, 0, 0)], some .stale, true)
      ∧ afterPlug 500 (plugDepot .vacant none (-20)) = ([(.foreign, 0, 0)], some .fresh, true)
      ∧ afterPlug 101 (plugDepot .occupied (some 101) 30) = ([(.occupied, 30, 30)], some .fresh, false) := by decide +kernel

/-- R49 to R51, R66: the poll of the last berth of the round completes it, and with the hold expired ends STARTING. -/
theorem test_status_completes_the_round :
    let s : State :=
      { yard with
        run := { yard.run with state := .starting, holdExpired := true }
        line := { yard.line with qualifying := true, roundCounter := 65535 } }
    (([(.status 7#8 (pluggedIn 0)), .replyTimeout] : List Instr).all fun c =>
      ((nextOf (exec c (inFlight 7 .poll s))).map fun t =>
        (t.run.state, t.line.roundOpen, t.line.firstRound, t.line.roundCounter, t.alloc.passRequested))
        == some (.running, false, true, 0, true)) = true := by decide +kernel

/-- R68, R71: the third METER above the bound aborts the run; one that clears the last pause source resumes it, or aborts it
where the overdraw stands. -/
theorem test_meter_aborts_and_resumes :
    let s (state : RunState) (thermal : Bool) (count : Nat) : State :=
      { yard with run := { yard.run with state := state, thermalPause := thermal, overdraw := count } }
    let after (measured : Half) (t : State) :=
      (nextOf (exec (.meter { measured := measured, voltage := 1000#16, transformer := 0#8 }) (inFlight 0 .poll t))).map fun u =>
        (u.run.state, u.run.abortCause)
    after 421#16 (s .running false 2) = some (.idle, some .overdraw) ∧ after 420#16 (s .running false 2) = some (.running, none)
      ∧ after 90#16 (s .paused true 3) = some (.running, none) ∧ after 421#16 (s .paused true 3) = some (.idle, some .overdraw) := by
  decide +kernel

/-- A METER at the sag trip level and one below it; a measured import at the overdraw bound and above it. -/
theorem test_witness_MeterHandsOnItsContents :
    (inFlight 0 .poll yard).powered = true
      ∧ (inFlight 0 .poll yard).line.exchange = some { address := 0, kind := .poll, void := false }
      ∧ min 1500 (899#16 : Half).toNat < yard.profile.sagTripLevel ∧ ¬ (min 1500 (900#16 : Half).toNat < yard.profile.sagTripLevel)
      ∧ yard.grid.sag = false
      ∧ yard.profile.sagCount ≤ min 8 (({ yard.grid with lowCount := 2 } : GridMonitor).lowCount + 1)
      ∧ ¬ (yard.profile.feederLimit * (100 + yard.profile.overdrawTolerance) < min 4000 (420#16 : Half).toNat * 100)
      ∧ yard.profile.feederLimit * (100 + yard.profile.overdrawTolerance) < min 4000 (421#16 : Half).toNat * 100
      ∧ idleDepot.run.state = .idle ∧ yard.run.state = .running ∧ yard.run.thermalPause = false := by decide +kernel

theorem test_witness_ConfirmEndsGrant :
    (inFlight 4 (.grant 30) yard).powered = true ∧ yard.tablesOk = true
      ∧ (inFlight 4 (.grant 30) yard).line.exchange = some { address := 4, kind := .grant 30, void := false }
      ∧ (4#8 : Byte).toNat = 4 ∧ (yard.berth? 4).map (fun b => (b.state, b.faultCause)) = some (.faulted, some .silent)
      ∧ (yard.berth? 1).map Berth.state = some .occupied ∧ (1#8 : Byte) = 1#8 ∧ (2#8 : Byte) ≠ 1#8 := by decide +kernel

/-- Misses at each count, of a poll and of a grant, at the meter node, and outcomes that are discarded. -/
theorem test_witness_Misses_Void :
    yard.powered = true ∧ parseReply [] = none ∧ yard.line.exchange = none ∧ yard.tablesOk = true ∧ yard.countersOk = true
      ∧ (inFlight 1 (.grant 5) yard).line.exchange = some { address := 1, kind := .grant 5, void := false }
      ∧ ExchangeKind.grant 5 ≠ ExchangeKind.poll ∧ (yard.berth? 1).map Berth.missCount = some 0
      ∧ ({ berthOn 1 .occupied (some 101) with missCount := 2 } : Berth).missCount = 2
      ∧ (yard.berth? 4).map (fun b => (b.state, b.missCount)) = some (.faulted, 3)
      ∧ (yard.berth? 1).bind Berth.busOccupant = some 101 ∧ (yard.bus? 101).isSome = true
      ∧ (inFlight 0 .poll yard).line.exchange = some { address := 0, kind := .poll, void := false }
      ∧ ({ yard.line with meterMiss := 2 } : BerthLine).meterMiss = 2 ∧ yard.profile.meterSilentAbort = true
      ∧ ({ address := 7, kind := .poll, void := true } : Exchange).void = true ∧ yard.roundEndsAt 7 = true
      ∧ yard.roundEndsAt 1 = false := by decide +kernel

/-- Berth 1 with its plug fields, and bus 101's freshness, after a miss of that berth, FAULTED before it. -/
def afterMiss (cause : FaultCause) (misses : Nat) : Option Berth × Option Freshness :=
  let b := { berthOn 1 .faulted (some 101) with faultCause := some cause, dispenserCode := some 9, missCount := misses }
  match exec .replyTimeout (inFlight 1 .poll { yard with berths := [b] }) with
  | .next t => (t.berth? 1, (t.bus? 101).map Bus.freshness)
  | .fault _ => (none, none)
  | .refused _ => (none, none)

/-- R37: a FAULTED berth at its third miss keeps its bus and makes it STALE, cause SILENT or, where it was REFUSED, REFUSED; a
later miss changes no plug field. -/
theorem test_misses_of_faulted_berth :
    let b := { berthOn 1 .faulted (some 101) with faultCause := some .dispenser, dispenserCode := some 9, missCount := 3 }
    afterMiss .dispenser 2 = (some { b with faultCause := some .silent, dispenserCode := none }, some .stale)
      ∧ afterMiss .refused 2 = (some { b with faultCause := some .refused }, some .stale)
      ∧ afterMiss .dispenser 3 = (some b, some .fresh) := by decide +kernel

/-- A depot with an EXPORT pledge ACTIVE and its ceilings current. -/
def exportDepot : State :=
  let s : State :=
    { yard with
      pledges := [pledgeOf 23 .exporting (dawn - 5) .active], tickets := []
      buses := yard.buses.map fun b => { b with ticket := none, held := some 3900 } }
  { s.closeEvent s with alloc := { (s.closeEvent s).alloc with passRequested := true } }

/-- A pass not raised, and one raised in a depot with every derived value current: of two candidates with
equal surplus the lower berth gives all the room, the other imports, and nothing of the yield list moves. -/
theorem test_witness_AllocationPass :
    yard.powered = true ∧ yard.alloc.passRequested = false ∧ exportDepot.alloc.passRequested = true
      ∧ exportDepot.powered = true ∧ exportDepot.tablesOk = true
      ∧ (∀ b ∈ exportDepot.buses, exportDepot.deriveBus b = b)
      ∧ exportDepot.alloc.importCeiling = exportDepot.importCeilingNow.1 ∧ exportDepot.alloc.binding = exportDepot.importCeilingNow.2
      ∧ exportDepot.alloc.exportCeiling = exportDepot.exportCeilingNow
      ∧ ((nextOf (exec .allocationPass exportDepot)).map fun t =>
        (t.berths.map Berth.wanted, t.alloc.passRequested, decide (t.reserve = exportDepot.reserve)))
        = some ([-50, 60, 0, 0, 0, 0, 0], false, true) := by decide +kernel

/-- Ceilings held at 0 by the run, and terms at the point where they are equal. -/
theorem test_witness_Ceilings :
    State.reset.run.state ≠ .running ∧ depotAtDawn.heldAtZero = false ∧ depotAtDawn.alloc.baseLoad ≤ depotAtDawn.profile.feederLimit
      ∧ depotAtDawn.importCeilingNow = (400, .curtail) ∧ depotAtDawn.feederTerm = 400
      ∧ ({ depotAtDawn with grid := { depotAtDawn.grid with tripLatch := true }
                            profile := { depotAtDawn.profile with tripAllowance := 400 } } : State).importCeilingNow.2 = .trip := by
  decide +kernel

/-- The derived fields of buses with and without ticket and berth, and a ticket of each grade. -/
theorem test_witness_DerivedFields :
    (yard.ticketOf (busAt 102 (some 2) none)).isSome = false ∧ (yard.ticketOf (busAt 101 (some 1) (some 11))).isSome = true
      ∧ (yard.berthOf (busAt 103 none none)).isSome = false ∧ (yard.berthOf (busAt 101 (some 1) none)).isSome = true
      ∧ (depotAtDawn.ticket? 11).map (fun x => (x.state, x.grade)) = some (.assigned, some .atRisk)
      ∧ (yard.gradeTicket { ticketFor 11 (dawn + 60) .assigned (some 101) with need := 1200 }).grade = some .ready := by
  decide +kernel

theorem test_witness_CommitmentTest :
    (∀ p ∈ yard.pledges, 0 < p.duration) ∧ commitmentTest 400 200 (yard.pledges.filter Pledge.isLive) = true := by decide

/-- Every default setting lies within its range, and the yard's berths make an image. -/
theorem test_witness_SavedImageLoadsBack :
    (Profile.defaults.values.zipIdx.all fun x => profileFieldFits (x.2 + 1) x.1) = true
      ∧ keysRising Berth.number yard.berths = true
      ∧ (∀ b ∈ yard.berths, 1 ≤ b.number ∧ b.number ≤ 32 ∧ 1 ≤ b.branch ∧ b.branch ≤ 4 ∧ 1 ≤ b.trench ∧ b.trench ≤ 8
        ∧ 1 ≤ b.position ∧ b.position ≤ 8 ∧ 10 ≤ b.maxImport ∧ b.maxImport ≤ 150 ∧ b.maxExport ≤ 100
        ∧ -50 ≤ b.correction ∧ b.correction ≤ 50) := by decide +kernel

/-- What sets an image aside, part by part: a CRC-16 that does not match, a setting or a berth field out of its range, a number
that repeats; and values that pass. -/
theorem test_images_set_aside :
    loadImage [] = none ∧ loadImage [0#8, 0#8, 0#8, 1#8, 0#8, 0#8] = none
      ∧ crc16 [0#8, 0#8, 0#8, 1#8] ≠ 0#16
      ∧ readSettings 1 Profile.defaults.values Profile.defaults = some Profile.defaults
      ∧ readSettings 1 (Profile.defaults.values.set 0 0) Profile.defaults = none
      ∧ readBerths [2, 1, 1, 1, 100, 50, 0, 0, 1, 1, 1, 1, 100, 50, 0, 1] = some [newBerth 2 1 1 1 100 50 0 false, newBerth 1 1 1 1 100 50 0 true]
      ∧ readBerths [33, 1, 1, 1, 100, 50, 0, 0] = none ∧ readBerths [1, 5, 1, 1, 100, 50, 0, 0] = none
      ∧ readBerths [1, 1, 1, 1, 100, 50, 0, 2] = none ∧ repeats [1, 1] = true ∧ repeats [2, 1] = false := by decide +kernel

/-- A state that has every invariant, other than the one after reset: the depot at dawn, before a minute event. -/
theorem test_witness_StepKeeps :
    depotAtDawn.tablesOk = true ∧ depotAtDawn.occupancyOk = true ∧ depotAtDawn.ticketLinksOk = true
      ∧ depotAtDawn.linkOk = true ∧ depotAtDawn.grantCapOk = true ∧ depotAtDawn.lineOk = true ∧ depotAtDawn.countersOk = true
      ∧ (∀ b ∈ depotAtDawn.buses, depotAtDawn.deriveBus b = b) ∧ (∀ x ∈ depotAtDawn.tickets, depotAtDawn.gradeTicket x = x)
      ∧ depotAtDawn.alloc.importCeiling = depotAtDawn.importCeilingNow.1 ∧ depotAtDawn.alloc.binding = depotAtDawn.importCeilingNow.2
      ∧ depotAtDawn.alloc.exportCeiling = depotAtDawn.exportCeilingNow
      ∧ depotAtDawn.reserve.curtailCommitment = sumOf Pledge.committed (depotAtDawn.pledges.filter Pledge.isCurtailing)
      ∧ depotAtDawn.reserve.exportCommitment = sumOf Pledge.committed (depotAtDawn.pledges.filter Pledge.isExporting)
      ∧ (nextOf (step { depotAtDawn with pending := [.minuteEvent] })).isSome = true := by decide +kernel

end Sys2Proof.Tests
end

section
/-! PROOFS. What a step can do, said once: a request row is a request, an event row is an effect, and a property of the records
that owners, events, POWER_ON and a second keep is kept by every step. -/

namespace Sys2Proof.Machine

/-! ## The rows by what they run -/

/-- Every request row runs `State.request` on the head and the request it stands for. -/
theorem exec_of_asRequest {c : Instr} {h : RequestHead} {r : Request} (s : State) (hc : asRequest c = some (h, r)) :
    exec c s = ifPowered (State.request h r) s := by
  cases c <;> cases hc <;> rfl

/-- The effect of a row that is an event of a block's own engine or of a line. -/
def eventEffect : Instr → Option (State → State)
  | .nextExchangeChoice => some State.takeChoice
  | .preambleEnd => some State.endPreamble
  | .poll => some State.sendPoll
  | .grant => some State.sendChosenGrant
  | .status responder body => some (State.takeReply (.status responder body))
  | .meter body => some (State.takeReply (.meter 0#8 body))
  | .confirm responder body => some (State.takeReply (.confirm responder body))
  | .invalidReply chars => some (State.takeChars chars)
  | .replyTimeout => some State.takeMiss
  | .allocationPass => some State.takePass
  | .holdTimerExpiry => some State.expireHold
  | .supervisionExpiry => some State.expireSupervision
  | .minuteEvent => some State.advanceMinute
  | .tripAssertion => some fun s => s.assertTrip.closeEvent s
  | .tripRelease => some fun s => s.releaseTrip.closeEvent s
  | .stopAssertion => some fun s => s.assertStop.closeEvent s
  | .stopRelease => some fun s => s.releaseStop.closeEvent s
  | .lineSample trip stop => some fun s => ((s.sampleTrip trip).sampleStop stop).closeEvent s
  | _ => none

theorem exec_of_eventEffect {c : Instr} {f : State → State} (s : State) (hc : eventEffect c = some f) :
    exec c s = ifPowered f s := by
  cases c <;> cases hc <;> rfl

/-! ## What leaves the records as they are -/

/-- `t` holds the records of `s`: the two differ at most in the depot link, the attention unit, the supervision timer, the
profile store, the power and the queue. -/
structure SameRecords (s t : State) : Prop where
  buses : t.buses = s.buses
  berths : t.berths = s.berths
  line : t.line = s.line
  run : t.run = s.run
  alloc : t.alloc = s.alloc
  clock : t.clock = s.clock
  tickets : t.tickets = s.tickets
  pledges : t.pledges = s.pledges
  reserve : t.reserve = s.reserve
  grid : t.grid = s.grid
  profile : t.profile = s.profile

theorem sameRecords_refl (s : State) : SameRecords s s := by constructor <;> rfl

theorem sameRecords_advance (n : Nat) (s : State) : SameRecords s (s.advance n) := by
  unfold State.advance
  split
  · split <;> constructor <;> rfl
  · exact sameRecords_refl s

theorem sameRecords_cutWrite (s : State) : SameRecords s s.cutWrite := by
  unfold State.cutWrite
  split <;> constructor <;> rfl

theorem sameRecords_endWrite (s : State) : SameRecords s s.endWrite := by
  unfold State.endWrite
  split <;> constructor <;> rfl

/-! ## A property that every step keeps -/

/-- A property of the records that owners of requests, events, POWER_ON and the counting of a second keep. -/
structure Kept (P : State → Prop) : Prop where
  records : ∀ {s t : State}, SameRecords s t → P s → P t
  owner : ∀ (s : State) (r : Request), P s → P (s.owner r).state
  event : ∀ {c : Instr} {f : State → State}, eventEffect c = some f → ∀ s : State, P s → P (f s)
  powerOn : ∀ s : State, P s → P s.powerOn
  second : ∀ s : State, P s → P s.countSecond

section
variable {P : State → Prop}

theorem ifPowered_keeps {f : State → State} {s t : State} (hf : P s → P (f s)) (h : ifPowered f s = .next t) (hs : P s) :
    P t := by
  cases hp : s.powered with
  | false => rw [ifPowered_off f s hp] at h; cases h; exact hs
  | true => rw [ifPowered_on f s hp] at h; cases h; exact hf hs

theorem Kept.respond (hk : Kept P) (h : RequestHead) (a : Answer) (ha : P a.state) : P (a.respond h) :=
  hk.records (by constructor <;> rfl) ha

theorem Kept.serve (hk : Kept P) (h : RequestHead) (r : Request) (s : State) (hs : P s) : P (s.serve h r) := by
  unfold State.serve
  split
  · exact hk.records (by constructor <;> rfl) hs
  · exact hk.respond h _ (hk.owner s r hs)

theorem Kept.dispatch (hk : Kept P) (h : RequestHead) (r : Option Request) (s : State) (hs : P s) : P (s.dispatch h r) := by
  have ht : P s.restartSupervision := hk.records (by constructor <;> rfl) hs
  unfold State.dispatch
  cases r with
  | none => exact hk.respond h _ ht
  | some r =>
    dsimp only
    split
    · exact hk.serve h r _ ht
    · exact hk.respond h _ ht

theorem Kept.shifted (hk : Kept P) (out : List Byte) (s : State) (hs : P s) : P (s.shifted out) :=
  hk.records (by constructor <;> rfl) hs

theorem Kept.request (hk : Kept P) (h : RequestHead) (r : Request) (s : State) (hs : P s) : P (s.request h r) := by
  unfold State.request
  dsimp only
  split
  · exact hk.records (by constructor <;> rfl) hs
  · split
    · exact hk.records (by constructor <;> rfl) hs
    · exact hk.shifted _ _ (hk.dispatch h _ _ (hk.records (by constructor <;> rfl) hs))

theorem Kept.mismatch (hk : Kept P) (st : Status) (h : RequestHead) (s : State) (hs : P s) : P (s.mismatch st h) :=
  hk.records (by constructor <;> rfl) hs

theorem Kept.extend (hk : Kept P) (a : Assembly) (last : Bool) (s : State) (hs : P s) : P (s.extend a last) := by
  unfold State.extend State.assembled
  split
  · exact hk.mismatch _ _ s hs
  · split
    · exact hk.dispatch _ _ _ (hk.records (by constructor <;> rfl) hs)
    · exact hk.records (by constructor <;> rfl) hs

theorem Kept.takeSegment (hk : Kept P) (g : Segment) (s : State) (hs : P s) : P (s.takeSegment g) := by
  unfold State.takeSegment
  split
  · exact hk.extend _ _ s hs
  · split
    · exact hs
    · split
      · exact hk.mismatch _ _ s hs
      · split
        · exact hk.mismatch _ _ s hs
        · exact hk.extend _ _ s hs

theorem Kept.takeSend (hk : Kept P) (bytes : List Byte) (s : State) (hs : P s) : P (s.takeSend bytes) := by
  have ht : P s.statusOut := hk.records (by constructor <;> rfl) hs
  unfold State.takeSend State.deliver
  refine hk.shifted _ _ ?_
  split
  · exact ht
  · split
    · exact hk.records (by constructor <;> rfl) hs
    · split
      · exact hk.takeSegment _ _ ht
      · exact ht

theorem Kept.takeFetch (hk : Kept P) (clocked : Nat) (s : State) (hs : P s) : P (s.takeFetch clocked) := by
  have ht : P s.statusOut := hk.records (by constructor <;> rfl) hs
  unfold State.takeFetch
  dsimp only
  split
  · exact hk.shifted _ _ (hk.records (sameRecords_advance _ _) ht)
  · exact hk.shifted _ _ ht

theorem Kept.ignored (hk : Kept P) (whole : Bool) (direction : Byte) (bytes : List Byte) (s : State) (hs : P s) :
    P (s.ignored whole direction bytes) := by
  unfold State.ignored State.transact
  split
  · split
    · exact hk.takeSend bytes s hs
    · split
      · exact hk.takeFetch _ s hs
      · exact hk.records (by constructor <;> rfl) hs
  · exact hk.shifted _ s hs

/-- A command keeps what owners, events and POWER_ON keep. -/
theorem Kept.exec (hk : Kept P) {c : Instr} {s t : State} (h : exec c s = .next t) (hs : P s) : P t := by
  cases hr : asRequest c with
  | some x =>
    rw [exec_of_asRequest s hr] at h
    exact ifPowered_keeps (hk.request _ _ s) h hs
  | none =>
    cases he : eventEffect c with
    | some f =>
      rw [exec_of_eventEffect s he] at h
      exact ifPowered_keeps (hk.event he s) h hs
    | none =>
      cases c
      case send bytes => exact ifPowered_keeps (hk.takeSend bytes s) h hs
      case fetch clocked => exact ifPowered_keeps (hk.takeFetch clocked s) h hs
      case ignoredTransaction whole direction bytes =>
        exact ifPowered_keeps (hk.ignored whole direction bytes s) h hs
      case profileWriteEnd => exact ifPowered_keeps (hk.records (sameRecords_endWrite s)) h hs
      case powerOn => cases h; exact hk.powerOn s hs
      case powerFailure =>
        refine ifPowered_keeps (fun hs => ?_) h hs
        exact hk.records (s := s.cutWrite) (by constructor <;> rfl) (hk.records (sameRecords_cutWrite s) hs)
      all_goals cases hr <;> cases he

theorem Kept.timerEvent (hk : Kept P) (k : TimerKind) (s : State) (hs : P s) : P (s.timerEvent k) := by
  cases k
  case hold => exact hk.event (c := .holdTimerExpiry) rfl s hs
  case supervision => exact hk.event (c := .supervisionExpiry) rfl s hs
  case minute => exact hk.event (c := .minuteEvent) rfl s hs

theorem Kept.timerEvents (hk : Kept P) (l : List TimerKind) (s : State) (hs : P s) : P (l.foldl State.timerEvent s) := by
  induction l generalizing s with
  | nil => exact hs
  | cons k l ih => exact ih _ (hk.timerEvent k s hs)

theorem Kept.passSecond (hk : Kept P) (s : State) (hs : P s) : P s.passSecond := by
  have hc := hk.second s hs
  unfold State.passSecond
  dsimp only
  split
  · exact hk.timerEvents _ _ hc
  · exact hk.timerEvents _ _ (hk.records (by constructor <;> rfl) hc)

/-- A step keeps what owners, events, POWER_ON and the counting of a second keep. -/
theorem Kept.step (hk : Kept P) {s t : State} (h : step s = .next t) (hs : P s) : P t := by
  unfold Machine.step at h
  split at h
  · exact hk.exec h (hk.records (by constructor <;> rfl) hs)
  · exact ifPowered_keeps (hk.passSecond s) h hs

end

end Sys2Proof.Machine
end

section
/-! PROOFS. The keys of the four tables. Nearly every operation changes records in their places and keeps the keys, one lemma
for each; the table form of O56 is a property of the keys alone. -/

namespace Sys2Proof.Machine

/-! ## The keys of the tables -/

/-- The keys of the bus, the berth, the ticket and the pledge table, in the order of the records. -/
def State.keys (s : State) : List Nat × List Nat × List Nat × List Nat :=
  (s.buses.map Bus.fleet, s.berths.map Berth.number, s.tickets.map Ticket.id, s.pledges.map Pledge.id)

/-- The keys of a state written out field by field; together with `keys_fold` it takes an update of other fields away. -/
@[simp] theorem keys_mk (powered depot buses berths line run alloc clock tickets pledges reserve grid attention supervision
    profile store freeIndex pending) :
    (State.mk powered depot buses berths line run alloc clock tickets pledges reserve grid attention supervision profile store
      freeIndex pending).keys
      = (buses.map Bus.fleet, berths.map Berth.number, tickets.map Ticket.id, pledges.map Pledge.id) := rfl

@[simp] theorem keys_fold (s : State) :
    (s.buses.map Bus.fleet, s.berths.map Berth.number, s.tickets.map Ticket.id, s.pledges.map Pledge.id) = s.keys := rfl

theorem keysRising_map_key {α : Type} (key : α → Nat) (l : List α) : keysRising key l = keysRising id (l.map key) := by
  rw [Bool.eq_iff_iff, keysRising_iff, keysRising_iff, List.map_id]

/-- The table form, table by table. -/
theorem tablesOk_iff (s : State) :
    s.tablesOk = true ↔
      (keysRising Bus.fleet s.buses = true ∧ s.buses.length ≤ 96)
        ∧ (keysRising Berth.number s.berths = true ∧ ∀ b ∈ s.berths, 1 ≤ b.number ∧ b.number ≤ 32)
        ∧ (keysRising Ticket.id s.tickets = true ∧ s.tickets.length ≤ 128)
        ∧ (keysRising Pledge.id s.pledges = true ∧ s.pledges.length ≤ 16) := by
  have hw : ∀ n : Nat, within 1 32 (n : Int) = true ↔ 1 ≤ n ∧ n ≤ 32 := fun n => by simp [within]
  simp only [State.tablesOk, Bool.and_eq_true, decide_eq_true_eq, List.all_eq_true, hw]
  simp only [Config.busSlots, Config.ticketSlots, Config.pledgeSlots]
  tauto

/-- The table form is a property of the keys. -/
theorem tablesOk_iff_keys (s : State) :
    s.tablesOk = true ↔
      (keysRising id s.keys.1 = true ∧ s.keys.1.length ≤ 96)
        ∧ (keysRising id s.keys.2.1 = true ∧ ∀ n ∈ s.keys.2.1, 1 ≤ n ∧ n ≤ 32)
        ∧ (keysRising id s.keys.2.2.1 = true ∧ s.keys.2.2.1.length ≤ 128)
        ∧ (keysRising id s.keys.2.2.2 = true ∧ s.keys.2.2.2.length ≤ 16) := by
  simp only [tablesOk_iff, State.keys, keysRising_map_key Bus.fleet, keysRising_map_key Berth.number,
    keysRising_map_key Ticket.id, keysRising_map_key Pledge.id, List.length_map, List.forall_mem_map]

theorem tablesOk_of_keys {s t : State} (h : t.keys = s.keys) : t.tablesOk = s.tablesOk := by
  rw [Bool.eq_iff_iff, tablesOk_iff_keys, tablesOk_iff_keys, h]

/-! ## Changes of records in their places -/

/-- A map that keeps keys keeps the list of them. -/
theorem map_key_map {α : Type} {key : α → Nat} {f : α → α} (hf : ∀ x, key (f x) = key x) (l : List α) :
    (l.map f).map key = l.map key := by
  rw [List.map_map]
  exact List.map_congr_left fun x _ => hf x

@[simp] theorem detach_fleet (b : Bus) : b.detach.fleet = b.fleet := rfl
@[simp] theorem attach_fleet (n : Nat) (b : Bus) : (b.attach n).fleet = b.fleet := rfl
@[simp] theorem takePack_fleet (pack : PackData) (b : Bus) : (b.takePack pack).fleet = b.fleet := rfl
@[simp] theorem goStale_fleet (b : Bus) : b.goStale.fleet = b.fleet := rfl
@[simp] theorem deriveBus_fleet (s : State) (b : Bus) : (s.deriveBus b).fleet = b.fleet := rfl
@[simp] theorem busAmend_fleet (pairs : List Pair) (b : Bus) : (b.amend pairs).fleet = b.fleet := rfl
@[simp] theorem leave_id (state : TicketState) (x : Ticket) : (x.leave state).id = x.id := rfl
@[simp] theorem assign_id (k : Nat) (x : Ticket) : (x.assign k).id = x.id := rfl
@[simp] theorem ticketAmend_id (pairs : List Pair) (x : Ticket) : (x.amend pairs).id = x.id := rfl
@[simp] theorem pledgeAmend_id (pairs : List Pair) (p : Pledge) : (p.amend pairs).id = p.id := rfl
@[simp] theorem completeWith_id (outcome : PledgeOutcome) (p : Pledge) : (p.completeWith outcome).id = p.id := rfl
@[simp] theorem settle_number (state : BerthState) (occupant : Option Nat) (b : Berth) :
    (b.settle state occupant).number = b.number := rfl
@[simp] theorem isolate_number (b : Berth) : b.isolate.number = b.number := rfl
@[simp] theorem holdBack_number (b : Berth) : b.holdBack.number = b.number := rfl
@[simp] theorem atBreak_number (b : Berth) : b.atBreak.number = b.number := rfl
@[simp] theorem berthAmend_number (pairs : List Pair) (b : Berth) : (b.amend pairs).number = b.number := rfl
@[simp] theorem afterReset_number (b : Berth) : b.afterReset.number = b.number := rfl

@[simp] theorem heard_number (b : Berth) : b.heard.number = b.number := by
  unfold Berth.heard
  split <;> rfl

@[simp] theorem restore_number (b : Berth) : b.restore.number = b.number := by
  unfold Berth.restore
  split <;> rfl

@[simp] theorem endRetry_number (b : Berth) : b.endRetry.number = b.number := by
  unfold Berth.endRetry
  split <;> rfl

@[simp] theorem updBus_keys (k : Nat) {f : Bus → Bus} (hf : ∀ b, (f b).fleet = b.fleet) (s : State) :
    (s.updBus k f).keys = s.keys := by
  simp only [State.keys, updBus_buses, updBus_berths, updBus_tickets, updBus_pledges, map_key_updateKey k f hf]

@[simp] theorem updBerth_keys (n : Nat) {f : Berth → Berth} (hf : ∀ b, (f b).number = b.number) (s : State) :
    (s.updBerth n f).keys = s.keys := by
  simp only [State.keys, updBerth_buses, updBerth_berths, updBerth_tickets, updBerth_pledges, map_key_updateKey n f hf]

@[simp] theorem updTicket_keys (k : Nat) {f : Ticket → Ticket} (hf : ∀ x, (f x).id = x.id) (s : State) :
    (s.updTicket k f).keys = s.keys := by
  simp only [State.keys, updTicket_buses, updTicket_berths, updTicket_tickets, updTicket_pledges, map_key_updateKey k f hf]

@[simp] theorem updPledge_keys (k : Nat) {f : Pledge → Pledge} (hf : ∀ p, (f p).id = p.id) (s : State) :
    (s.updPledge k f).keys = s.keys := by
  simp only [State.keys, updPledge_buses, updPledge_berths, updPledge_tickets, updPledge_pledges, map_key_updateKey k f hf]

/-- The berths changed in their places, and nothing else in the tables. -/
theorem mapBerths_keys {f : Berth → Berth} (hf : ∀ b, (f b).number = b.number) {s t : State}
    (hr : t.berths = s.berths.map f) (hb : t.buses = s.buses) (hx : t.tickets = s.tickets) (hp : t.pledges = s.pledges) :
    t.keys = s.keys := by
  simp only [State.keys, hr, hb, hx, hp, map_key_map hf]

@[simp] theorem raiseCause_keys (c : Cause) (s : State) : (s.raiseCause c).keys = s.keys := rfl
@[simp] theorem requestPass_keys (s : State) : s.requestPass.keys = s.keys := rfl
@[simp] theorem abandonRound_keys (s : State) : s.abandonRound.keys = s.keys := rfl
@[simp] theorem clearFirstRound_keys (s : State) : s.clearFirstRound.keys = s.keys := rfl
@[simp] theorem leaveLine_keys (n : Nat) (s : State) : (s.leaveLine n).keys = s.keys := rfl
@[simp] theorem endExchange_keys (s : State) : s.endExchange.keys = s.keys := rfl
@[simp] theorem chooseSend_keys (n : NextSend) (s : State) : (s.chooseSend n).keys = s.keys := rfl
@[simp] theorem sendMeterPoll_keys (s : State) : s.sendMeterPoll.keys = s.keys := rfl
@[simp] theorem sendBerthPoll_keys (n : Nat) (s : State) : (s.sendBerthPoll n).keys = s.keys := rfl
@[simp] theorem clearTrip_keys (s : State) : s.clearTrip.keys = s.keys := rfl
@[simp] theorem assertTrip_keys (s : State) : s.assertTrip.keys = s.keys := rfl
@[simp] theorem takeBaseLoad_keys (m : Nat) (s : State) : (s.takeBaseLoad m).keys = s.keys := rfl
@[simp] theorem countSecond_keys (s : State) : s.countSecond.keys = s.keys := rfl

@[simp] theorem raiseIf_keys (raised : Bool) (c : Cause) (s : State) : (s.raiseIf raised c).keys = s.keys := by
  cases raised <;> rfl

@[simp] theorem setTarget_keys (n : Nat) (w d : Int) (s : State) : (s.setTarget n w d).keys = s.keys :=
  updBerth_keys n (setTarget_number _ w d) s

@[simp] theorem zeroTargets_keys (s : State) : s.zeroTargets.keys = s.keys :=
  mapBerths_keys (f := fun b => b.setTarget (s.grantInFlight b.number) 0 0) (fun _ => rfl) rfl rfl rfl rfl

/-! ## The end of an event -/

theorem withdrawn_number (s : State) (b : Berth) : (s.withdrawn b).number = b.number := by
  unfold State.withdrawn
  split <;> rfl

theorem gradeTicket_id (s : State) (x : Ticket) : (s.gradeTicket x).id = x.id := by
  unfold State.gradeTicket
  split
  · split <;> rfl
  · rfl

@[simp] theorem refreshBuses_keys (s : State) : s.refreshBuses.keys = s.keys := by
  rw [refreshBuses_spec, keys_mk, map_key_map (deriveBus_fleet s), map_key_map (withdrawn_number s), keys_fold]

@[simp] theorem regrade_keys (s : State) : s.regrade.keys = s.keys := by
  unfold State.regrade
  rw [raiseIf_keys, keys_mk, map_key_map (gradeTicket_id s), keys_fold]

@[simp] theorem updateYield_keys (risk : List Nat) (s : State) : (s.updateYield risk).keys = s.keys := rfl

@[simp] theorem settleTickets_keys (s before : State) : (s.settleTickets before).keys = s.keys := by
  unfold State.settleTickets
  dsimp only
  split <;> simp

@[simp] theorem finishEvent_keys (s before : State) : (s.finishEvent before).keys = s.keys := by
  rw [finishEvent_spec]
  rfl

@[simp] theorem closeEvent_keys (s before : State) : (s.closeEvent before).keys = s.keys := by
  simp [State.closeEvent]

/-! ## Tickets and buses -/

@[simp] theorem unlinkBus_keys (k : Option Nat) (s : State) : (s.unlinkBus k).keys = s.keys := by
  cases k <;> simp [State.unlinkBus]

@[simp] theorem linkBus_keys (k id : Nat) (s : State) : (s.linkBus k id).keys = s.keys := by simp [State.linkBus]

@[simp] theorem releaseTicket_keys (x : Ticket) (s : State) : (s.releaseTicket x).keys = s.keys := by
  simp [State.releaseTicket]

@[simp] theorem missTicket_keys (x : Ticket) (s : State) : (s.missTicket x).keys = s.keys := by
  simp [State.missTicket, updTicket_keys _ (leave_id _)]

@[simp] theorem ticketDetached_keys (k : Nat) (s : State) : (s.ticketDetached k).keys = s.keys := by
  unfold State.ticketDetached
  split
  · split <;> simp
  · rfl

@[simp] theorem ticketMinute_keys (now : Nat) (s : State) (x : Ticket) : (s.ticketMinute now x).keys = s.keys := by
  unfold State.ticketMinute
  split
  · split <;> simp
  · split
    · split <;> split <;> simp
    · rfl
  · rfl
  · rfl

/-- Operations that keep the keys keep them one after another. -/
theorem foldl_keys {α : Type} {f : State → α → State} (hf : ∀ s x, (f s x).keys = s.keys) (l : List α) (s : State) :
    (l.foldl f s).keys = s.keys := by
  induction l generalizing s with
  | nil => rfl
  | cons x l ih => rw [List.foldl_cons, ih, hf]

@[simp] theorem ticketsMinute_keys (s : State) : s.ticketsMinute.keys = s.keys := by
  unfold State.ticketsMinute
  split
  · exact foldl_keys (ticketMinute_keys _) _ _
  · rfl

/-! ## The pledge table's minute -/

/-- `t` is `s` with its pledges changed in their places, and with other yields and attention flags. -/
def PledgesMoved (s t : State) : Prop :=
  ∃ (pledges : List Pledge) (reserve : Reserve) (attention : Attention),
    pledges.map Pledge.id = s.pledges.map Pledge.id
      ∧ t = { s with pledges := pledges, reserve := reserve, attention := attention }

theorem PledgesMoved.trans {s t u : State} (h : PledgesMoved s t) (h' : PledgesMoved t u) : PledgesMoved s u := by
  obtain ⟨p, r, a, hp, rfl⟩ := h
  obtain ⟨p', r', a', hp', rfl⟩ := h'
  exact ⟨p', r', a', hp'.trans hp, rfl⟩

theorem PledgesMoved.raiseIf {s t : State} (h : PledgesMoved s t) (raised : Bool) (c : Cause) :
    PledgesMoved s (t.raiseIf raised c) := by
  obtain ⟨p, r, a, hp, rfl⟩ := h
  cases raised
  · exact ⟨p, r, a, hp, rfl⟩
  · exact ⟨p, r, _, hp, rfl⟩

theorem pledgesMoved_map {f : Pledge → Pledge} (hf : ∀ p, (f p).id = p.id) (s : State) :
    PledgesMoved s { s with pledges := s.pledges.map f } :=
  ⟨_, _, _, map_key_map hf s.pledges, rfl⟩

theorem assessIn_id (l : List (Nat × Nat)) (p : Pledge) : (p.assessIn l).id = p.id := by
  unfold Pledge.assessIn Pledge.assess
  split
  · split <;> rfl
  · rfl

theorem bookedMinute_id (now : Nat) (s : State) (p : Pledge) : (s.bookedMinute now p).id = p.id := by
  unfold State.bookedMinute
  split
  · split
    · rfl
    · split
      · split <;> rfl
      · rfl
  · rfl

theorem activate_id (now : Nat) (p : Pledge) : (p.activate now).id = p.id := by
  unfold Pledge.activate
  split <;> rfl

theorem reforecast_id (s : State) (p : Pledge) : (s.reforecast p).id = p.id := by
  unfold State.reforecast
  split <;> rfl

/-- R118: the six steps change pledges in their places, the yields and the attention flags, and nothing else. -/
theorem pledgesMinute_moved (risk : List Nat) (s : State) : PledgesMoved s (s.pledgesMinute risk) := by
  unfold State.pledgesMinute
  split
  · rename_i now _
    have assessed (u : State) : PledgesMoved u u.assessPledges := (pledgesMoved_map (assessIn_id _) u).raiseIf _ _
    have completed (u : State) : PledgesMoved u (u.completePledges now) :=
      (pledgesMoved_map (fun p => by split <;> rfl) u).raiseIf _ _
    have booked (u : State) : PledgesMoved u (u.bookedPledges now) :=
      ((pledgesMoved_map (bookedMinute_id now u) u).raiseIf _ _).raiseIf _ _
    have activated (u : State) : PledgesMoved u (u.activatePledges now) :=
      (pledgesMoved_map (fun p => by split <;> [exact activate_id now p; rfl]) u).raiseIf _ _
    have forecast (u : State) : PledgesMoved u u.forecastPledges := (pledgesMoved_map (reforecast_id u) u).raiseIf _ _
    have yielded (u : State) : PledgesMoved u (u.updateYield risk) := ⟨_, _, _, rfl, rfl⟩
    exact (((((assessed _).trans (completed _)).trans (booked _)).trans (activated _)).trans (forecast _)).trans (yielded _)
  · exact ⟨_, _, _, rfl, rfl⟩

@[simp] theorem pledgesMinute_keys (risk : List Nat) (s : State) : (s.pledgesMinute risk).keys = s.keys := by
  obtain ⟨p, r, a, hp, h⟩ := pledgesMinute_moved risk s
  rw [h, keys_mk, hp, keys_fold]

@[simp] theorem takeMinute_keys (s before : State) : (s.takeMinute before).keys = s.keys := by
  unfold State.takeMinute
  dsimp only
  split <;> simp

/-! ## Run control -/

@[simp] theorem setRun_keys (r : RunState) (s : State) : (s.setRun r).keys = s.keys := by
  unfold State.setRun
  dsimp only
  split
  · rfl
  · split <;> simp

@[simp] theorem abortRun_keys (c : AbortCause) (s : State) : (s.abortRun c).keys = s.keys := by simp [State.abortRun]

@[simp] theorem causeArises_keys (c : AbortCause) (s : State) : (s.causeArises c).keys = s.keys := by
  unfold State.causeArises
  split <;> simp

@[simp] theorem startRun_keys (s : State) : s.startRun.keys = s.keys := by
  unfold State.startRun
  split
  · rfl
  · simp [State.enterStarting]

@[simp] theorem testStarting_keys (s : State) : s.testStarting.keys = s.keys := by
  unfold State.testStarting State.endStarting
  split
  · split
    · simp
    · split <;> simp
  · rfl

@[simp] theorem setSources_keys (host thermal : Bool) (s : State) : (s.setSources host thermal).keys = s.keys := by
  unfold State.setSources
  dsimp only
  split
  · split <;> simp
  · split
    · split <;> simp
    · simp
  · rfl
  · rfl

@[simp] theorem stopRun_keys (s : State) : s.stopRun.keys = s.keys := by
  unfold State.stopRun
  split <;> simp

@[simp] theorem meterToRun_keys (measured : Nat) (warn : Bool) (s : State) : (s.meterToRun measured warn).keys = s.keys := by
  unfold State.meterToRun State.countOverdraw
  dsimp only
  rw [setSources_keys]
  split
  · split <;> simp
  · rfl

/-! ## The berth link controller -/

@[simp] theorem completeRound_keys (s : State) : s.completeRound.keys = s.keys := by simp [State.completeRound]

@[simp] theorem pollEnded_keys (a : Nat) (s : State) : (s.pollEnded a).keys = s.keys := by
  unfold State.pollEnded
  split <;> simp

@[simp] theorem beginBreak_keys (s : State) : s.beginBreak.keys = s.keys :=
  mapBerths_keys atBreak_number rfl rfl rfl rfl

@[simp] theorem lineReleased_keys (s : State) : s.lineReleased.keys = s.keys := by
  unfold State.lineReleased
  split <;> rfl

@[simp] theorem lineStopped_keys (s : State) : s.lineStopped.keys = s.keys := by
  unfold State.lineStopped
  split <;> simp

@[simp] theorem pollStep_keys (s : State) : s.pollStep.keys = s.keys := by
  unfold State.pollStep
  split
  · rfl
  · split <;> simp

@[simp] theorem chooseNext_keys (s : State) : s.chooseNext.keys = s.keys := by
  unfold State.chooseNext
  split
  · simp
  · split
    · rfl
    · split
      · split <;> simp
      · simp

@[simp] theorem takeChoice_keys (s : State) : s.takeChoice.keys = s.keys := by
  unfold State.takeChoice
  split <;> simp

@[simp] theorem sendPoll_keys (s : State) : s.sendPoll.keys = s.keys := by
  unfold State.sendPoll
  split <;> rfl

@[simp] theorem sendGrant_keys (n : Nat) (target : Int) (s : State) : (s.sendGrant n target).keys = s.keys := by
  simp [State.sendGrant]

@[simp] theorem sendChosenGrant_keys (s : State) : s.sendChosenGrant.keys = s.keys := by
  unfold State.sendChosenGrant
  split
  · split
    · split <;> simp
    · rfl
  · rfl
  · rfl
  · rfl

@[simp] theorem endPreamble_keys (s : State) : s.endPreamble.keys = s.keys := by
  unfold State.endPreamble
  split
  · split <;> simp
  · rfl
  · rfl

/-! ## The grid line monitor -/

@[simp] theorem releaseTrip_keys (s : State) : s.releaseTrip.keys = s.keys := by
  unfold State.releaseTrip
  dsimp only
  split <;> rfl

@[simp] theorem ackTrip_keys (s : State) : s.ackTrip.keys = s.keys := by
  unfold State.ackTrip
  split
  · split <;> rfl
  · rfl

@[simp] theorem tripModeTaken_keys (s : State) : s.tripModeTaken.keys = s.keys := by
  unfold State.tripModeTaken
  split <;> rfl

@[simp] theorem latchStop_keys (s : State) : s.latchStop.keys = s.keys := by
  unfold State.latchStop
  dsimp only
  split <;> simp

@[simp] theorem unlatchStop_keys (s : State) : s.unlatchStop.keys = s.keys := by simp [State.unlatchStop]

@[simp] theorem assertStop_keys (s : State) : s.assertStop.keys = s.keys := by simp [State.assertStop]

@[simp] theorem allStop_keys (s : State) : s.allStop.keys = s.keys := by simp [State.allStop]

@[simp] theorem releaseStop_keys (s : State) : s.releaseStop.keys = s.keys := by
  unfold State.releaseStop
  dsimp only
  split <;> simp

@[simp] theorem clearStop_keys (s : State) : s.clearStop.keys = s.keys := by
  unfold State.clearStop
  split
  · split <;> simp
  · rfl

@[simp] theorem sampleTrip_keys (level : Level) (s : State) : (s.sampleTrip level).keys = s.keys := by
  unfold State.sampleTrip
  split
  · rfl
  · split
    · rfl
    · split <;> simp

@[simp] theorem sampleStop_keys (level : Level) (s : State) : (s.sampleStop level).keys = s.keys := by
  unfold State.sampleStop
  split
  · rfl
  · split
    · rfl
    · split <;> simp

@[simp] theorem takeVoltage_keys (voltage : Nat) (s : State) : (s.takeVoltage voltage).keys = s.keys := by
  unfold State.takeVoltage
  dsimp only
  split
  · split <;> simp [State.beginSag]
  · split <;> simp

/-! ## The berth table -/

@[simp] theorem storeOutput_keys (n : Nat) (present : Half) (s : State) : (s.storeOutput n present).keys = s.keys := by
  simp [State.storeOutput]

@[simp] theorem detachBus_keys (k : Nat) (s : State) : (s.detachBus k).keys = s.keys := by
  simp [State.detachBus, updBus_keys _ detach_fleet]

@[simp] theorem detachOccupant_keys (n : Nat) (s : State) : (s.detachOccupant n).keys = s.keys := by
  unfold State.detachOccupant
  split <;> simp

@[simp] theorem attachBus_keys (n k : Nat) (s : State) : (s.attachBus n k).keys = s.keys := by
  simp [State.attachBus, updBus_keys _ (attach_fleet n), updBerth_keys _ (settle_number _ _)]

@[simp] theorem moveBus_keys (m n k : Nat) (s : State) : (s.moveBus m n k).keys = s.keys := by
  simp [State.moveBus, updBus_keys _ detach_fleet]

@[simp] theorem unplugged_keys (n : Nat) (state : BerthState) (s : State) : (s.unplugged n state).keys = s.keys := by
  simp [State.unplugged, updBerth_keys _ (settle_number _ _)]

@[simp] theorem toForeign_keys (n vehicle : Nat) (reason : ForeignReason) (s : State) :
    (s.toForeign n vehicle reason).keys = s.keys := by
  unfold State.toForeign
  split
  · dsimp only
    rw [raiseIf_keys]
    split <;> simp
  · rfl

@[simp] theorem takeVehicle_keys (n vehicle : Nat) (s : State) : (s.takeVehicle n vehicle).keys = s.keys := by
  unfold State.takeVehicle
  split
  · simp
  · split
    · simp
    · split <;> simp
    · simp

@[simp] theorem plugged_keys (n vehicle : Nat) (s : State) : (s.plugged n vehicle).keys = s.keys := by
  unfold State.plugged
  split
  · split <;> simp [updBerth_keys _ (settle_number _ _)]
  · simp

@[simp] theorem plugEvaluation_keys (n : Nat) (body : StatusBody) (s : State) : (s.plugEvaluation n body).keys = s.keys := by
  unfold State.plugEvaluation
  split
  · split <;> simp
  · simp

@[simp] theorem faultedPlugCheck_keys (n : Nat) (body : StatusBody) (s : State) :
    (s.faultedPlugCheck n body).keys = s.keys := by
  unfold State.faultedPlugCheck
  split
  · split <;> simp
  · rfl

@[simp] theorem episode_keys (entered : Bool) (s : State) : (s.episode entered).keys = s.keys := by
  unfold State.episode
  split <;> rfl

@[simp] theorem fault_keys (n : Nat) (cause : FaultCause) (code : Option Nat) (s : State) :
    (s.fault n cause code).keys = s.keys := by
  unfold State.fault
  split <;> simp

@[simp] theorem takePlug_keys (n : Nat) (body : StatusBody) (s : State) : (s.takePlug n body).keys = s.keys := by
  unfold State.takePlug
  split
  · split
    · simp
    · split <;> simp
  · rfl

@[simp] theorem takePackData_keys (n : Nat) (pack : Option PackData) (s : State) : (s.takePackData n pack).keys = s.keys := by
  unfold State.takePackData
  split
  · split <;> simp [updBus_keys _ (takePack_fleet _)]
  · rfl

@[simp] theorem takeStatus_keys (n : Nat) (body : StatusBody) (s : State) : (s.takeStatus n body).keys = s.keys := by
  simp [State.takeStatus]

@[simp] theorem thirdMiss_keys (n : Nat) (s : State) : (s.thirdMiss n).keys = s.keys := by
  have stale (u : State) : (u.staleOccupant n).keys = u.keys := by
    unfold State.staleOccupant
    split <;> simp [updBus_keys _ goStale_fleet]
  unfold State.thirdMiss
  split
  · rw [stale]
    split <;> simp
  · rfl

@[simp] theorem confirmPlug_keys (n : Nat) (accepted : Bool) (s : State) : (s.confirmPlug n accepted).keys = s.keys := by
  unfold State.confirmPlug
  split <;> simp

@[simp] theorem setOutOfService_keys (n : Nat) (s : State) : (s.setOutOfService n).keys = s.keys := by
  unfold State.setOutOfService
  split
  · split <;> simp [updBerth_keys _ isolate_number]
  · rfl

/-! ## The end of an exchange -/

@[simp] theorem countMiss_keys (n : Nat) (s : State) : (s.countMiss n).keys = s.keys := by
  unfold State.countMiss
  split
  · dsimp only
    split <;> simp
  · rfl

@[simp] theorem meterMissed_keys (s : State) : s.meterMissed.keys = s.keys := by
  unfold State.meterMissed
  dsimp only
  split <;> simp

@[simp] theorem takeMeter_keys (body : MeterBody) (s : State) : (s.takeMeter body).keys = s.keys := by
  simp [State.takeMeter]

@[simp] theorem berthPollEnded_keys (n : Nat) (s : State) : (s.berthPollEnded n).keys = s.keys := by
  simp [State.berthPollEnded]

@[simp] theorem grantConfirm_keys (n : Nat) (target : Int) (body : ConfirmBody) (s : State) :
    (s.grantConfirm n target body).keys = s.keys := by
  unfold State.grantConfirm
  dsimp only
  rw [confirmPlug_keys, updBerth_keys n (fun b => by split <;> rfl), storeOutput_keys, endExchange_keys]

@[simp] theorem exchangeMissed_keys (e : Exchange) (s : State) : (s.exchangeMissed e).keys = s.keys := by
  unfold State.exchangeMissed
  split
  · split <;> simp
  · simp [updBerth_keys _ holdBack_number]

@[simp] theorem exchangeReply_keys (e : Exchange) (r : Reply) (s : State) : (s.exchangeReply e r).keys = s.keys := by
  unfold State.exchangeReply
  split
  · split <;> simp [State.pollStatus]
  · split <;> simp [State.pollMeter]
  · split <;> simp
  · simp
  · simp
  · simp

@[simp] theorem exchangeVoid_keys (e : Exchange) (s : State) : (s.exchangeVoid e).keys = s.keys := by
  unfold State.exchangeVoid
  split <;> simp

@[simp] theorem takeReply_keys (r : Reply) (s : State) : (s.takeReply r).keys = s.keys := by
  unfold State.takeReply
  split
  · rw [closeEvent_keys]
    split <;> simp
  · rfl

@[simp] theorem takeMiss_keys (s : State) : s.takeMiss.keys = s.keys := by
  unfold State.takeMiss
  split
  · rw [closeEvent_keys]
    split <;> simp
  · rfl

@[simp] theorem takeChars_keys (chars : List RxChar) (s : State) : (s.takeChars chars).keys = s.keys := by
  unfold State.takeChars
  split <;> simp

/-! ## The allocation pass -/

theorem decideBerth_number (s : State) (exporters : List (Nat × Nat)) (shares : List Share) (b : Berth) :
    (s.decideBerth exporters shares b).number = b.number := by
  unfold State.decideBerth
  split <;> rfl

@[simp] theorem raiseImport_keys (s : State) (n : Nat) : (s.raiseImport n).keys = s.keys := by
  unfold State.raiseImport
  split
  · split <;> simp
  · rfl

@[simp] theorem raiseExport_keys (s : State) (n : Nat) : (s.raiseExport n).keys = s.keys := by
  unfold State.raiseExport
  split
  · split <;> simp
  · rfl

@[simp] theorem allocate_keys (s : State) : s.allocate.keys = s.keys := by
  have cleared : s.zeroOthers.keys = s.keys :=
    mapBerths_keys (f := fun b => if b.isClaimant then b else b.setTarget (s.grantInFlight b.number) 0 0)
      (fun b => by split <;> rfl) rfl rfl rfl rfl
  unfold State.allocate
  dsimp only
  rw [foldl_keys raiseExport_keys, foldl_keys raiseImport_keys]
  refine Eq.trans (mapBerths_keys (decideBerth_number s.zeroOthers _ _) rfl rfl rfl rfl) cleared

@[simp] theorem takePass_keys (s : State) : s.takePass.keys = s.keys := by
  unfold State.takePass
  split <;> simp

/-! ## The timers -/

@[simp] theorem expireHold_keys (s : State) : s.expireHold.keys = s.keys := by
  unfold State.expireHold
  split <;> simp

@[simp] theorem selfStart_keys (s : State) : s.selfStart.keys = s.keys := by
  unfold State.selfStart
  split <;> simp

@[simp] theorem expireSupervision_keys (s : State) : s.expireSupervision.keys = s.keys := by
  unfold State.expireSupervision
  split <;> simp

@[simp] theorem advanceMinute_keys (s : State) : s.advanceMinute.keys = s.keys := by
  unfold State.advanceMinute
  split <;> simp

end Sys2Proof.Machine
end

section
/-! PROOFS. The table form (R1, R23, R101, R114): what an enrolment, a removal and a loaded image keep of it, what an owner's
answer can be, and that every step keeps it (O56). -/

namespace Sys2Proof.Machine

/-! ## Records put in and taken out -/

theorem tablesOk_insertBus {s : State} {b : Bus} (hb : s.bus? b.fleet = none) (hl : s.buses.length < 96)
    (hs : s.tablesOk = true) : ({ s with buses := insertByKey Bus.fleet b s.buses } : State).tablesOk = true := by
  rw [tablesOk_iff] at hs ⊢
  obtain ⟨⟨hr, _⟩, rest⟩ := hs
  exact ⟨⟨keysRising_insertByKey b _ hr ((findKey_eq_none _ _).1 hb), by simpa using hl⟩, rest⟩

theorem tablesOk_insertBerth {s : State} {b : Berth} (hb : s.berth? b.number = none) (hn : 1 ≤ b.number ∧ b.number ≤ 32)
    (hs : s.tablesOk = true) : ({ s with berths := insertByKey Berth.number b s.berths } : State).tablesOk = true := by
  rw [tablesOk_iff] at hs ⊢
  obtain ⟨hbus, ⟨hr, hin⟩, rest⟩ := hs
  refine ⟨hbus, ⟨keysRising_insertByKey b _ hr ((findKey_eq_none _ _).1 hb), fun c hc => ?_⟩, rest⟩
  rcases (mem_insertByKey b c _).1 hc with rfl | hc
  · exact hn
  · exact hin c hc

theorem tablesOk_insertTicket {s : State} {x : Ticket} (hx : s.ticket? x.id = none) (hl : s.tickets.length < 128)
    (hs : s.tablesOk = true) : ({ s with tickets := insertByKey Ticket.id x s.tickets } : State).tablesOk = true := by
  rw [tablesOk_iff] at hs ⊢
  obtain ⟨hbus, hberth, ⟨hr, _⟩, hpledge⟩ := hs
  exact ⟨hbus, hberth, ⟨keysRising_insertByKey x _ hr ((findKey_eq_none _ _).1 hx), by simpa using hl⟩, hpledge⟩

theorem tablesOk_insertPledge {s : State} {p : Pledge} (hp : s.pledge? p.id = none) (hl : s.pledges.length < 16)
    (hs : s.tablesOk = true) : ({ s with pledges := insertByKey Pledge.id p s.pledges } : State).tablesOk = true := by
  rw [tablesOk_iff] at hs ⊢
  obtain ⟨hbus, hberth, hticket, hr, _⟩ := hs
  exact ⟨hbus, hberth, hticket, keysRising_insertByKey p _ hr ((findKey_eq_none _ _).1 hp), by simpa using hl⟩

theorem length_eraseKey_le {α : Type} (key : α → Nat) (k : Nat) (l : List α) : (eraseKey key k l).length ≤ l.length :=
  List.length_filter_le _ _

theorem tablesOk_eraseBus (k : Nat) {s : State} (hs : s.tablesOk = true) :
    ({ s with buses := eraseKey Bus.fleet k s.buses } : State).tablesOk = true := by
  rw [tablesOk_iff] at hs ⊢
  obtain ⟨⟨hr, hl⟩, rest⟩ := hs
  exact ⟨⟨keysRising_eraseKey k _ hr, (length_eraseKey_le ..).trans hl⟩, rest⟩

theorem tablesOk_eraseBerth (n : Nat) {s : State} (hs : s.tablesOk = true) :
    ({ s with berths := eraseKey Berth.number n s.berths } : State).tablesOk = true := by
  rw [tablesOk_iff] at hs ⊢
  obtain ⟨hbus, ⟨hr, hin⟩, rest⟩ := hs
  exact ⟨hbus, ⟨keysRising_eraseKey n _ hr, fun b hb => hin b (List.mem_of_mem_filter hb)⟩, rest⟩

theorem tablesOk_eraseTicket (k : Nat) {s : State} (hs : s.tablesOk = true) :
    ({ s with tickets := eraseKey Ticket.id k s.tickets } : State).tablesOk = true := by
  rw [tablesOk_iff] at hs ⊢
  obtain ⟨hbus, hberth, ⟨hr, hl⟩, hpledge⟩ := hs
  exact ⟨hbus, hberth, ⟨keysRising_eraseKey k _ hr, (length_eraseKey_le ..).trans hl⟩, hpledge⟩

theorem tablesOk_erasePledge (k : Nat) {s : State} (hs : s.tablesOk = true) :
    ({ s with pledges := eraseKey Pledge.id k s.pledges } : State).tablesOk = true := by
  rw [tablesOk_iff] at hs ⊢
  obtain ⟨hbus, hberth, hticket, hr, hl⟩ := hs
  exact ⟨hbus, hberth, hticket, keysRising_eraseKey k _ hr, (length_eraseKey_le ..).trans hl⟩

/-- A state without buses, tickets and pledges has the table form where its berths have it. -/
theorem tablesOk_of_berths {s : State} (hb : s.buses = []) (hx : s.tickets = []) (hp : s.pledges = [])
    (hr : keysRising Berth.number s.berths = true) (hin : ∀ b ∈ s.berths, 1 ≤ b.number ∧ b.number ≤ 32) :
    s.tablesOk = true := by
  rw [tablesOk_iff, hb, hx, hp]
  exact ⟨⟨rfl, by simp⟩, ⟨hr, hin⟩, ⟨rfl, by simp⟩, rfl, by simp⟩

theorem tablesOk_recordsCleared {s : State} (hs : s.tablesOk = true) : s.recordsCleared.tablesOk = true := by
  obtain ⟨_, ⟨hr, hin⟩, _⟩ := (tablesOk_iff s).1 hs
  refine tablesOk_of_berths rfl rfl rfl (keysRising_map Berth.afterReset afterReset_number _ hr) fun b hb => ?_
  obtain ⟨c, hc, rfl⟩ := List.mem_map.1 hb
  exact hin c hc

/-! ## A loaded image (R163) -/

theorem repeats_eq_false_iff (l : List Nat) : repeats l = false ↔ l.Nodup := by
  induction l with
  | nil => simp [repeats]
  | cons x l ih => simp [repeats, ih]

/-- Among records of other keys, insertion in order is insertion by key. -/
theorem insertSorted_eq_insertByKey {α : Type} {key : α → Nat} (x : α) (l : List α) (hx : ∀ y ∈ l, key y ≠ key x) :
    insertSorted (fun a b => !decide (key b < key a)) x l = insertByKey key x l := by
  induction l with
  | nil => rfl
  | cons y l ih =>
    have hy : key y ≠ key x := hx y (List.mem_cons_self ..)
    have hiff : (!decide (key y < key x)) = true ↔ key x < key y := by simp; omega
    unfold insertSorted insertByKey
    rw [ih fun z hz => hx z (List.mem_cons_of_mem _ hz)]
    simp only [hiff]

/-- Records of different keys, sorted, have the table form. -/
theorem keysRising_sortBy {α : Type} {key : α → Nat} (l : List α) (h : (l.map key).Nodup) :
    keysRising key (sortBy (fun x y => decide (key x < key y)) l) = true := by
  induction l with
  | nil => rfl
  | cons x l ih =>
    rw [List.map_cons, List.nodup_cons] at h
    have hx : ∀ y ∈ sortBy (fun x y => decide (key x < key y)) l, key y ≠ key x := fun y hy hk =>
      h.1 (List.mem_map.2 ⟨y, (sortBy_perm _ l).mem_iff.1 hy, hk⟩)
    unfold sortBy
    rw [insertSorted_eq_insertByKey x _ hx]
    exact keysRising_insertByKey x _ (ih h.2) hx

/-- R163: an image whose berth numbers leave 1 to 32 is not read. -/
theorem readBerths_numbers (vs : List Int) (bs : List Berth) (h : readBerths vs = some bs) :
    ∀ b ∈ bs, 1 ≤ b.number ∧ b.number ≤ 32 := by
  induction vs using readBerths.induct generalizing bs with
  | case1 => cases h; simp
  | case2 n b t q mi me c o rest hfit ih =>
    rw [readBerths, if_pos hfit, Option.map_eq_some_iff] at h
    obtain ⟨cs, hcs, rfl⟩ := h
    simp only [within, Bool.and_eq_true, decide_eq_true_eq] at hfit
    intro b' hb'
    rcases List.mem_cons.1 hb' with rfl | hb'
    · simp only [newBerth]; omega
    · exact ih cs hcs b' hb'
  | case3 n b t q mi me c o rest hfit =>
    rw [readBerths, if_neg hfit] at h
    cases h
  | case4 vs h0 h8 => rw [readBerths] at h <;> simp_all

/-- R163: the berths of an accepted image make a table. -/
theorem loadImage_berths {image : List Byte} {p : Profile} {bs : List Berth} (h : loadImage image = some (p, bs)) :
    keysRising Berth.number bs = true ∧ ∀ b ∈ bs, 1 ≤ b.number ∧ b.number ≤ 32 := by
  unfold loadImage at h
  dsimp only at h
  split at h
  · obtain ⟨vs, _, h⟩ := Option.bind_eq_some_iff.1 h
    split at h
    · cases h
    · obtain ⟨q, _, h⟩ := Option.bind_eq_some_iff.1 h
      obtain ⟨cs, hcs, h⟩ := Option.bind_eq_some_iff.1 h
      split at h
      · cases h
      · rename_i hrep
        cases h
        refine ⟨keysRising_sortBy cs ((repeats_eq_false_iff _).1 (Bool.eq_false_iff.2 hrep)), fun b hb => ?_⟩
        exact readBerths_numbers _ cs hcs b ((sortBy_perm _ cs).mem_iff.1 hb)
  · cases h

theorem tablesOk_powerOn (s : State) : s.powerOn.tablesOk = true := by
  unfold State.powerOn
  dsimp only
  split
  · rename_i p bs himage
    obtain ⟨hr, hin⟩ := loadImage_berths himage
    exact tablesOk_of_berths rfl rfl rfl hr hin
  · rfl

/-! ## What an owner's answer can be (R149, R152) -/

/-- An owner refuses and changes nothing, or carries the request out: it reads the records, acknowledges causes, or sets records
that are settled at the end of the event. -/
inductive OwnerOutcome (s : State) : Answer → Prop
  | refused (st : Status) (failing : Nat) : OwnerOutcome s (refuse st failing s)
  | read (body : List Byte) : OwnerOutcome s (accept body s)
  | acknowledged (causes : List Byte) (body : List Byte) : OwnerOutcome s (accept body (s.acknowledge causes))
  | settled (post : State) (body : State → List Byte) (tables : s.tablesOk = true → post.tablesOk = true) :
      OwnerOutcome s (s.settled post body)

section
variable {s : State}

/-- Records changed in their places and settled. -/
theorem OwnerOutcome.ofKeys {post : State} (body : State → List Byte) (h : post.keys = s.keys) :
    OwnerOutcome s (s.settled post body) :=
  .settled post body fun hs => (tablesOk_of_keys h).trans hs

theorem OwnerOutcome.withRecord {α : Type} {record : Option α} {answer : α → Answer}
    (h : ∀ r, record = some r → OwnerOutcome s (answer r)) : OwnerOutcome s (withRecord record s answer) := by
  cases record with
  | none => exact .refused _ _
  | some r => exact h r rfl

theorem OwnerOutcome.withPairs {check : Option (Status × Nat)} {answer : Answer} (h : OwnerOutcome s answer) :
    OwnerOutcome s (withPairs check s answer) := by
  cases check with
  | none => exact h
  | some failure => exact .refused _ _

theorem lookupAnswer_outcome (record : Option (List (Option Int))) (s : State) : OwnerOutcome s (lookupAnswer record s) := by
  cases record with
  | none => exact .refused _ _
  | some values => exact .read _

theorem lookupProfile_outcome (key : Nat) (s : State) : OwnerOutcome s (s.lookupProfile key) := by
  unfold State.lookupProfile
  split
  · exact .refused _ _
  · exact lookupAnswer_outcome _ s

theorem enrolBus_outcome (key : Nat) (pairs : List Pair) (s : State) : OwnerOutcome s (s.enrolBus key pairs) := by
  unfold State.enrolBus
  split
  · exact .refused _ _
  · split
    · exact .refused _ _
    · refine .withPairs ?_
      split
      · exact .refused _ _
      · rename_i hkey hnew hfull
        exact .settled _ _ (tablesOk_insertBus (b := newBus key pairs) (Option.not_isSome_iff_eq_none.1 hnew)
          (not_le.1 hfull))

theorem enrolBerth_outcome (key : Nat) (pairs : List Pair) (s : State) : OwnerOutcome s (s.enrolBerth key pairs) := by
  unfold State.enrolBerth
  split
  · exact .refused _ _
  · split
    · exact .refused _ _
    · split
      · exact .refused _ _
      · rename_i hidle hkey hnew
        refine .withPairs (.settled _ _ fun hs => ?_)
        refine (tablesOk_of_keys (requestPass_keys _)).trans ?_
        exact tablesOk_insertBerth (b := enrolledBerth key pairs) (Option.not_isSome_iff_eq_none.1 hnew)
          (show 1 ≤ key ∧ key ≤ 32 by omega) hs

theorem enrolTicket_outcome (key : Nat) (pairs : List Pair) (s : State) : OwnerOutcome s (s.enrolTicket key pairs) := by
  unfold State.enrolTicket
  split
  · exact .refused _ _
  · split
    · exact .refused _ _
    · split
      · exact .refused _ _
      · refine .withPairs ?_
        split
        · exact .refused _ _
        · split
          · exact .refused _ _
          · rename_i hkey hclock hnew hlater hfull
            exact .settled _ _ (tablesOk_insertTicket (x := newTicket key pairs) (Option.not_isSome_iff_eq_none.1 hnew)
              (not_le.1 hfull))

theorem enrolPledge_outcome (key : Nat) (pairs : List Pair) (s : State) : OwnerOutcome s (s.enrolPledge key pairs) := by
  unfold State.enrolPledge
  dsimp only
  split
  · exact .refused _ _
  · split
    · exact .refused _ _
    · split
      · exact .refused _ _
      · refine .withPairs ?_
        split
        · exact .refused _ _
        · split
          · exact .refused _ _
          · split
            · exact .refused _ _
            · rename_i hkey hclock hnew hfits hfull hadmits
              exact .settled _ _ (tablesOk_insertPledge (p := newPledge key pairs)
                (Option.not_isSome_iff_eq_none.1 hnew) (not_le.1 hfull))

theorem amendBus_outcome (key : Nat) (pairs : List Pair) (s : State) : OwnerOutcome s (s.amendBus key pairs) :=
  .withRecord fun _ _ => .withPairs (.ofKeys _ (updBus_keys key (busAmend_fleet pairs) s))

theorem berthAmended_keys (key : Nat) (pairs : List Pair) (s : State) : (s.berthAmended key pairs).keys = s.keys := by
  have service (u : State) : (u.serviceTaken key pairs).keys = u.keys := by
    unfold State.serviceTaken
    split
    · rfl
    · split <;> simp
  unfold State.berthAmended
  dsimp only
  split
  · rw [requestPass_keys, service, updBerth_keys key (berthAmend_number pairs)]
  · rw [service, updBerth_keys key (berthAmend_number pairs)]

theorem amendBerth_outcome (key : Nat) (pairs : List Pair) (s : State) : OwnerOutcome s (s.amendBerth key pairs) := by
  refine .withRecord fun b _ => ?_
  split
  · exact .refused _ _
  · split
    · exact .refused _ _
    · exact .withPairs (.ofKeys _ (berthAmended_keys key pairs s))

theorem ticketAmended_keys (x : Ticket) (pairs : List Pair) (s : State) : (s.ticketAmended x pairs).keys = s.keys := by
  have taken (value : Nat) (u : State) : (u.busTaken x value).keys = u.keys := by
    unfold State.busTaken
    split
    · split
      · rw [unlinkBus_keys, updTicket_keys _ (leave_id _)]
      · rfl
    · split
      · rfl
      · rw [linkBus_keys, updTicket_keys _ (assign_id _), unlinkBus_keys]
  unfold State.ticketAmended
  dsimp only
  split
  · rw [taken, updTicket_keys _ (ticketAmend_id pairs)]
  · rw [updTicket_keys _ (ticketAmend_id pairs)]

theorem amendTicket_outcome (key : Nat) (pairs : List Pair) (s : State) : OwnerOutcome s (s.amendTicket key pairs) := by
  refine .withRecord fun x _ => ?_
  split
  · exact .refused _ _
  · exact .withPairs (.withPairs (.ofKeys _ (ticketAmended_keys x pairs s)))

theorem amendPledge_outcome (key : Nat) (pairs : List Pair) (s : State) : OwnerOutcome s (s.amendPledge key pairs) := by
  refine .withRecord fun p _ => ?_
  dsimp only
  split
  · exact .refused _ _
  · refine .withPairs ?_
    split
    · exact .refused _ _
    · split
      · exact .refused _ _
      · exact .ofKeys _ (updPledge_keys key (pledgeAmend_id pairs) s)

theorem profileAmended_keys (pairs : List Pair) (s : State) : (s.profileAmended pairs).keys = s.keys := by
  have carried {effect : State → State} (he : ∀ u, (effect u).keys = u.keys) (idents : List Nat) (u : State) :
      (u.onCarried pairs idents effect).keys = u.keys := by
    unfold State.onCarried
    split
    · exact he u
    · rfl
  unfold State.profileAmended
  rw [carried requestPass_keys, carried (effect := State.intervalTaken) fun _ => rfl, carried tripModeTaken_keys,
    carried (effect := State.feederLimitTaken) fun _ => rfl]
  rfl

theorem amendProfile_outcome (key : Nat) (pairs : List Pair) (s : State) : OwnerOutcome s (s.amendProfile key pairs) := by
  unfold State.amendProfile
  dsimp only
  split
  · exact .refused _ _
  · refine .withPairs ?_
    split
    · exact .refused _ _
    · split
      · exact .refused _ _
      · exact .ofKeys _ (profileAmended_keys pairs s)

theorem retireBus_outcome (key : Nat) (s : State) : OwnerOutcome s (s.retireBus key) := by
  refine .withRecord fun b _ => ?_
  split
  · exact .refused _ _
  · exact .settled _ _ (tablesOk_eraseBus key)

theorem retireBerth_outcome (key : Nat) (s : State) : OwnerOutcome s (s.retireBerth key) := by
  refine .withRecord fun b _ => ?_
  split
  · exact .refused _ _
  · split
    · exact .refused _ _
    · refine .settled _ _ fun hs => ?_
      refine (tablesOk_of_keys ((requestPass_keys _).trans (leaveLine_keys key _))).trans ?_
      exact tablesOk_eraseBerth key hs

theorem retireTicket_outcome (key : Nat) (s : State) : OwnerOutcome s (s.retireTicket key) := by
  refine .withRecord fun x _ => .settled _ _ fun hs => ?_
  exact (tablesOk_of_keys (unlinkBus_keys x.bus _)).trans (tablesOk_eraseTicket key hs)

theorem retirePledge_outcome (key : Nat) (s : State) : OwnerOutcome s (s.retirePledge key) := by
  refine .withRecord fun p _ => ?_
  split
  · exact .refused _ _
  · exact .settled _ _ (tablesOk_erasePledge key)

theorem withdraw_outcome (key : Nat) (s : State) : OwnerOutcome s (s.withdraw key) := by
  refine .withRecord fun p _ => ?_
  split
  · refine .ofKeys _ ?_
    unfold State.pledgeWithdrawn
    dsimp only
    split
    · rw [updateYield_keys, updPledge_keys _ (completeWith_id _)]
    · rw [updPledge_keys _ (completeWith_id _)]
  · exact .refused _ _

/-- Every owner's answer but those of RUN_START and SET_CLOCK, whose bodies and statuses are their own. -/
theorem owner_outcome (s : State) (r : Request) (hrun : r ≠ .control .runStart)
    (hclock : ∀ pairs, r ≠ .control (.setClock pairs)) : OwnerOutcome s (s.owner r) := by
  cases r with
  | lookup table key =>
    cases table
    case profile => exact lookupProfile_outcome key s
    all_goals exact lookupAnswer_outcome _ s
  | list table key count =>
    cases table
    case profile => exact .refused _ _
    all_goals exact .read _
  | enrol table key pairs =>
    cases table
    case profile => exact .refused _ _
    case bus => exact enrolBus_outcome key pairs s
    case berth => exact enrolBerth_outcome key pairs s
    case ticket => exact enrolTicket_outcome key pairs s
    case pledge => exact enrolPledge_outcome key pairs s
  | amend table key pairs =>
    cases table
    case profile => exact amendProfile_outcome key pairs s
    case bus => exact amendBus_outcome key pairs s
    case berth => exact amendBerth_outcome key pairs s
    case ticket => exact amendTicket_outcome key pairs s
    case pledge => exact amendPledge_outcome key pairs s
  | retire table key =>
    cases table
    case profile => exact .refused _ _
    case bus => exact retireBus_outcome key s
    case berth => exact retireBerth_outcome key s
    case ticket => exact retireTicket_outcome key s
    case pledge => exact retirePledge_outcome key s
  | summary => exact .read _
  | attend causes => exact .acknowledged causes _
  | control f =>
    cases f
    case runStart => exact absurd rfl hrun
    case runStop => exact .ofKeys _ (stopRun_keys s)
    case pause => exact .ofKeys _ (setSources_keys _ _ s)
    case resume => exact .ofKeys _ (setSources_keys _ _ s)
    case allStop => exact .ofKeys (fun t => pairsBody t.allStopAnswer) (allStop_keys s)
    case clearStop => exact .ofKeys (fun t => pairsBody t.clearStopAnswer) (clearStop_keys s)
    case ackTrip => exact .ofKeys (fun t => pairsBody t.tripAnswer) (ackTrip_keys s)
    case withdraw key => exact withdraw_outcome key s
    case setClock pairs => exact absurd rfl (hclock pairs)
    case saveProfile => exact .read _
    case recordsReset => exact .settled s.recordsCleared (fun _ => []) tablesOk_recordsCleared

theorem runStart_state (s : State) : s.runStart.state = s ∨ s.runStart.state = s.startRun.closeEvent s := by
  unfold State.runStart
  split
  · exact .inl rfl
  · exact .inr rfl

theorem setClock_state (pairs : List Pair) (s : State) :
    (s.setClock pairs).state = s ∨ (s.setClock pairs).state = (s.clockTaken pairs).takeMinute s := by
  unfold State.setClock withPairs
  dsimp only
  split
  · exact .inl rfl
  · split
    · exact .inl rfl
    · exact .inr rfl

/-- The states a request's owner can leave: the one it found, with or without causes acknowledged, or one that the end of an
event or of a minute event has left. -/
def OwnerLeaves (s t : State) : Prop :=
  t = s ∨ (∃ causes, t = s.acknowledge causes)
    ∨ (∃ post : State, (s.tablesOk = true → post.tablesOk = true) ∧ t = post.closeEvent s)
    ∨ ∃ post : State, (s.tablesOk = true → post.tablesOk = true) ∧ t = post.takeMinute s

theorem OwnerOutcome.leaves {a : Answer} (h : OwnerOutcome s a) : OwnerLeaves s a.state := by
  cases h with
  | refused => exact .inl rfl
  | read => exact .inl rfl
  | acknowledged causes => exact .inr (.inl ⟨causes, rfl⟩)
  | settled post body tables => exact .inr (.inr (.inl ⟨post, tables, rfl⟩))

theorem owner_leaves (s : State) (r : Request) : OwnerLeaves s (s.owner r).state := by
  by_cases hrun : r = .control .runStart
  · subst hrun
    rcases runStart_state s with h | h
    · exact .inl h
    · exact .inr (.inr (.inl ⟨s.startRun, (tablesOk_of_keys (startRun_keys s)).trans, h⟩))
  · by_cases hclock : ∃ pairs, r = .control (.setClock pairs)
    · obtain ⟨pairs, rfl⟩ := hclock
      rcases setClock_state pairs s with h | h
      · exact .inl h
      · exact .inr (.inr (.inr ⟨s.clockTaken pairs, id, h⟩))
    · exact (owner_outcome s r hrun fun pairs hp => hclock ⟨pairs, hp⟩).leaves

end

/-! ## Every step keeps the tables -/

/-- An event of a block's own engine or of a line keeps every record in its place. -/
theorem eventEffect_keys {c : Instr} {f : State → State} (hc : eventEffect c = some f) (s : State) : (f s).keys = s.keys := by
  cases c <;> cases hc
  case nextExchangeChoice => exact takeChoice_keys s
  case preambleEnd => exact endPreamble_keys s
  case poll => exact sendPoll_keys s
  case grant => exact sendChosenGrant_keys s
  case status => exact takeReply_keys _ s
  case meter => exact takeReply_keys _ s
  case confirm => exact takeReply_keys _ s
  case invalidReply => exact takeChars_keys _ s
  case replyTimeout => exact takeMiss_keys s
  case allocationPass => exact takePass_keys s
  case holdTimerExpiry => exact expireHold_keys s
  case supervisionExpiry => exact expireSupervision_keys s
  case minuteEvent => exact advanceMinute_keys s
  case tripAssertion => exact (closeEvent_keys _ s).trans (assertTrip_keys s)
  case tripRelease => exact (closeEvent_keys _ s).trans (releaseTrip_keys s)
  case stopAssertion => exact (closeEvent_keys _ s).trans (assertStop_keys s)
  case stopRelease => exact (closeEvent_keys _ s).trans (releaseStop_keys s)
  case lineSample => exact (closeEvent_keys _ s).trans ((sampleStop_keys _ _).trans (sampleTrip_keys _ s))

theorem SameRecords.keys {s t : State} (h : SameRecords s t) : t.keys = s.keys := by
  unfold State.keys
  rw [h.buses, h.berths, h.tickets, h.pledges]

theorem owner_tablesOk (s : State) (r : Request) (hs : s.tablesOk = true) : (s.owner r).state.tablesOk = true := by
  rcases owner_leaves s r with h | ⟨causes, h⟩ | ⟨post, hpost, h⟩ | ⟨post, hpost, h⟩ <;> rw [h]
  · exact hs
  · exact hs
  · exact (tablesOk_of_keys (closeEvent_keys post s)).trans (hpost hs)
  · exact (tablesOk_of_keys (takeMinute_keys post s)).trans (hpost hs)

theorem tablesOk_kept : Kept fun s => s.tablesOk = true where
  records h hs := (tablesOk_of_keys h.keys).trans hs
  owner := owner_tablesOk
  event hc s hs := (tablesOk_of_keys (eventEffect_keys hc s)).trans hs
  powerOn s _ := tablesOk_powerOn s
  second s hs := (tablesOk_of_keys (countSecond_keys s)).trans hs

/-- Settles O56: the table form is a property of the keys, which only enrolments, removals, RECORDS_RESET and POWER_ON
change. -/
theorem stepKeepsTables : Obligations.StepKeepsTables := fun _ _ hs h => tablesOk_kept.step h hs

end Sys2Proof.Machine
end

section
/-! PROOFS. Derived values (R17, R109, R128): what they read of the records, that the end of an event and a minute event leave
them current whatever their owners have set, and that every step keeps them current (O59). -/

namespace Sys2Proof.Machine

/-! ## Lookups seen through a view of the records -/

/-- Two records that show the same, or none and none. -/
theorem map_eq_map_cases {α β : Type} {view : α → β} {x y : Option α} (h : x.map view = y.map view) :
    (x = none ∧ y = none) ∨ ∃ a b, x = some a ∧ y = some b ∧ view a = view b := by
  cases x with
  | none => exact .inl ⟨rfl, Option.map_eq_none_iff.1 h.symm⟩
  | some a =>
    obtain ⟨b, hb, hab⟩ := Option.map_eq_some_iff.1 h.symm
    exact .inr ⟨a, b, rfl, hb, hab.symm⟩

/-- A view that shows the key finds what the lookup in the table finds. -/
theorem findKey_view {α β : Type} {key : α → Nat} {view : α → β} {shown : β → Nat} (hk : ∀ x, shown (view x) = key x) (k : Nat)
    (l : List α) : findKey shown k (l.map view) = (findKey key k l).map view := by
  unfold findKey
  rw [List.find?_map]
  congr 2
  funext x
  simp [hk]

/-- What the derived fields of a bus read of its ticket. -/
def Ticket.terms (x : Ticket) : Nat × Nat × Nat × Nat × Nat := (x.id, x.need, x.lead, x.power, x.departure)

/-- What the derived fields of a bus read of its berth. -/
def Berth.limits (b : Berth) : Nat × BerthState × Nat × Nat := (b.number, b.state, b.maxImport, b.maxExport)

/-- What the projection of a ticket reads of its bus's berth. -/
def Berth.drawn (b : Berth) : Nat × Int := (b.number, b.decided)

theorem ticketOf_terms {s t : State} (h : t.tickets.map Ticket.terms = s.tickets.map Ticket.terms) (b : Bus) :
    (t.ticketOf b).map Ticket.terms = (s.ticketOf b).map Ticket.terms := by
  have found (u : State) (k : Nat) := findKey_view (key := Ticket.id) (view := Ticket.terms) (shown := Prod.fst)
    (fun _ => rfl) k u.tickets
  unfold State.ticketOf State.ticket?
  cases b.ticket with
  | none => rfl
  | some k => exact (found t k).symm.trans ((congrArg _ h).trans (found s k))

theorem berthOf_view {β : Type} {view : Berth → β} {shown : β → Nat} (hv : ∀ b, shown (view b) = b.number) {s t : State}
    (h : t.berths.map view = s.berths.map view) (b : Bus) : (t.berthOf b).map view = (s.berthOf b).map view := by
  unfold State.berthOf State.berth?
  cases b.berth with
  | none => rfl
  | some k => exact (findKey_view hv k t.berths).symm.trans ((congrArg _ h).trans (findKey_view hv k s.berths))

/-! ## What the derived fields of a bus read -/

section
variable {x y : Option Ticket} (hx : x.map Ticket.terms = y.map Ticket.terms)
include hx

theorem floorFor_congr (p : Profile) (b : Bus) : floorFor p x b = floorFor p y b := by
  rcases map_eq_map_cases hx with ⟨rfl, rfl⟩ | ⟨x, y, rfl, rfl, h⟩
  · rfl
  · simp only [Ticket.terms, Prod.mk.injEq] at h
    simp only [floorFor, h]

theorem preheatTerm_congr (now : Option Nat) : preheatTerm now x = preheatTerm now y := by
  rcases map_eq_map_cases hx with ⟨rfl, rfl⟩ | ⟨x, y, rfl, rfl, h⟩
  · rfl
  · simp only [Ticket.terms, Prod.mk.injEq] at h
    cases now with
    | none => rfl
    | some n => simp only [preheatTerm, h]

theorem inHorizon_congr (p : Profile) (now : Option Nat) : inHorizon p now x = inHorizon p now y := by
  rcases map_eq_map_cases hx with ⟨rfl, rfl⟩ | ⟨x, y, rfl, rfl, h⟩
  · rfl
  · simp only [Ticket.terms, Prod.mk.injEq] at h
    cases now with
    | none => rfl
    | some n => simp only [inHorizon, h]

variable {r q : Option Berth} (hr : r.map Berth.limits = q.map Berth.limits)
include hr

theorem thermalFor_congr (p : Profile) (now : Option Nat) (b : Bus) : thermalFor p now x r b = thermalFor p now y q b := by
  rcases map_eq_map_cases hr with ⟨rfl, rfl⟩ | ⟨r, q, rfl, rfl, h⟩
  · rfl
  · simp only [Berth.limits, Prod.mk.injEq] at h
    simp only [thermalFor, preheatTerm_congr hx, h]

theorem eligibleFor_congr (p : Profile) (now : Option Nat) (floor : Nat) (b : Bus) :
    eligibleFor p now x r floor b = eligibleFor p now y q floor b := by
  rcases map_eq_map_cases hr with ⟨rfl, rfl⟩ | ⟨r, q, rfl, rfl, h⟩
  · rfl
  · simp only [Berth.limits, Prod.mk.injEq] at h
    cases hheld : b.held with
    | none => simp only [eligibleFor, hheld]
    | some held => simp only [eligibleFor, hheld, inHorizon_congr hx, h]

omit hx in
theorem chargeFor_congr (p : Profile) (thermal : Nat) (b : Bus) : chargeFor p r thermal b = chargeFor p q thermal b := by
  rcases map_eq_map_cases hr with ⟨rfl, rfl⟩ | ⟨r, q, rfl, rfl, h⟩
  · rfl
  · simp only [Berth.limits, Prod.mk.injEq] at h
    simp only [chargeFor, h]

end

/-- R14 to R19: the derived fields of a bus read the terms of the tickets, the limits of the berths, the time and the
profile. -/
theorem deriveBus_of_views {s t : State} (hx : t.tickets.map Ticket.terms = s.tickets.map Ticket.terms)
    (hr : t.berths.map Berth.limits = s.berths.map Berth.limits) (hn : t.now = s.now) (hp : t.profile = s.profile) (b : Bus) :
    t.deriveBus b = s.deriveBus b := by
  have hx' := ticketOf_terms hx b
  have hr' := berthOf_view (shown := Prod.fst) (fun _ => rfl) hr b
  unfold State.deriveBus
  simp only [hn, hp, floorFor_congr hx', thermalFor_congr hx' hr', eligibleFor_congr hx' hr', chargeFor_congr hr']

/-- Deriving twice is deriving once: no derived field is read. -/
theorem deriveBus_deriveBus (s : State) (b : Bus) : s.deriveBus (s.deriveBus b) = s.deriveBus b := rfl

/-! ## What a grading reads -/

theorem chargeComponent_congr {r q : Option Berth} (h : r.map Berth.drawn = q.map Berth.drawn) (b : Bus) :
    chargeComponent r b = chargeComponent q b := by
  rcases map_eq_map_cases h with ⟨rfl, rfl⟩ | ⟨r, q, rfl, rfl, hv⟩
  · rfl
  · simp only [Berth.drawn, Prod.mk.injEq] at hv
    simp only [chargeComponent, hv]

/-- R107, R108: grading reads the buses, the decided targets and the time. -/
theorem gradeTicket_of_views {s t : State} (hb : t.buses = s.buses) (hr : t.berths.map Berth.drawn = s.berths.map Berth.drawn)
    (hn : t.now = s.now) (x : Ticket) : t.gradeTicket x = s.gradeTicket x := by
  have hbus : t.bus? = s.bus? := funext fun k => by unfold State.bus?; rw [hb]
  have hproj (b : Bus) : projectedFor t.now x (t.berthOf b) b = projectedFor s.now x (s.berthOf b) b := by
    unfold projectedFor
    rw [hn, chargeComponent_congr (berthOf_view (shown := Prod.fst) (fun _ => rfl) hr b)]
  unfold State.gradeTicket
  simp only [hbus, hproj]

/-- Grading twice is grading once: no grade and no projection is read. -/
theorem gradeTicket_gradeTicket (s : State) (x : Ticket) : s.gradeTicket (s.gradeTicket x) = s.gradeTicket x := by
  by_cases ha : x.isAssigned = true
  · cases hb : x.bus.bind s.bus? with
    | none =>
      have h (projected : Option Nat) (grade : Option TicketGrade) :
          s.gradeTicket { x with projected := projected, grade := grade } =
            { x with projected := none, grade := some .unknown } := by
        unfold State.gradeTicket
        rw [if_pos (show Ticket.isAssigned { x with projected := projected, grade := grade } = true from ha)]
        simp only [hb]
      rw [h x.projected x.grade, h]
    | some b =>
      have h (projected : Option Nat) (grade : Option TicketGrade) :
          s.gradeTicket { x with projected := projected, grade := grade } =
            { x with
              projected := projectedFor s.now x (s.berthOf b) b
              grade := some (gradeFor x b (projectedFor s.now x (s.berthOf b) b)) } := by
        unfold State.gradeTicket
        rw [if_pos (show Ticket.isAssigned { x with projected := projected, grade := grade } = true from ha)]
        simp only [hb]
        rfl
      rw [h x.projected x.grade, h]
  · have h : s.gradeTicket x = x := by simp only [State.gradeTicket, if_neg ha]
    rw [h, h]

theorem gradeTicket_terms (s : State) (x : Ticket) : (s.gradeTicket x).terms = x.terms := by
  unfold State.gradeTicket
  split
  · split <;> rfl
  · rfl

theorem withdrawn_limits (s : State) (b : Berth) : (s.withdrawn b).limits = b.limits := by
  unfold State.withdrawn
  split <;> rfl

/-! ## Derived values that are current -/

/-- Every derived value is current. -/
structure DerivedCurrent (t : State) : Prop where
  buses : t.busesCurrent
  tickets : t.ticketsCurrent
  commitments : t.commitmentsCurrent

/-- What a map that keeps a view shows. -/
theorem map_view_map {α β : Type} {view : α → β} {f : α → α} (hf : ∀ x, view (f x) = view x) (l : List α) :
    (l.map f).map view = l.map view := by
  rw [List.map_map]
  exact List.map_congr_left fun x _ => hf x

/-- Buses derived from a state that shows the same terms, limits, time and profile are current. -/
theorem busesCurrent_of_derived {s t : State} (hb : t.buses = s.buses.map s.deriveBus)
    (hx : t.tickets.map Ticket.terms = s.tickets.map Ticket.terms)
    (hr : t.berths.map Berth.limits = s.berths.map Berth.limits) (hn : t.now = s.now) (hp : t.profile = s.profile) :
    t.busesCurrent := by
  intro b hb'
  rw [hb] at hb'
  obtain ⟨c, _, rfl⟩ := List.mem_map.1 hb'
  rw [deriveBus_of_views hx hr hn hp, deriveBus_deriveBus]

/-- Tickets that the state itself has graded are current. -/
theorem ticketsCurrent_of_graded {l : List Ticket} {t : State} (hx : t.tickets = l.map t.gradeTicket) : t.ticketsCurrent := by
  intro x hx'
  rw [hx] at hx'
  obtain ⟨y, _, rfl⟩ := List.mem_map.1 hx'
  exact gradeTicket_gradeTicket t y

/-- R17, R109, R128: the end of an event leaves every derived value current. -/
theorem closeEvent_derived (before post : State) : DerivedCurrent (post.closeEvent before) := by
  obtain ⟨⟨_, _, _, _, hclock, _, _, _, hprofile, _⟩, hbuses, hberths, htickets, _, hcommitments, _⟩ :=
    closeEvent_settles before post
  refine ⟨busesCurrent_of_derived hbuses ?_ ?_ ?_ hprofile, ticketsCurrent_of_graded htickets, hcommitments⟩
  · rw [htickets, map_view_map (gradeTicket_terms _)]
  · rw [hberths, map_view_map (withdrawn_limits post)]
  · unfold State.now
    rw [hclock]

/-! ## A minute event -/

/-- What follows the bus table's second turn in a minute event: gradings of the tickets, and changes outside the buses, the
berths, the clock and the profile. -/
theorem takeMinute_records (s before : State) :
    ∃ u : State, u = s.refreshBuses.ticketsMinute.refreshBuses
      ∧ (s.takeMinute before).buses = u.buses ∧ (s.takeMinute before).berths = u.berths
      ∧ (s.takeMinute before).tickets = u.tickets.map u.gradeTicket ∧ (s.takeMinute before).clock = u.clock
      ∧ (s.takeMinute before).profile = u.profile ∧ (s.takeMinute before).commitmentsCurrent := by
  refine ⟨_, rfl, ?_⟩
  unfold State.takeMinute
  dsimp only
  generalize s.refreshBuses.ticketsMinute.refreshBuses = u
  have hg : ∃ attention, u.regrade = { u with tickets := u.tickets.map u.gradeTicket, attention := attention } := by
    unfold State.regrade State.raiseIf
    split <;> exact ⟨_, rfl⟩
  obtain ⟨attention, hg⟩ := hg
  obtain ⟨pledges, reserve, attention', _, hp⟩ := pledgesMinute_moved u.newlyAtRisk u.regrade
  rw [hp, hg, finishEvent_spec]
  split <;> exact ⟨rfl, rfl, rfl, rfl, rfl, rfl, rfl⟩

/-- R98: a minute event leaves every derived value current. -/
theorem takeMinute_derived (before post : State) : DerivedCurrent (post.takeMinute before) := by
  obtain ⟨u, hu, hbuses, hberths, htickets, hclock, hprofile, hcommitments⟩ := takeMinute_records post before
  rw [refreshBuses_spec] at hu
  have hnow : (post.takeMinute before).now = u.now := by
    unfold State.now
    rw [hclock]
  refine ⟨busesCurrent_of_derived (s := post.refreshBuses.ticketsMinute) ?_ ?_ ?_ ?_ ?_,
    ticketsCurrent_of_graded (l := u.tickets) ?_, hcommitments⟩
  · rw [hbuses, hu]
  · rw [htickets, map_view_map (gradeTicket_terms _), hu]
  · rw [hberths, hu, map_view_map (withdrawn_limits _)]
  · rw [hnow, hu]
    rfl
  · rw [hprofile, hu]
  · rw [htickets]
    refine List.map_congr_left fun x _ => ?_
    exact (gradeTicket_of_views hbuses (by rw [hberths]) hnow x).symm

/-! ## What keeps derived values -/

/-- `t` keeps current what is current in `s`. -/
structure KeepsDerived (s t : State) : Prop where
  buses : s.busesCurrent → t.busesCurrent
  tickets : s.ticketsCurrent → t.ticketsCurrent
  commitments : s.commitmentsCurrent → t.commitmentsCurrent

theorem KeepsDerived.trans {s t u : State} (h : KeepsDerived s t) (h' : KeepsDerived t u) : KeepsDerived s u :=
  ⟨h'.buses ∘ h.buses, h'.tickets ∘ h.tickets, h'.commitments ∘ h.commitments⟩

theorem DerivedCurrent.keeps {t : State} (h : DerivedCurrent t) (s : State) : KeepsDerived s t :=
  ⟨fun _ => h.buses, fun _ => h.tickets, fun _ => h.commitments⟩

/-- `t` shows all that the derived values of `s` read. -/
structure SameTerms (s t : State) : Prop where
  buses : t.buses = s.buses
  tickets : t.tickets = s.tickets
  pledges : t.pledges = s.pledges
  reserve : t.reserve = s.reserve
  profile : t.profile = s.profile
  now : t.now = s.now
  limits : t.berths.map Berth.limits = s.berths.map Berth.limits
  drawn : t.berths.map Berth.drawn = s.berths.map Berth.drawn

theorem SameTerms.keeps {s t : State} (h : SameTerms s t) : KeepsDerived s t where
  buses hs b hb := by
    rw [h.buses] at hb
    rw [deriveBus_of_views (by rw [h.tickets]) h.limits h.now h.profile]
    exact hs b hb
  tickets hs x hx := by
    rw [h.tickets] at hx
    rw [gradeTicket_of_views h.buses h.drawn h.now]
    exact hs x hx
  commitments hs := by
    unfold State.commitmentsCurrent
    rw [h.reserve, h.pledges]
    exact hs

theorem SameRecords.sameTerms {s t : State} (h : SameRecords s t) : SameTerms s t :=
  ⟨h.buses, h.tickets, h.pledges, h.reserve, h.profile, by unfold State.now; rw [h.clock], by rw [h.berths], by rw [h.berths]⟩

theorem sameTerms_refl (s : State) : SameTerms s s := by constructor <;> rfl

/-- A frame sent or chosen, a break or a preamble leaves what the derived values read. -/
theorem sameTerms_mapBerths {f : Berth → Berth} {s t : State} (hl : ∀ b, (f b).limits = b.limits)
    (hd : ∀ b, (f b).drawn = b.drawn) (ht : ∃ line, t = { s with berths := s.berths.map f, line := line }) : SameTerms s t := by
  obtain ⟨line, rfl⟩ := ht
  exact ⟨rfl, rfl, rfl, rfl, rfl, rfl, map_view_map hl _, map_view_map hd _⟩

theorem sameTerms_line (s : State) (line : BerthLine) : SameTerms s { s with line := line } := by constructor <;> rfl

theorem sameTerms_beginBreak (s : State) : SameTerms s s.beginBreak :=
  sameTerms_mapBerths (f := Berth.atBreak) (fun _ => rfl) (fun _ => rfl) ⟨_, rfl⟩

theorem sameTerms_endPreamble (s : State) : SameTerms s s.endPreamble := by
  unfold State.endPreamble
  split
  · split
    · exact sameTerms_beginBreak s
    · exact sameTerms_line s _
  · exact sameTerms_refl s
  · exact sameTerms_refl s

theorem sameTerms_sendPoll (s : State) : SameTerms s s.sendPoll := by
  unfold State.sendPoll
  split
  · exact sameTerms_line s _
  · exact sameTerms_line s _
  · exact sameTerms_refl s
  · exact sameTerms_refl s

theorem sameTerms_sendGrant (n : Nat) (target : Int) (s : State) : SameTerms s (s.sendGrant n target) :=
  sameTerms_mapBerths (f := fun b => if b.number == n then { b with grantDue := false } else b)
    (fun b => by split <;> rfl) (fun b => by split <;> rfl) ⟨_, rfl⟩

theorem sameTerms_sendChosenGrant (s : State) : SameTerms s s.sendChosenGrant := by
  unfold State.sendChosenGrant
  split
  · split
    · split
      · exact sameTerms_sendGrant _ _ s
      · exact sameTerms_line s _
    · exact sameTerms_line s _
  · exact sameTerms_refl s
  · exact sameTerms_refl s
  · exact sameTerms_refl s

theorem sameTerms_countSecond (s : State) : SameTerms s s.countSecond := by
  have hn : s.countSecond.now = s.now := by
    rw [countSecond_eq]
    unfold State.now
    dsimp only
    split <;> rfl
  exact ⟨rfl, rfl, rfl, rfl, rfl, hn, rfl, rfl⟩

theorem takeReply_leaves (r : Reply) (s : State) : s.takeReply r = s ∨ ∃ post : State, s.takeReply r = post.closeEvent s := by
  unfold State.takeReply
  split
  · exact .inr ⟨_, rfl⟩
  · exact .inl rfl

theorem takeMiss_leaves (s : State) : s.takeMiss = s ∨ ∃ post : State, s.takeMiss = post.closeEvent s := by
  unfold State.takeMiss
  split
  · exact .inr ⟨_, rfl⟩
  · exact .inl rfl

/-- What an event leaves: what the derived values read as it was, or the end of an event or of a minute event. -/
def EventLeaves (s t : State) : Prop :=
  SameTerms s t ∨ (∃ post, t = State.closeEvent post s) ∨ ∃ post, t = State.takeMinute post s

theorem EventLeaves.ofReply {s t : State} (h : t = s ∨ ∃ post, t = State.closeEvent post s) : EventLeaves s t := by
  rcases h with rfl | h
  · exact .inl (sameTerms_refl _)
  · exact .inr (.inl h)

theorem eventEffect_leaves {c : Instr} {f : State → State} (hc : eventEffect c = some f) (s : State) : EventLeaves s (f s) := by
  have closed (due : Prop) [Decidable due] (post : State) : EventLeaves s (if due then post.closeEvent s else s) := by
    split
    · exact .inr (.inl ⟨post, rfl⟩)
    · exact .inl (sameTerms_refl s)
  cases c <;> cases hc
  case nextExchangeChoice => exact closed _ _
  case preambleEnd => exact .inl (sameTerms_endPreamble s)
  case poll => exact .inl (sameTerms_sendPoll s)
  case grant => exact .inl (sameTerms_sendChosenGrant s)
  case status => exact .ofReply (takeReply_leaves _ s)
  case meter => exact .ofReply (takeReply_leaves _ s)
  case confirm => exact .ofReply (takeReply_leaves _ s)
  case invalidReply chars =>
    unfold State.takeChars
    split
    · exact .ofReply (takeReply_leaves _ s)
    · exact .ofReply (takeMiss_leaves s)
  case replyTimeout => exact .ofReply (takeMiss_leaves s)
  case allocationPass => exact closed _ _
  case holdTimerExpiry => exact closed _ _
  case supervisionExpiry => exact closed _ _
  case minuteEvent =>
    unfold State.advanceMinute
    split
    · exact .inr (.inr ⟨_, rfl⟩)
    · exact .inl (sameTerms_refl s)
  case tripAssertion => exact .inr (.inl ⟨_, rfl⟩)
  case tripRelease => exact .inr (.inl ⟨_, rfl⟩)
  case stopAssertion => exact .inr (.inl ⟨_, rfl⟩)
  case stopRelease => exact .inr (.inl ⟨_, rfl⟩)
  case lineSample => exact .inr (.inl ⟨_, rfl⟩)

theorem EventLeaves.keeps {s t : State} (h : EventLeaves s t) : KeepsDerived s t := by
  rcases h with h | ⟨post, rfl⟩ | ⟨post, rfl⟩
  · exact h.keeps
  · exact (closeEvent_derived s post).keeps s
  · exact (takeMinute_derived s post).keeps s

theorem OwnerLeaves.keeps {s t : State} (h : OwnerLeaves s t) : KeepsDerived s t := by
  rcases h with rfl | ⟨causes, rfl⟩ | ⟨post, _, rfl⟩ | ⟨post, _, rfl⟩
  · exact (sameTerms_refl _).keeps
  · exact SameTerms.keeps (by constructor <;> rfl)
  · exact (closeEvent_derived s post).keeps s
  · exact (takeMinute_derived s post).keeps s

theorem powerOn_derived (s : State) : DerivedCurrent s.powerOn := by
  have fresh (profile berths flags image index queue) :
      DerivedCurrent (State.afterPowerOn profile berths flags image index queue) :=
    ⟨fun _ hb => absurd hb List.not_mem_nil, fun _ hx => absurd hx List.not_mem_nil, rfl, rfl⟩
  unfold State.powerOn
  dsimp only
  split <;> exact fresh _ _ _ _ _ _

theorem keepsDerived_kept (s : State) : Kept (KeepsDerived s) where
  records h hs := hs.trans h.sameTerms.keeps
  owner t r hs := hs.trans (owner_leaves t r).keeps
  event hc t hs := hs.trans (eventEffect_leaves hc t).keeps
  powerOn t _ := (powerOn_derived t).keeps s
  second t hs := hs.trans (sameTerms_countSecond t).keeps

/-- Settles O59: each event that changes what a derived value reads ends by deriving it anew. -/
theorem stepKeepsDerivedValues : Obligations.StepKeepsDerivedValues := by
  intro s t h
  obtain ⟨hb, hx, hc⟩ := (keepsDerived_kept s).step h (sameTerms_refl s).keeps
  exact ⟨hb, hx, hc⟩

end Sys2Proof.Machine
end

section
/-! PROOFS. How a request row is answered: by a reply that changes no record, or by settled records; what a refusal changes (O17)
and what a LOOKUP gives (O12). -/

namespace Sys2Proof.Machine

/-! ## A row answered by its owner -/

section
variable {c : Instr} {h : RequestHead} {r : Request} {s : State} {n : Nat}

/-- A well-formed request row that the link carries is answered by the request's owner. -/
theorem exec_owner (hc : asRequest c = some (h, r)) (ht : s.takesRequests) (hn : r.body.length = n) (hb : n ≤ 1024)
    (hf : r.formOk = true) (hs : r ≠ .control .saveProfile) :
    exec c s = .next (((s.begun.owner r).respond h).shifted ((if n ≤ 56 then s else s.midRequest).requestOut n)) := by
  subst hn
  rw [exec_of_asRequest s hc, ifPowered_on _ s ht.1, request_owner h r s ht.2 hb hf hs]

/-- An owner that changes nothing makes the row a reply. -/
theorem exec_replied (hc : asRequest c = some (h, r)) (ht : s.takesRequests) (hn : r.body.length = n) (hb : n ≤ 1024)
    (hf : r.formOk = true) (hs : r ≠ .control .saveProfile) {st : Status} {f : Nat} {body : List Byte}
    (ho : s.begun.owner r = { status := st, failing := f, body := body, state := s.begun }) :
    exec c s = .next (s.replied h n st f body) := by
  rw [exec_owner hc ht hn hb hf hs, ho, respond_replied]

/-- An owner that settles records makes the row an answer DONE. -/
theorem exec_answered (hc : asRequest c = some (h, r)) (ht : s.takesRequests) (hn : r.body.length = n) (hb : n ≤ 1024)
    (hf : r.formOk = true) (hs : r ≠ .control .saveProfile) {post : State} {body : State → List Byte}
    (ho : s.begun.owner r = State.settled s.begun post body) (hd : post.depot = s.begun.depot)
    (hsv : post.supervision = s.restarted) (hbody : ∀ (u : State) (d : DepotLink), body { u with depot := d } = body u) :
    ∃ t, exec c s = .next t ∧ AnsweredDone s h n post body t := by
  refine ⟨_, exec_owner hc ht hn hb hf hs, ?_⟩
  rw [ho]
  exact settled_answered s post h n body hd hsv hbody

end

@[simp] theorem length_pairBytes (pairs : List Pair) : (pairBytes pairs).length = 5 * pairs.length := by
  induction pairs with
  | nil => rfl
  | cons p pairs ih =>
    have : (pairBytes (p :: pairs)).length = 5 + (pairBytes pairs).length := by
      simp only [pairBytes, List.flatMap_cons, List.length_append, List.length_cons, valueBytes, List.length_nil]
    rw [this, ih, List.length_cons]
    omega

/-! ## A refusal (R2, R152) -/

/-- An owner that does not answer DONE has refused. -/
theorem OwnerOutcome.refusal {s : State} {a : Answer} (h : OwnerOutcome s a) (hst : a.status ≠ .done) :
    ∃ st f, a = refuse st f s := by
  cases h with
  | refused st f => exact ⟨st, f, rfl⟩
  | read => exact absurd rfl hst
  | acknowledged => exact absurd rfl hst
  | settled => exact absurd rfl hst

theorem setClock_refusal {pairs : List Pair} {s : State} (hst : (s.setClock pairs).status ≠ .done) :
    ∃ st f body, s.setClock pairs = { status := st, failing := f, body := body, state := s } := by
  revert hst
  unfold State.setClock withPairs
  dsimp only
  split
  · exact fun _ => ⟨_, _, _, rfl⟩
  · split
    · exact fun _ => ⟨_, _, _, rfl⟩
    · exact fun hst => absurd rfl hst

/-- R2, R152: an owner other than RUN_START's that does not answer DONE changes nothing, and only SET_CLOCK's gives a body. -/
theorem owner_refusal {s : State} {r : Request} (hrun : r ≠ .control .runStart) (hst : (s.owner r).status ≠ .done) :
    ∃ f body, s.owner r = { status := (s.owner r).status, failing := f, body := body, state := s }
      ∧ ((∀ pairs, r ≠ .control (.setClock pairs)) → body = []) := by
  by_cases hclock : ∃ pairs, r = .control (.setClock pairs)
  · obtain ⟨pairs, rfl⟩ := hclock
    obtain ⟨st, f, body, ha⟩ := setClock_refusal hst
    have ha' : s.owner (.control (.setClock pairs)) = { status := st, failing := f, body := body, state := s } := ha
    exact ⟨f, body, by rw [ha'], fun hne => absurd rfl (hne pairs)⟩
  · obtain ⟨st, f, ha⟩ := (owner_outcome s r hrun fun pairs hp => hclock ⟨pairs, hp⟩).refusal hst
    exact ⟨f, [], by rw [ha]; rfl, fun _ => rfl⟩

theorem asRequest_runStart {c : Instr} {h : RequestHead} (hc : asRequest c = some (h, .control .runStart)) : c = .runStart := by
  cases c <;> cases hc
  rfl

theorem asRequest_setClock {c : Instr} {h : RequestHead} {pairs : List Pair}
    (hc : asRequest c = some (h, .control (.setClock pairs))) : c = .setClock pairs := by
  cases c <;> cases hc
  rfl

/-- Settles O17: the owner's answer is one of `OwnerOutcome`, and of these only a refusal is not DONE. -/
theorem refusedRequestsChangeNoRecord : Obligations.RefusedRequestsChangeNoRecord := by
  intro c h r s hc hrun ht hb hf hst
  have hrun' : r ≠ .control .runStart := by
    rintro rfl
    exact hrun (asRequest_runStart hc)
  have hsave : r ≠ .control .saveProfile := by
    rintro rfl
    exact hst rfl
  obtain ⟨f, body, ho, hbody⟩ := owner_refusal hrun' hst
  refine ⟨f, body, exec_replied hc ht rfl hb hf hsave ho, fun hclock => hbody ?_⟩
  rintro pairs rfl
  exact hclock pairs (asRequest_setClock hc)

/-! ## LOOKUP (R1, R23, R101, R114, R162, R165) -/

/-- A LOOKUP in a table gives the values of the record, or NOT_FOUND. -/
theorem exec_lookup {c : Instr} {h : RequestHead} {table : TableId} {key : Nat} {s : State} {α : Type} (record : Option α)
    {values : α → List (Option Int)} (hc : asRequest c = some (h, .lookup table key)) (ht : s.takesRequests)
    (ho : s.begun.owner (.lookup table key) = lookupAnswer (record.map values) s.begun) :
    exec c s =
      .next (record.elim (s.replied h 0 .notFound 0 []) fun x => s.replied h 0 .done 0 (valuesBody (values x))) := by
  cases record <;> exact exec_replied hc ht rfl (Nat.zero_le _) rfl (by simp) ho

theorem exec_lookupProfile_eq (key : Half) {s : State} (ht : s.takesRequests) :
    exec (.lookupProfile key) s = .next
      (if key = 0#16 then s.replied (headOf 1#8 0#8 key) 0 .done 0 (valuesBody (s.profile.values.map some))
        else s.replied (headOf 1#8 0#8 key) 0 .notFound 0 []) := by
  have hrow : asRequest (.lookupProfile key) = some (headOf 1#8 0#8 key, .lookup .profile key.toNat) := rfl
  have hkey : key.toNat ≠ 0 ↔ key ≠ 0#16 := by rw [ne_eq, ne_eq, ← BitVec.toNat_inj]; rfl
  have ho : s.begun.owner (.lookup .profile key.toNat) =
      if key.toNat ≠ 0 then refuse .notFound 0 s.begun else lookupAnswer (some (s.profile.values.map some)) s.begun := rfl
  by_cases hk : key = 0#16
  · rw [if_neg fun h => hkey.1 h hk] at ho
    rw [if_pos hk]
    exact exec_replied hrow ht rfl (Nat.zero_le _) rfl (by simp) ho
  · rw [if_pos (hkey.2 hk)] at ho
    rw [if_neg hk]
    exact exec_replied hrow ht rfl (Nat.zero_le _) rfl (by simp) ho

/-- The owner of a LOOKUP answers from the records as they stand. -/
theorem lookups_eq (key : Half) (s : State) (ht : s.takesRequests) :
    exec (.lookupBus key) s = .next ((s.bus? key.toNat).elim (s.replied (headOf 1#8 1#8 key) 0 .notFound 0 [])
        fun b => s.replied (headOf 1#8 1#8 key) 0 .done 0 (valuesBody b.values))
      ∧ exec (.lookupBerth key) s = .next ((s.berth? key.toNat).elim (s.replied (headOf 1#8 2#8 key) 0 .notFound 0 [])
        fun b => s.replied (headOf 1#8 2#8 key) 0 .done 0 (valuesBody b.values))
      ∧ exec (.lookupTicket key) s = .next ((s.ticket? key.toNat).elim (s.replied (headOf 1#8 3#8 key) 0 .notFound 0 [])
        fun x => s.replied (headOf 1#8 3#8 key) 0 .done 0 (valuesBody x.values))
      ∧ exec (.lookupPledge key) s = .next ((s.pledge? key.toNat).elim (s.replied (headOf 1#8 4#8 key) 0 .notFound 0 [])
        fun p => s.replied (headOf 1#8 4#8 key) 0 .done 0 (valuesBody p.values)) :=
  ⟨exec_lookup _ rfl ht rfl, exec_lookup _ rfl ht rfl, exec_lookup _ rfl ht rfl, exec_lookup _ rfl ht rfl⟩

/-- Settles O12: `lookups_eq` for the records; the fields, codes and bytes are those of `values`, `valuesBody` and
`pairsBody`. -/
theorem lookupReturnsRecord : Obligations.LookupReturnsRecord := by
  refine ⟨fun key s ht => ?_, fun _ => rfl, fun _ => rfl, fun _ => rfl, fun _ => rfl, ⟨fun _ => rfl, fun _ => rfl⟩,
    fun _ => rfl⟩
  obtain ⟨hbus, hberth, hticket, hpledge⟩ := lookups_eq key s ht
  refine ⟨hbus.trans ?_, hberth.trans ?_, hticket.trans ?_, hpledge.trans ?_, exec_lookupProfile_eq key ht⟩
  · cases s.bus? key.toNat <;> rfl
  · cases s.berth? key.toNat <;> rfl
  · cases s.ticket? key.toNat <;> rfl
  · cases s.pledge? key.toNat <;> rfl

end Sys2Proof.Machine
end

section
/-! PROOFS. What the check of a body's pairs lets through (R152, R166), and the owners' answers to ENROL and AMEND of a bus
(O18, O22), RETIRE (O28) and RECORDS_RESET (O41). -/

namespace Sys2Proof.Machine

/-! ## Records found and pairs checked -/

@[simp] theorem withRecord_some {α : Type} (x : α) (s : State) (answer : α → Answer) :
    withRecord (some x) s answer = answer x := rfl

@[simp] theorem withRecord_none {α : Type} (s : State) (answer : α → Answer) :
    withRecord none s answer = refuse .notFound 0 s := rfl

@[simp] theorem withPairs_some (failure : Status × Nat) (s : State) (answer : Answer) :
    withPairs (some failure) s answer = refuse failure.1 failure.2 s := rfl

@[simp] theorem withPairs_none (s : State) (answer : Answer) : withPairs none s answer = answer := rfl

/-! ## Pairs that pass their check (R152) -/

theorem lowest_eq_none_iff (l : List Nat) : lowest l = none ↔ l = [] := by
  cases l with
  | nil => simp [lowest]
  | cons x l =>
    unfold lowest
    split <;> simp

/-- A body passes its check where no identifier repeats, no pair fails, every required field is carried and nothing else
fails. -/
theorem checkPairs_eq_none_iff (count : Nat) (fits : Nat → Int → Bool) (required failing : List Nat) (pairs : List Pair) :
    checkPairs count fits required failing pairs = none ↔
      repeats (pairs.map pairId) = false ∧ (∀ p ∈ pairs, failingPair count fits p = none)
        ∧ (∀ i ∈ required, carries pairs i = true) ∧ failing = [] := by
  unfold checkPairs
  cases hrep : repeats (pairs.map pairId) with
  | true => simp
  | false => simp [lowest_eq_none_iff, List.filter_eq_nil_iff]

/-- A value carried in a body that passes its check lies in its field's range. -/
theorem carriedFor_fits {count : Nat} {fits : Nat → Int → Bool} {required failing : List Nat} {pairs : List Pair} {i : Nat}
    {v : Int} (hc : checkPairs count fits required failing pairs = none) (hv : carriedFor pairs i = some v) :
    fits i v = true := by
  obtain ⟨_, hpairs, _⟩ := (checkPairs_eq_none_iff ..).1 hc
  obtain ⟨p, hp, hcarried⟩ := List.exists_of_findSome?_eq_some hv
  split at hcarried
  · rename_i hi
    have hfit := hpairs p hp
    unfold failingPair at hfit
    split at hfit
    · cases hfit
    · rw [hcarried, ← hi] at *
      dsimp only at hfit
      by_contra hnot
      rw [if_neg hnot] at hfit
      cases hfit
  · cases hcarried

/-- A required field is carried by a body that passes its check. -/
theorem carriedFor_required {count : Nat} {fits : Nat → Int → Bool} {required failing : List Nat} {pairs : List Pair} {i : Nat}
    (hc : checkPairs count fits required failing pairs = none) (hi : i ∈ required) : ∃ v, carriedFor pairs i = some v := by
  obtain ⟨_, _, hrequired, _⟩ := (checkPairs_eq_none_iff ..).1 hc
  exact Option.isSome_iff_exists.1 (hrequired i hi)

theorem within_iff (lo hi v : Int) : within lo hi v = true ↔ lo ≤ v ∧ v ≤ hi := by simp [within]

/-- A number that must be carried and cannot be negative is the number carried. -/
theorem natField_of_carried {pairs : List Pair} {i : Nat} {v : Int} (hv : carriedFor pairs i = some v) (h0 : 0 ≤ v)
    (default : Nat) : some (natField pairs i default : Int) = carriedFor pairs i := by
  simp only [natField, hv, Option.map_some, Option.getD_some, Int.toNat_of_nonneg h0]

theorem flagField_false (pairs : List Pair) (i : Nat) : flagField pairs i false = (carriedFor pairs i == some 1) := by
  unfold flagField
  cases carriedFor pairs i with
  | none => rfl
  | some v => simp

/-- A yes or no that defaults to yes is no only where 0 is carried. -/
theorem flagField_true {pairs : List Pair} {i : Nat} (h : ∀ v, carriedFor pairs i = some v → 0 ≤ v ∧ v ≤ 1) :
    flagField pairs i true = (carriedFor pairs i != some 0) := by
  unfold flagField
  cases hc : carriedFor pairs i with
  | none => rfl
  | some v =>
    have := h v hc
    rw [Bool.eq_iff_iff]
    simp
    omega

/-! ## ENROL of a bus (R3) -/

section
variable {key : Nat} {pairs : List Pair} {s : State}

theorem enrolBus_badKey (hk : key = 0 ∨ 9999 < key) : s.enrolBus key pairs = refuse .badField 1 s := if_pos hk

variable (hk : 1 ≤ key ∧ key ≤ 9999)
include hk

theorem enrolBus_goodKey : s.enrolBus key pairs =
    if (s.bus? key).isSome then refuse .existsAlready 0 s
    else withPairs (checkPairs 16 busFieldFits [2, 3] [] pairs) s <|
      if Config.busSlots ≤ s.buses.length then refuse .full 0 s
      else s.settled { s with buses := insertByKey Bus.fleet (newBus key pairs) s.buses } fun t =>
        recordBody (t.busValues key) :=
  if_neg (by omega)

theorem enrolBus_exists (hb : (s.bus? key).isSome) : s.enrolBus key pairs = refuse .existsAlready 0 s := by
  rw [enrolBus_goodKey hk, if_pos hb]

variable (hb : s.bus? key = none)
include hb

theorem enrolBus_badPairs {st : Status} {f : Nat} (hc : checkPairs 16 busFieldFits [2, 3] [] pairs = some (st, f)) :
    s.enrolBus key pairs = refuse st f s := by
  rw [enrolBus_goodKey hk, if_neg (by simp [hb]), hc]
  rfl

variable (hc : checkPairs 16 busFieldFits [2, 3] [] pairs = none)
include hc

theorem enrolBus_full (hl : 96 ≤ s.buses.length) : s.enrolBus key pairs = refuse .full 0 s := by
  rw [enrolBus_goodKey hk, if_neg (by simp [hb]), hc]
  exact if_pos hl

theorem enrolBus_settled (hl : s.buses.length < 96) : s.enrolBus key pairs =
    s.settled { s with buses := insertByKey Bus.fleet (newBus key pairs) s.buses } fun t => recordBody (t.busValues key) := by
  rw [enrolBus_goodKey hk, if_neg (by simp [hb]), hc]
  exact if_neg (not_le.2 hl)

end

/-- R3: the host fields of a new bus are those of a body that passes its check. -/
theorem newBus_fields {key : Nat} {pairs : List Pair} (hc : checkPairs 16 busFieldFits [2, 3] [] pairs = none) :
    some ((newBus key pairs).capacity : Int) = carriedFor pairs 2 ∧ some ((newBus key pairs).rateCap : Int) = carriedFor pairs 3
      ∧ (newBus key pairs).reserveEligible = (carriedFor pairs 4 == some 1)
      ∧ (newBus key pairs).inService = (carriedFor pairs 5 != some 0) := by
  obtain ⟨capacity, h2⟩ := carriedFor_required hc (i := 2) (by simp)
  obtain ⟨rate, h3⟩ := carriedFor_required hc (i := 3) (by simp)
  have fit2 := (within_iff 200 4000 _).1 (carriedFor_fits hc h2)
  have fit3 := (within_iff 10 150 _).1 (carriedFor_fits hc h3)
  refine ⟨natField_of_carried h2 (by omega) 0, natField_of_carried h3 (by omega) 0, flagField_false pairs 4,
    flagField_true fun v hv => (within_iff 0 1 v).1 (carriedFor_fits hc hv)⟩

/-- Settles O18: the owner's answer branch by branch, and the fields of the record it creates. -/
theorem enrolBusCreatesRecord : Obligations.EnrolBusCreatesRecord := by
  intro key pairs s ht hlen h n k refused check
  have hrow : asRequest (.enrolBus key pairs) = some (h, .enrol .bus k pairs) := rfl
  have hn : (Request.enrol .bus k pairs).body.length = n := length_pairBytes pairs
  have hform : (Request.enrol .bus k pairs).formOk = true := by simpa [Request.formOk] using hlen
  have refuses {st : Status} {f : Nat} (ho : s.begun.enrolBus k pairs = refuse st f s.begun) : refused st f :=
    exec_replied hrow ht hn (by omega) hform (by simp) ho
  refine ⟨fun hk => refuses (enrolBus_badKey (s := s.begun) hk),
    fun h1 h2 hb => refuses (enrolBus_exists (s := s.begun) ⟨h1, h2⟩ hb),
    fun h1 h2 hb => ⟨fun st f hc => refuses (enrolBus_badPairs (s := s.begun) ⟨h1, h2⟩ hb hc),
      fun hc hl => refuses (enrolBus_full (s := s.begun) ⟨h1, h2⟩ hb hc hl), fun hc hl => ?_⟩⟩
  obtain ⟨t, hexec, hdone⟩ := exec_answered hrow ht hn (by omega) hform (by simp)
    (enrolBus_settled (s := s.begun) ⟨h1, h2⟩ hb hc hl) rfl rfl fun _ _ => rfl
  obtain ⟨hcapacity, hrate, hreserve, hservice⟩ := newBus_fields (key := k) hc
  exact ⟨newBus k pairs, t, hexec, hdone, rfl, hcapacity, hrate, hreserve, hservice, rfl, rfl, rfl, rfl, rfl, rfl, rfl, rfl, rfl,
    rfl, rfl, rfl⟩

/-! ## AMEND of a bus (R4) -/

/-- One record changed is the table with the record of that key changed. -/
theorem updateKey_eq_map {α : Type} (key : α → Nat) (k : Nat) (f : α → α) (l : List α) :
    updateKey key k f l = l.map fun x => if key x = k then f x else x := by
  simp [updateKey]

/-- Settles O22: the owner's answer, refused or settled with `Bus.amend`. -/
theorem amendBusWritesHostFields : Obligations.AmendBusWritesHostFields := by
  intro key pairs s ht hmin hlen h n check
  have hrow : asRequest (.amendBus key pairs) = some (h, .amend .bus key.toNat pairs) := rfl
  have hn : (Request.amend .bus key.toNat pairs).body.length = n := length_pairBytes pairs
  have hform : (Request.amend .bus key.toNat pairs).formOk = true := by simpa [Request.formOk] using ⟨hmin, hlen⟩
  have ho : s.begun.owner (.amend .bus key.toNat pairs) = withRecord (s.bus? key.toNat) s.begun fun _ =>
      withPairs check s.begun <| s.begun.settled (s.begun.updBus key.toNat (Bus.amend pairs)) fun t =>
        recordBody (t.busValues key.toNat) := rfl
  refine ⟨fun hb => ?_, fun hb => ?_⟩
  · rw [hb, withRecord_none] at ho
    exact exec_replied hrow ht hn (by omega) hform (by simp) ho
  · obtain ⟨b, hb⟩ := Option.isSome_iff_exists.1 hb
    rw [hb, withRecord_some] at ho
    refine ⟨fun st f hc => ?_, fun hc => ?_⟩
    · rw [hc, withPairs_some] at ho
      exact exec_replied hrow ht hn (by omega) hform (by simp) ho
    · rw [hc, withPairs_none] at ho
      obtain ⟨t, hexec, hdone⟩ := exec_answered hrow ht hn (by omega) hform (by simp) ho rfl rfl fun _ _ => rfl
      refine ⟨t, hexec, ?_⟩
      unfold State.updBus at hdone
      rw [updateKey_eq_map] at hdone
      exact hdone

/-! ## RETIRE (R5, R27, R105, R130) -/

section
variable {key : Half} {s : State} {table : TableId} {c : Instr} {h : RequestHead}

/-- A RETIRE that its owner refuses. -/
theorem exec_retire_refused (hc : asRequest c = some (h, .retire table key.toNat)) (ht : s.takesRequests)
    (hf : table ≠ .profile) {st : Status} {f : Nat}
    (ho : s.begun.owner (.retire table key.toNat) = refuse st f s.begun) : exec c s = .next (s.replied h 0 st f []) :=
  exec_replied hc ht rfl (Nat.zero_le _) (by simpa [Request.formOk] using hf) (by simp) ho

/-- A RETIRE that its owner carries out. -/
theorem exec_retire_done (hc : asRequest c = some (h, .retire table key.toNat)) (ht : s.takesRequests)
    (hf : table ≠ .profile) {post : State} (ho : s.begun.owner (.retire table key.toNat) = s.begun.settled post fun _ => [])
    (hd : post.depot = s.begun.depot) (hsv : post.supervision = s.restarted) :
    ∃ t, exec c s = .next t ∧ AnsweredDone s h 0 post (fun _ => []) t :=
  exec_answered hc ht rfl (Nat.zero_le _) (by simpa [Request.formOk] using hf) (by simp) ho hd hsv fun _ _ => rfl

end

/-- R5: RETIRE of a bus. -/
theorem exec_retireBus_cases (key : Half) {s : State} (ht : s.takesRequests) :
    (s.bus? key.toNat = none → exec (.retireBus key) s = .next (s.replied (headOf 5#8 1#8 key) 0 .notFound 0 []))
    ∧ ∀ b, s.bus? key.toNat = some b →
        (b.state = .attached ∨ b.ticket ≠ none →
          exec (.retireBus key) s = .next (s.replied (headOf 5#8 1#8 key) 0 .inUse 0 []))
        ∧ (b.state = .away → b.ticket = none → ∃ t, exec (.retireBus key) s = .next t
            ∧ AnsweredDone s (headOf 5#8 1#8 key) 0 { s with buses := s.buses.filter fun x => x.fleet != key.toNat }
              (fun _ => []) t) := by
  have ho : s.begun.owner (.retire .bus key.toNat) = withRecord (s.bus? key.toNat) s.begun fun b =>
      if b.state = .attached ∨ b.ticket.isSome then refuse .inUse 0 s.begun
      else s.begun.settled { s.begun with buses := eraseKey Bus.fleet key.toNat s.buses } fun _ => [] := rfl
  refine ⟨fun hb => ?_, fun b hb => ?_⟩ <;> rw [hb] at ho
  · exact exec_retire_refused rfl ht (by simp) ho
  · rw [withRecord_some] at ho
    refine ⟨fun huse => ?_, fun haway hticket => ?_⟩
    · rw [if_pos (huse.imp id Option.isSome_iff_ne_none.2)] at ho
      exact exec_retire_refused rfl ht (by simp) ho
    · rw [if_neg (by simp [haway, hticket])] at ho
      exact (exec_retire_done (c := .retireBus key) rfl ht (by simp) ho rfl rfl :)

/-- R27, R43, R49, R58: RETIRE of a berth, which leaves the round list, the exchange in flight and the frame chosen. -/
theorem exec_retireBerth_cases (key : Half) {s : State} (ht : s.takesRequests) :
    (s.berth? key.toNat = none → exec (.retireBerth key) s = .next (s.replied (headOf 5#8 2#8 key) 0 .notFound 0 []))
    ∧ ∀ b, s.berth? key.toNat = some b →
        (s.run.state ≠ .idle → exec (.retireBerth key) s = .next (s.replied (headOf 5#8 2#8 key) 0 .busy 0 []))
        ∧ (s.run.state = .idle → b.state ≠ .vacant → b.state ≠ .outOfService →
            exec (.retireBerth key) s = .next (s.replied (headOf 5#8 2#8 key) 0 .badState 0 []))
        ∧ (s.run.state = .idle → b.state = .vacant ∨ b.state = .outOfService → ∃ t, exec (.retireBerth key) s = .next t
            ∧ AnsweredDone s (headOf 5#8 2#8 key) 0 (s.berthRetired key.toNat) (fun _ => []) t) := by
  have ho : s.begun.owner (.retire .berth key.toNat) = withRecord (s.berth? key.toNat) s.begun fun b =>
      if s.run.state ≠ .idle then refuse .busy 0 s.begun
      else if b.state ≠ .vacant ∧ b.state ≠ .outOfService then refuse .badState 0 s.begun
      else s.begun.settled (s.begun.berthRetired key.toNat) fun _ => [] := rfl
  refine ⟨fun hb => ?_, fun b hb => ?_⟩ <;> rw [hb] at ho
  · exact exec_retire_refused rfl ht (by simp) ho
  · rw [withRecord_some] at ho
    refine ⟨fun hbusy => ?_, fun hidle hv hout => ?_, fun hidle hfree => ?_⟩
    · rw [if_pos hbusy] at ho
      exact exec_retire_refused rfl ht (by simp) ho
    · rw [if_neg (not_not.2 hidle), if_pos ⟨hv, hout⟩] at ho
      exact exec_retire_refused rfl ht (by simp) ho
    · rw [if_neg (not_not.2 hidle), if_neg (by tauto)] at ho
      exact (exec_retire_done (c := .retireBerth key) rfl ht (by simp) ho rfl rfl :)

theorem unlinkBus_eq (k : Option Nat) (s : State) :
    s.unlinkBus k =
      { s with buses := s.buses.map fun b => if k = some b.fleet then { b with ticket := none } else b } := by
  cases k with
  | none => simp [State.unlinkBus]
  | some k => simp [State.unlinkBus, State.updBus, updateKey_eq_map, eq_comm]

/-- R105: RETIRE of a ticket, whose bus loses it. -/
theorem exec_retireTicket_cases (key : Half) {s : State} (ht : s.takesRequests) :
    (s.ticket? key.toNat = none → exec (.retireTicket key) s = .next (s.replied (headOf 5#8 3#8 key) 0 .notFound 0 []))
    ∧ ∀ x, s.ticket? key.toNat = some x → ∃ t, exec (.retireTicket key) s = .next t
        ∧ AnsweredDone s (headOf 5#8 3#8 key) 0
            { s with
              tickets := s.tickets.filter fun y => y.id != key.toNat
              buses := s.buses.map fun b => if x.bus = some b.fleet then { b with ticket := none } else b }
            (fun _ => []) t := by
  have ho : s.begun.owner (.retire .ticket key.toNat) = withRecord (s.ticket? key.toNat) s.begun fun x =>
      s.begun.settled (({ s.begun with tickets := eraseKey Ticket.id key.toNat s.tickets } : State).unlinkBus x.bus)
        fun _ => [] := rfl
  refine ⟨fun hx => ?_, fun x hx => ?_⟩ <;> rw [hx] at ho
  · exact exec_retire_refused rfl ht (by simp) ho
  · rw [withRecord_some, unlinkBus_eq] at ho
    exact (exec_retire_done (c := .retireTicket key) rfl ht (by simp) ho rfl rfl :)

theorem isActing_iff (p : Pledge) : p.isActing = true ↔ p.state = .armed ∨ p.state = .active := by simp [Pledge.isActing]

/-- R130: RETIRE of a pledge. -/
theorem exec_retirePledge_cases (key : Half) {s : State} (ht : s.takesRequests) :
    (s.pledge? key.toNat = none → exec (.retirePledge key) s = .next (s.replied (headOf 5#8 4#8 key) 0 .notFound 0 []))
    ∧ ∀ p, s.pledge? key.toNat = some p →
        (p.state = .armed ∨ p.state = .active →
          exec (.retirePledge key) s = .next (s.replied (headOf 5#8 4#8 key) 0 .badState 0 []))
        ∧ (p.state = .booked ∨ p.state = .complete → ∃ t, exec (.retirePledge key) s = .next t
            ∧ AnsweredDone s (headOf 5#8 4#8 key) 0 { s with pledges := s.pledges.filter fun q => q.id != key.toNat }
              (fun _ => []) t) := by
  have ho : s.begun.owner (.retire .pledge key.toNat) = withRecord (s.pledge? key.toNat) s.begun fun p =>
      if p.isActing then refuse .badState 0 s.begun
      else s.begun.settled { s.begun with pledges := eraseKey Pledge.id key.toNat s.pledges } fun _ => [] := rfl
  refine ⟨fun hp => ?_, fun p hp => ?_⟩ <;> rw [hp] at ho
  · exact exec_retire_refused rfl ht (by simp) ho
  · rw [withRecord_some] at ho
    refine ⟨fun hacting => ?_, fun hdone => ?_⟩
    · rw [if_pos ((isActing_iff p).2 hacting)] at ho
      exact exec_retire_refused rfl ht (by simp) ho
    · have hidle : ¬ p.isActing = true := by
        rw [isActing_iff]
        rcases hdone with h | h <;> simp [h]
      rw [if_neg hidle] at ho
      exact (exec_retire_done (c := .retirePledge key) rfl ht (by simp) ho rfl rfl :)

/-- Settles O28: the four tables, each by its own cases. -/
theorem retireFreesSlot : Obligations.RetireFreesSlot := by
  intro key s ht k hb hn hx hp
  obtain ⟨busNone, busSome⟩ := exec_retireBus_cases key ht
  obtain ⟨berthNone, berthSome⟩ := exec_retireBerth_cases key ht
  obtain ⟨ticketNone, ticketSome⟩ := exec_retireTicket_cases key ht
  obtain ⟨pledgeNone, pledgeSome⟩ := exec_retirePledge_cases key ht
  exact ⟨busNone, busSome, berthNone, berthSome, ticketNone, ticketSome, pledgeNone, pledgeSome⟩

/-! ## RECORDS_RESET -/

/-- With no bus there is no eligibility to lose, and every berth keeps its targets. -/
theorem withdrawn_of_no_buses {post : State} (h : post.buses = []) (b : Berth) : post.withdrawn b = b := by
  have hloses : post.losesExport b = false := by
    unfold State.losesExport
    rw [h]
    rfl
  unfold State.withdrawn
  rw [hloses]
  simp

/-- With no ticket no entry stays in the yield list and none enters. -/
theorem updatedYields_of_no_tickets {s : State} (h : s.tickets = []) (risk : List Nat) : s.updatedYields risk = [] := by
  have hkeeps : s.keepsEntry = fun _ => false := by
    funext e
    unfold State.keepsEntry State.ticket?
    rw [h]
    rfl
  unfold State.updatedYields State.newEntries
  rw [hkeeps, h]
  simp

/-- R77, R78: outside RUNNING the ceilings are 0 and held. -/
theorem ceilings_of_not_running {t : State} (hc : t.ceilingsCurrent) (hr : t.run.state ≠ .running) :
    t.alloc.importCeiling = 0 ∧ t.alloc.binding = .held ∧ t.alloc.exportCeiling = 0 := by
  have hheld : t.heldAtZero = true := by simp [State.heldAtZero, hr]
  obtain ⟨himport, hbinding, hexport⟩ := hc
  rw [State.importCeilingNow, if_pos hheld] at himport hbinding
  rw [State.exportCeilingNow, if_pos hheld] at hexport
  exact ⟨himport, hbinding, hexport⟩

/-- The reserve that the end of a RECORDS_RESET leaves: no entry, and nothing to hand on. -/
theorem settled_reserve_of_no_records {before post t : State} (h : Settles before post t) (hx : post.tickets = [])
    (hp : post.pledges = [])
    (hr : post.reserve = { yieldList := [], curtailCommitment := 0, readinessYield := 0, exportCommitment := 0 }) :
    t.reserve = { yieldList := [], curtailCommitment := 0, readinessYield := 0, exportCommitment := 0 } := by
  obtain ⟨⟨_, _, _, _, _, hpledges, _⟩, _, _, htickets, hyields, ⟨hcurtail, hexport⟩, _⟩ := h
  rw [hp] at hpledges
  rw [hx] at htickets
  have hyield : t.reserve.yieldList = [] ∧ t.reserve.readinessYield = 0 := by
    unfold State.yieldsSettled at hyields
    split at hyields
    · rw [hr] at hyields
      exact hyields
    · obtain ⟨hlist, hyield⟩ := hyields
      rw [updatedYields_of_no_tickets (s := { t with reserve := post.reserve }) htickets] at hlist
      rw [hlist] at hyield
      exact ⟨hlist, hyield.trans (Nat.zero_min _)⟩
  rw [hpledges] at hcurtail hexport
  have heta : t.reserve =
      ⟨t.reserve.yieldList, t.reserve.curtailCommitment, t.reserve.readinessYield, t.reserve.exportCommitment⟩ := rfl
  rw [heta, hyield.1, hyield.2, hcurtail, hexport]
  rfl

/-- Settles O41: the owner's answer settles `recordsCleared`; with no records there is nothing more to hand on. -/
theorem recordsResetClearsRecords : Obligations.RecordsResetClearsRecords := by
  intro s ht
  have hrow : asRequest .recordsReset = some (controlHead 0#16, .control .recordsReset) := rfl
  obtain ⟨t, hexec, hdone⟩ := exec_answered hrow ht rfl (by decide) rfl (by simp) (post := s.begun.recordsCleared)
    (body := fun _ => []) rfl rfl rfl fun _ _ => rfl
  have hreserve := settled_reserve_of_no_records hdone rfl rfl rfl
  obtain ⟨⟨_, hdepot, hline, hrun, hclock, hpledges, hgrid, hsupervision, hprofile, hstore, _, _, hbase⟩, hbuses, hberths,
    htickets, _, _, hceilings, ⟨hflags, harmed⟩, hpass⟩ := hdone
  have hidle : t.run.state = .idle := by rw [hrun]; rfl
  obtain ⟨himport, hbinding, hexport⟩ := ceilings_of_not_running hceilings (by rw [hidle]; simp)
  refine ⟨t, hexec, hbuses, htickets, hpledges, ?_, hline, hrun, ?_, hreserve, ?_, hclock, hgrid, hprofile, hstore, hsupervision,
    hdepot⟩
  · rw [hberths]
    refine (List.map_congr_left fun b _ => withdrawn_of_no_buses rfl b).trans (List.map_id' _)
  · have heta : t.alloc = ⟨t.alloc.baseLoad, t.alloc.importCeiling, t.alloc.binding, t.alloc.exportCeiling,
        t.alloc.passRequested⟩ := rfl
    rw [heta, himport, hbinding, hexport, hpass, hbase]
    rfl
  · have heta : t.attention = ⟨t.attention.flags, t.attention.armed⟩ := rfl
    rw [heta, hflags, harmed]
    rfl

end Sys2Proof.Machine
end

section
/-! PROOFS. The derived fields of a bus and the grading of a ticket as arithmetic (R11, R14 to R19, R107, R108; O53). -/

namespace Sys2Proof.Machine

/-! ## Floor and band (R11, R14) -/

/-- R14: without a ticket the floor is the least energy that is not below the idle floor percentage of the capacity. -/
theorem floorFor_none (p : Profile) (b : Bus) :
    p.idleFloor * b.capacity ≤ 100 * floorFor p none b
      ∧ (floorFor p none b ≠ 0 → 100 * (floorFor p none b - 1) < p.idleFloor * b.capacity) := by
  unfold floorFor
  dsimp only
  omega

theorem bandOf_ranges (temperature : Int) :
    (temperature ≤ -21 → bandOf temperature = .frozen)
      ∧ (-20 ≤ temperature → temperature ≤ 4 → bandOf temperature = .cold)
      ∧ (5 ≤ temperature → temperature ≤ 44 → bandOf temperature = .normal)
      ∧ (45 ≤ temperature → bandOf temperature = .hot) := by
  unfold bandOf
  refine ⟨fun h => if_pos h, fun h h' => ?_, fun h h' => ?_, fun h => ?_⟩
  · rw [if_neg (by omega), if_pos h']
  · rw [if_neg (by omega), if_neg (by omega), if_pos h']
  · rw [if_neg (by omega), if_neg (by omega), if_neg (by omega)]

/-! ## A bus at a berth (R15, R16, R18, R19) -/

/-- A bus that can take power: attached, in service and without a pack fault. -/
def Bus.isAble (b : Bus) : Prop := b.state = .attached ∧ b.inService = true ∧ b.packFault = false

/-- R15: the preheat power, from the departure less the lead, inclusive, to the departure, exclusive. -/
theorem preheatTerm_eq {now : Option Nat} {ticket : Option Ticket} {preheat : Nat}
    (hset : ∀ x n, ticket = some x → now = some n →
      (minutesFrom n x.departure ≤ x.lead → 0 < minutesFrom n x.departure → preheat = x.power)
        ∧ ((x.lead : Int) < minutesFrom n x.departure ∨ minutesFrom n x.departure ≤ 0 → preheat = 0))
    (hunset : ticket = none ∨ now = none → preheat = 0) : preheatTerm now ticket = preheat := by
  cases now with
  | none => exact (hunset (.inr rfl)).symm
  | some n =>
    cases ticket with
    | none => exact (hunset (.inl rfl)).symm
    | some x =>
      obtain ⟨hwithin, hwithout⟩ := hset x n rfl rfl
      simp only [preheatTerm, earlier_iff]
      split
      · rename_i h
        exact (hwithin h.1 h.2).symm
      · rename_i h
        exact (hwithout (by omega)).symm

section
variable (p : Profile) (now : Option Nat) (ticket : Option Ticket) (r : Berth) (b : Bus)

theorem thermalFor_able (hable : b.isAble) (hhot : b.band ≠ some .hot) :
    thermalFor p now ticket (some r) b =
      min (max (warmUpTerm p b) (preheatTerm now ticket)) (min b.rateCap r.maxImport) :=
  if_pos ⟨hable.1, hable.2.1, hable.2.2, hhot⟩

theorem thermalFor_unable (h : ¬ b.isAble ∨ b.band = some .hot) : thermalFor p now ticket (some r) b = 0 :=
  if_neg fun ⟨ha, hs, hf, hb⟩ => h.elim (fun hn => hn ⟨ha, hs, hf⟩) hb

theorem chargeFor_zero (thermal : Nat)
    (h : ¬ b.isAble ∨ b.freshness ≠ .fresh ∨ b.band = some .frozen ∨ b.band = some .hot ∨ b.held = some b.capacity) :
    chargeFor p (some r) thermal b = 0 := by
  refine if_neg fun ⟨ha, hs, hf, hfresh, hfrozen, hhot, hheld⟩ => ?_
  rcases h with h | h | h | h | h
  · exact h ⟨ha, hs, hf⟩
  · exact h hfresh
  · exact hfrozen h
  · exact hhot h
  · exact hheld h

/-- R16: an able bus that is neither frozen nor hot nor full charges as far as its band allows, less its thermal demand. -/
theorem chargeFor_able (thermal : Nat) (hable : b.isAble) (hfresh : b.freshness = .fresh) (hheld : b.held ≠ some b.capacity)
    (hfrozen : b.band ≠ some .frozen) (hhot : b.band ≠ some .hot) {acceptance : Nat} (hacc : b.acceptance = some acceptance) :
    chargeFor p (some r) thermal b = bandLimit p b (min b.rateCap (min acceptance r.maxImport)) - thermal := by
  refine (if_pos ⟨hable.1, hable.2.1, hable.2.2, hfresh, hfrozen, hhot, hheld⟩).trans ?_
  rw [hacc, Option.getD_some]

theorem inHorizon_eq_false_iff :
    inHorizon p now ticket = false ↔
      ∀ x n, ticket = some x → now = some n → (p.protectedHorizon : Int) < minutesFrom n x.departure := by
  cases now with
  | none => simp [inHorizon]
  | some n => cases ticket <;> simp [inHorizon]

/-- R18, R19. -/
theorem eligibleFor_iff (floor : Nat) {held : Nat} (hheld : b.held = some held) :
    eligibleFor p now ticket (some r) floor b = true ↔
      b.isAble ∧ b.reserveEligible = true ∧ r.state = .occupied ∧ b.freshness = .fresh ∧ b.band = some .normal
        ∧ floor < held ∧ 0 < r.maxExport ∧ inHorizon p now ticket = false := by
  unfold eligibleFor Bus.isAble
  simp only [hheld, Bool.and_eq_true, beq_iff_eq, decide_eq_true_eq, Bool.not_eq_true']
  tauto

end

/-- R14 to R19: the derived fields of a bus whose berth is `r`, or of a bus without a berth. -/
theorem deriveBus_fields (s : State) (b : Bus) :
    let floor := floorFor s.profile (s.ticketOf b) b
    let thermal := thermalFor s.profile s.now (s.ticketOf b) (s.berthOf b) b
    (s.deriveBus b).floor = floor ∧ (s.deriveBus b).thermal = thermal
      ∧ (s.deriveBus b).charge = chargeFor s.profile (s.berthOf b) thermal b
      ∧ (s.deriveBus b).exportEligible = eligibleFor s.profile s.now (s.ticketOf b) (s.berthOf b) floor b :=
  ⟨rfl, rfl, rfl, rfl⟩

/-! ## Grading (R107, R108) -/

section
variable {s : State} {x : Ticket} {b : Bus} (hx : x.state = .assigned) (hb : x.bus.bind s.bus? = some b)
include hx hb

theorem gradeTicket_fields :
    (s.gradeTicket x).projected = projectedFor s.now x (s.berthOf b) b
      ∧ (s.gradeTicket x).grade = some (gradeFor x b (projectedFor s.now x (s.berthOf b) b)) := by
  have ha : x.isAssigned = true := by simp [Ticket.isAssigned, hx]
  simp [State.gradeTicket, ha, hb]

/-- R107: without a held energy there is no projection. -/
theorem gradeTicket_of_held_none (hh : b.held = none) :
    (s.gradeTicket x).grade = some .unknown ∧ (s.gradeTicket x).projected = none := by
  obtain ⟨hp, hg⟩ := gradeTicket_fields hx hb
  rw [hp, hg]
  simp [projectedFor, gradeFor, hh]

variable {held : Nat} (hh : b.held = some held)
include hh

/-- R107: an attached bus gains what its berth's decided target gives it beyond its thermal demand until departure. -/
theorem projected_of_attached {now : Nat} {r : Berth} (hn : s.now = some now) (ha : b.state = .attached)
    (hr : s.berthOf b = some r) :
    (s.gradeTicket x).projected =
      some (min b.capacity (held + ((max r.decided 0).toNat - b.thermal) * (minutesFrom now x.departure).toNat / 6)) := by
  have hpart : (max r.decided 0).toNat = importPart r.decided := by unfold importPart; omega
  rw [(gradeTicket_fields hx hb).1, hn, hr, hpart]
  simp [projectedFor, hh, chargeComponent, ha, minutesTo]

/-- R107: a bus that is AWAY gains nothing. -/
theorem projected_of_away (ha : b.state = .away) : (s.gradeTicket x).projected = some (min b.capacity held) := by
  have hzero : chargeComponent (s.berthOf b) b = 0 := by cases s.berthOf b <;> simp [chargeComponent, ha]
  rw [(gradeTicket_fields hx hb).1]
  simp [projectedFor, hh, hzero]

/-- R108: the four grades, in their order. -/
theorem grade_cases {projected : Nat} (hp : (s.gradeTicket x).projected = some projected) :
    (s.gradeTicket x).grade =
      some (if b.freshness = .stale then .unknown else if x.need ≤ held then .ready
        else if x.need ≤ projected then .onTrack else .atRisk) := by
  obtain ⟨hproj, hgrade⟩ := gradeTicket_fields hx hb
  rw [hgrade, ← hproj, hp]
  simp [gradeFor, hh]

end

/-- Settles O53: `deriveBus_fields` and `gradeTicket_fields` name the functions, whose cases the lemmas above say. -/
theorem derivedFieldsFollowTheRules : Obligations.DerivedFieldsFollowTheRules := by
  refine ⟨fun s b => ?_, bandOf_ranges, fun s x b hx hb => ?_⟩
  · intro d p
    obtain ⟨hfloor, hthermal, hcharge, heligible⟩ := deriveBus_fields s b
    refine ⟨fun hnone => ?_, fun x hx => ?_, fun hnone => ?_, fun r hr => ?_⟩
    · rw [hfloor, hnone]
      exact floorFor_none p b
    · rw [hfloor, hx]
      rfl
    · rw [hthermal, hcharge, heligible, hnone]
      exact ⟨rfl, rfl, rfl⟩
    · intro able warm
      rw [hr] at hthermal hcharge heligible
      rw [← hthermal] at hcharge
      rw [← hfloor] at heligible
      refine ⟨fun h => ?_, fun hable hhot preheat hset hunset => ?_, fun h => ?_, fun acceptance hable hfresh hheld hacc => ?_,
        fun held hheld => ?_, fun hnone => ?_⟩
      · exact ⟨hthermal.trans (thermalFor_unable _ _ _ r b h), hcharge.trans
          (chargeFor_zero _ r b _ (h.imp id fun hhot => .inr (.inr (.inl hhot))))⟩
      · rw [hthermal, thermalFor_able _ _ _ r b hable hhot, preheatTerm_eq hset hunset]
        rfl
      · exact hcharge.trans (chargeFor_zero _ r b _ (by tauto))
      · refine ⟨fun hband => ?_, fun hband => ?_⟩ <;>
          rw [hcharge, chargeFor_able _ r b _ hable hfresh hheld (by simp [hband]) (by simp [hband]) hacc, bandLimit, hband]
        · rfl
        · rw [if_pos rfl, hacc, Option.getD_some]
      · rw [heligible, eligibleFor_iff _ _ _ r b _ hheld, inHorizon_eq_false_iff]
        exact Iff.rfl
      · rw [heligible]
        unfold eligibleFor
        rw [hnone]
  · intro g
    refine ⟨gradeTicket_of_held_none hx hb, fun held hheld => ⟨fun now r hn ha hr => projected_of_attached hx hb hheld hn ha hr,
      projected_of_away hx hb hheld, fun projected hp => ?_⟩⟩
    rw [grade_cases hx hb hheld hp]
    refine ⟨fun h => ?_, fun h h' => ?_, fun h h' h'' => ?_, fun h h' h'' => ?_⟩
    · rw [if_pos h]
    · rw [if_neg h, if_pos h']
    · rw [if_neg h, if_neg (by omega), if_pos h'']
    · rw [if_neg h, if_neg (by omega), if_neg (by omega)]

end Sys2Proof.Machine
end

section
/-! PROOFS. The corrected output of a dispenser (R30; O52), and the owner's answers to ENROL of a berth (R25; O19). -/

namespace Sys2Proof.Machine

/-! ## The corrected output (R30) -/

/-- Settles O52: the magnitude is the nearest whole number of thousandths, and takes the sign of the exact value. -/
theorem correctedOutputRoundsToNearest : Obligations.CorrectedOutputRoundsToNearest := by
  intro present correction exact
  have hdef : correctedOutput present correction =
      max (-100) (min 150 (if exact < 0 then -(((exact.natAbs + 500) / 1000 : Nat) : Int)
        else (((exact.natAbs + 500) / 1000 : Nat) : Int))) := rfl
  refine ⟨_, hdef, ?_⟩
  split <;> omega

/-! ## ENROL of a berth (R25) -/

section
variable {key : Nat} {pairs : List Pair} {s : State}

theorem enrolBerth_busy (hr : s.run.state ≠ .idle) : s.enrolBerth key pairs = refuse .busy 0 s := if_pos hr

variable (hr : s.run.state = .idle)
include hr

theorem enrolBerth_badKey (hk : key = 0 ∨ 32 < key) : s.enrolBerth key pairs = refuse .badField 1 s :=
  (if_neg (not_not.2 hr)).trans (if_pos hk)

variable (hk : 1 ≤ key ∧ key ≤ 32)
include hk

theorem enrolBerth_goodKey : s.enrolBerth key pairs =
    if (s.berth? key).isSome then refuse .existsAlready 0 s
    else withPairs (checkPairs 19 berthFieldFits [2, 3, 4, 5] [] pairs) s <|
      s.settled ({ s with berths := insertByKey Berth.number (enrolledBerth key pairs) s.berths } : State).requestPass
        fun t => recordBody (t.berthValues key) :=
  (if_neg (not_not.2 hr)).trans (if_neg (by omega))

theorem enrolBerth_exists (hb : (s.berth? key).isSome) : s.enrolBerth key pairs = refuse .existsAlready 0 s := by
  rw [enrolBerth_goodKey hr hk, if_pos hb]

variable (hb : s.berth? key = none)
include hb

theorem enrolBerth_badPairs {st : Status} {f : Nat} (hc : checkPairs 19 berthFieldFits [2, 3, 4, 5] [] pairs = some (st, f)) :
    s.enrolBerth key pairs = refuse st f s := by
  rw [enrolBerth_goodKey hr hk, if_neg (by simp [hb]), hc, withPairs_some]

theorem enrolBerth_settled (hc : checkPairs 19 berthFieldFits [2, 3, 4, 5] [] pairs = none) : s.enrolBerth key pairs =
    s.settled ({ s with berths := insertByKey Berth.number (enrolledBerth key pairs) s.berths } : State).requestPass
      fun t => recordBody (t.berthValues key) := by
  rw [enrolBerth_goodKey hr hk, if_neg (by simp [hb]), hc, withPairs_none]

end

/-- R25: the host fields of a new berth are those of a body that passes its check. -/
theorem enrolledBerth_fields {key : Nat} {pairs : List Pair}
    (hc : checkPairs 19 berthFieldFits [2, 3, 4, 5] [] pairs = none) :
    let b := enrolledBerth key pairs
    some (b.branch : Int) = carriedFor pairs 2 ∧ some (b.trench : Int) = carriedFor pairs 3
      ∧ some (b.position : Int) = carriedFor pairs 4 ∧ some (b.maxImport : Int) = carriedFor pairs 5
      ∧ (b.maxExport : Int) = (carriedFor pairs 6).getD 0 := by
  obtain ⟨branch, h2⟩ := carriedFor_required hc (i := 2) (by simp)
  obtain ⟨trench, h3⟩ := carriedFor_required hc (i := 3) (by simp)
  obtain ⟨position, h4⟩ := carriedFor_required hc (i := 4) (by simp)
  obtain ⟨limit, h5⟩ := carriedFor_required hc (i := 5) (by simp)
  have fit2 := (within_iff 1 4 _).1 (carriedFor_fits hc h2)
  have fit3 := (within_iff 1 8 _).1 (carriedFor_fits hc h3)
  have fit4 := (within_iff 1 8 _).1 (carriedFor_fits hc h4)
  have fit5 := (within_iff 10 150 _).1 (carriedFor_fits hc h5)
  refine ⟨natField_of_carried h2 (by omega) 0, natField_of_carried h3 (by omega) 0, natField_of_carried h4 (by omega) 0,
    natField_of_carried h5 (by omega) 0, ?_⟩
  show ((natField pairs 6 0 : Nat) : Int) = _
  cases h6 : carriedFor pairs 6 with
  | none => simp [natField, h6]
  | some v =>
    have fit6 := (within_iff 0 100 _).1 (carriedFor_fits hc h6)
    simp [natField, h6, Int.toNat_of_nonneg fit6.1]

/-- Settles O19: the owner's answer branch by branch, and the fields of the record it creates. -/
theorem enrolBerthCreatesRecord : Obligations.EnrolBerthCreatesRecord := by
  intro key pairs s ht hlen h n k refused check
  have hrow : asRequest (.enrolBerth key pairs) = some (h, .enrol .berth k pairs) := rfl
  have hn : (Request.enrol .berth k pairs).body.length = n := length_pairBytes pairs
  have hform : (Request.enrol .berth k pairs).formOk = true := by simpa [Request.formOk] using hlen
  have refuses {st : Status} {f : Nat} (ho : s.begun.enrolBerth k pairs = refuse st f s.begun) : refused st f :=
    exec_replied hrow ht hn (by omega) hform (by simp) ho
  refine ⟨fun hr => refuses (enrolBerth_busy (s := s.begun) hr), fun hr =>
    ⟨fun hk => refuses (enrolBerth_badKey (s := s.begun) hr hk),
      fun h1 h2 hb => refuses (enrolBerth_exists (s := s.begun) hr ⟨h1, h2⟩ hb),
      fun h1 h2 hb => ⟨fun st f hc => refuses (enrolBerth_badPairs (s := s.begun) hr ⟨h1, h2⟩ hb hc), fun hc => ?_⟩⟩⟩
  obtain ⟨t, hexec, hdone⟩ := exec_answered hrow ht hn (by omega) hform (by simp)
    (enrolBerth_settled (s := s.begun) hr ⟨h1, h2⟩ hb hc) rfl rfl fun _ _ => rfl
  obtain ⟨hbranch, htrench, hposition, himport, hexport⟩ := enrolledBerth_fields (key := k) hc
  exact ⟨enrolledBerth k pairs, t, hexec, hdone, rfl, hbranch, htrench, hposition, himport, hexport, rfl,
    flagField_false pairs 8⟩

end Sys2Proof.Machine
end

section
/-! PROOFS. The links between records (R6, R40, R104) as lookups that agree with each other, and the view of the records that they
are a property of. -/

namespace Sys2Proof.Machine

/-! ## The links as lookups -/

/-- The bus at a berth. -/
def State.occupantAt (s : State) (n : Nat) : Option Nat := (s.berth? n).bind Berth.busOccupant

/-- The berth a bus names. -/
def State.placeOf (s : State) (k : Nat) : Option Nat := (s.bus? k).bind Bus.berth

/-- The bus a ticket names. -/
def State.holderOf (s : State) (id : Nat) : Option Nat := (s.ticket? id).bind Ticket.bus

/-- The ticket a bus names. -/
def State.ticketHeld (s : State) (k : Nat) : Option Nat := (s.bus? k).bind Bus.ticket

/-- R6, R40: the link of berths and buses is the same from both of its ends, and the states of both fit it. -/
structure PlacesLinked (s : State) : Prop where
  fits : ∀ b ∈ s.berths, b.occupantFits = true
  place : ∀ n k, s.occupantAt n = some k ↔ s.placeOf k = some n
  attached : ∀ x ∈ s.buses, x.state = .attached ↔ x.berth.isSome = true

/-- R104: the link of tickets and buses is the same from both of its ends, and the ticket's state fits it. -/
structure TicketsLinked (s : State) : Prop where
  ticket : ∀ id k, s.holderOf id = some k ↔ s.ticketHeld k = some id
  assigned : ∀ x ∈ s.tickets, x.state = .assigned ↔ x.bus.isSome = true

/-- Both links. -/
structure Linked (s : State) : Prop where
  places : PlacesLinked s
  tickets : TicketsLinked s

/-! ## Lookups in tables of the table form -/

section
variable {s : State}

theorem number_of_berth? {n : Nat} {b : Berth} (h : s.berth? n = some b) : b.number = n := key_of_findKey h
theorem fleet_of_bus? {k : Nat} {x : Bus} (h : s.bus? k = some x) : x.fleet = k := key_of_findKey h
theorem id_of_ticket? {id : Nat} {x : Ticket} (h : s.ticket? id = some x) : x.id = id := key_of_findKey h
theorem mem_of_berth? {n : Nat} {b : Berth} (h : s.berth? n = some b) : b ∈ s.berths := mem_of_findKey h
theorem mem_of_bus? {k : Nat} {x : Bus} (h : s.bus? k = some x) : x ∈ s.buses := mem_of_findKey h
theorem mem_of_ticket? {id : Nat} {x : Ticket} (h : s.ticket? id = some x) : x ∈ s.tickets := mem_of_findKey h

variable (ht : s.tablesOk = true)
include ht

theorem bus?_of_mem {x : Bus} (h : x ∈ s.buses) : s.bus? x.fleet = some x :=
  findKey_of_mem ((tablesOk_iff s).1 ht).1.1 h

theorem berth?_of_mem {b : Berth} (h : b ∈ s.berths) : s.berth? b.number = some b :=
  findKey_of_mem ((tablesOk_iff s).1 ht).2.1.1 h

theorem ticket?_of_mem {x : Ticket} (h : x ∈ s.tickets) : s.ticket? x.id = some x :=
  findKey_of_mem ((tablesOk_iff s).1 ht).2.2.1.1 h

theorem berth_eq_of_number {b r : Berth} (hb : b ∈ s.berths) (hr : r ∈ s.berths) (h : r.number = b.number) : r = b :=
  key_injOn_of_keysRising ((tablesOk_iff s).1 ht).2.1.1 hr hb h

theorem ticket_eq_of_id {x y : Ticket} (hx : x ∈ s.tickets) (hy : y ∈ s.tickets) (h : y.id = x.id) : y = x :=
  key_injOn_of_keysRising ((tablesOk_iff s).1 ht).2.2.1.1 hy hx h

theorem placeOf_fleet {x : Bus} (h : x ∈ s.buses) : s.placeOf x.fleet = x.berth := by
  rw [State.placeOf, bus?_of_mem ht h, Option.bind_some]

theorem ticketHeld_fleet {x : Bus} (h : x ∈ s.buses) : s.ticketHeld x.fleet = x.ticket := by
  rw [State.ticketHeld, bus?_of_mem ht h, Option.bind_some]

theorem occupantAt_number {b : Berth} (h : b ∈ s.berths) : s.occupantAt b.number = b.busOccupant := by
  rw [State.occupantAt, berth?_of_mem ht h, Option.bind_some]

theorem holderOf_id {x : Ticket} (h : x ∈ s.tickets) : s.holderOf x.id = x.bus := by
  rw [State.holderOf, ticket?_of_mem ht h, Option.bind_some]

/-- The occupancy of the statements is the link of places. -/
theorem placesLinked_iff : PlacesLinked s ↔ s.occupancyOk = true := by
  simp only [State.occupancyOk, Bool.and_eq_true, List.all_eq_true]
  constructor
  · rintro ⟨hfits, hplace, hattached⟩
    refine ⟨fun b hb => ⟨hfits b hb, ?_⟩, fun x hx => ?_⟩
    · cases hk : b.busOccupant with
      | none => rfl
      | some k => simpa [State.placeOf] using (hplace b.number k).1 ((occupantAt_number ht hb).trans hk)
    · have hstate := hattached x hx
      cases hn : x.berth with
      | none => cases hx : x.state <;> simp_all
      | some n => simpa [hn] using ⟨(hplace n x.fleet).2 ((placeOf_fleet ht hx).trans hn), hstate.2 (by simp [hn])⟩
  · rintro ⟨hberth, hbus⟩
    refine ⟨fun b hb => (hberth b hb).1, fun n k => ⟨fun h => ?_, fun h => ?_⟩, fun x hx => ?_⟩
    · obtain ⟨b, hb, hk⟩ := Option.bind_eq_some_iff.1 h
      have := (hberth b (mem_of_berth? hb)).2
      rw [hk, number_of_berth? hb] at this
      simpa [State.placeOf] using this
    · obtain ⟨x, hx, hn⟩ := Option.bind_eq_some_iff.1 h
      have := hbus x (mem_of_bus? hx)
      rw [hn, fleet_of_bus? hx] at this
      simp only [Bool.and_eq_true, beq_iff_eq] at this
      exact this.1
    · have := hbus x hx
      cases hn : x.berth <;> simp_all

/-- The ticket links of the statements are the link of tickets. -/
theorem ticketsLinked_iff : TicketsLinked s ↔ s.ticketLinksOk = true := by
  simp only [State.ticketLinksOk, Bool.and_eq_true, List.all_eq_true]
  constructor
  · rintro ⟨hticket, hassigned⟩
    refine ⟨fun x hx => ?_, fun x hx => ?_⟩
    · have hstate := hassigned x hx
      cases hk : x.bus with
      | none => simpa [hk, Ticket.isAssigned] using hstate
      | some k =>
        simpa [hk, Ticket.isAssigned] using
          ⟨hstate.2 (by simp [hk]), (hticket x.id k).1 ((holderOf_id ht hx).trans hk)⟩
    · cases hid : x.ticket with
      | none => rfl
      | some id => simpa [State.holderOf] using (hticket id x.fleet).2 ((ticketHeld_fleet ht hx).trans hid)
  · rintro ⟨hticket, hheld⟩
    refine ⟨fun id k => ⟨fun h => ?_, fun h => ?_⟩, fun x hx => ?_⟩
    · obtain ⟨x, hx, hk⟩ := Option.bind_eq_some_iff.1 h
      have := hticket x (mem_of_ticket? hx)
      rw [hk, id_of_ticket? hx] at this
      simp only [Bool.and_eq_true, beq_iff_eq] at this
      exact this.2
    · obtain ⟨x, hx, hid⟩ := Option.bind_eq_some_iff.1 h
      have := hheld x (mem_of_bus? hx)
      rw [hid, fleet_of_bus? hx] at this
      simpa [State.holderOf] using this
    · have := hticket x hx
      cases hk : x.bus <;> simp_all [Ticket.isAssigned]

end

/-! ## The view that the links are a property of -/

/-- What a bus shows of its place. -/
def Bus.place (x : Bus) : Nat × BusState × Option Nat := (x.fleet, x.state, x.berth)

/-- What a bus shows of its ticket. -/
def Bus.holding (x : Bus) : Nat × Option Nat := (x.fleet, x.ticket)

/-- What a bus shows of its links. -/
def Bus.link (x : Bus) : (Nat × BusState × Option Nat) × Nat × Option Nat := (x.place, x.holding)

/-- What a berth shows of its link. -/
def Berth.link (b : Berth) : Nat × Option Nat × Bool := (b.number, b.busOccupant, b.occupantFits)

/-- What a ticket shows of its link. -/
def Ticket.link (x : Ticket) : Nat × Option Nat × TicketState := (x.id, x.bus, x.state)

/-- What the records show of their links. -/
def State.links (s : State) :
    List ((Nat × BusState × Option Nat) × Nat × Option Nat) × List (Nat × Option Nat × Bool)
      × List (Nat × Option Nat × TicketState) :=
  (s.buses.map Bus.link, s.berths.map Berth.link, s.tickets.map Ticket.link)

@[simp] theorem links_mk (powered depot buses berths line run alloc clock tickets pledges reserve grid attention supervision
    profile store freeIndex pending) :
    (State.mk powered depot buses berths line run alloc clock tickets pledges reserve grid attention supervision profile store
      freeIndex pending).links
      = (buses.map Bus.link, berths.map Berth.link, tickets.map Ticket.link) := rfl

@[simp] theorem links_fold (s : State) :
    (s.buses.map Bus.link, s.berths.map Berth.link, s.tickets.map Ticket.link) = s.links := rfl

/-- A property that reads what a table shows holds of all its records where the table shows the same. -/
theorem forall_mem_of_map_eq {α β : Type} {view : α → β} {p : α → Prop} {q : β → Prop} (hp : ∀ x, p x ↔ q (view x))
    {l m : List α} (h : m.map view = l.map view) : (∀ x ∈ m, p x) ↔ ∀ x ∈ l, p x := by
  simp only [hp, ← List.forall_mem_map (f := view) (P := q), h]

/-- A lookup and then a field that the view shows give the same where the table shows the same. -/
theorem findKey_bind_of_map_eq {α β γ : Type} {key : α → Nat} {view : α → β} {shown : β → Nat} {field : α → Option γ}
    {seen : β → Option γ} (hk : ∀ x, shown (view x) = key x) (hf : ∀ x, seen (view x) = field x) {l m : List α}
    (h : m.map view = l.map view) (k : Nat) : (findKey key k m).bind field = (findKey key k l).bind field := by
  have hfield : field = seen ∘ view := funext fun x => (hf x).symm
  rw [hfield, ← Option.bind_map, ← Option.bind_map, ← findKey_view hk, ← findKey_view hk, h]

theorem PlacesLinked.of_views {s t : State} (hs : PlacesLinked s) (hb : t.buses.map Bus.place = s.buses.map Bus.place)
    (hr : t.berths.map Berth.link = s.berths.map Berth.link) : PlacesLinked t := by
  have occupant (n : Nat) : t.occupantAt n = s.occupantAt n :=
    findKey_bind_of_map_eq (key := Berth.number) (field := Berth.busOccupant) (shown := Prod.fst) (seen := fun v => v.2.1)
      (fun _ => rfl) (fun _ => rfl) hr n
  have place (k : Nat) : t.placeOf k = s.placeOf k :=
    findKey_bind_of_map_eq (key := Bus.fleet) (field := Bus.berth) (shown := Prod.fst) (seen := fun v => v.2.2)
      (fun _ => rfl) (fun _ => rfl) hb k
  refine ⟨?_, fun n k => ?_, ?_⟩
  · exact (forall_mem_of_map_eq (q := fun v => v.2.2 = true) (fun _ => Iff.rfl) hr).2 hs.fits
  · rw [occupant, place]
    exact hs.place n k
  · exact (forall_mem_of_map_eq (q := fun v => v.2.1 = .attached ↔ v.2.2.isSome = true) (fun _ => Iff.rfl) hb).2 hs.attached

theorem TicketsLinked.of_views {s t : State} (hs : TicketsLinked s) (hb : t.buses.map Bus.holding = s.buses.map Bus.holding)
    (hx : t.tickets.map Ticket.link = s.tickets.map Ticket.link) : TicketsLinked t := by
  have held (k : Nat) : t.ticketHeld k = s.ticketHeld k :=
    findKey_bind_of_map_eq (key := Bus.fleet) (field := Bus.ticket) (shown := Prod.fst) (seen := fun v => v.2)
      (fun _ => rfl) (fun _ => rfl) hb k
  have holder (id : Nat) : t.holderOf id = s.holderOf id :=
    findKey_bind_of_map_eq (key := Ticket.id) (field := Ticket.bus) (shown := Prod.fst) (seen := fun v => v.2.1)
      (fun _ => rfl) (fun _ => rfl) hx id
  refine ⟨fun id k => ?_, ?_⟩
  · rw [holder, held]
    exact hs.ticket id k
  · exact (forall_mem_of_map_eq (q := fun v => v.2.2 = .assigned ↔ v.2.1.isSome = true) (fun _ => Iff.rfl) hx).2 hs.assigned

/-- The links are a property of what the records show of them. -/
theorem Linked.of_links {s t : State} (h : t.links = s.links) (hs : Linked s) : Linked t := by
  simp only [State.links, Prod.mk.injEq] at h
  obtain ⟨hbus, hberth, hticket⟩ := h
  have part {β : Type} (f : (Nat × BusState × Option Nat) × Nat × Option Nat → β) :
      t.buses.map (f ∘ Bus.link) = s.buses.map (f ∘ Bus.link) := by
    rw [← List.map_map, ← List.map_map, hbus]
  exact ⟨hs.places.of_views (part Prod.fst) hberth, hs.tickets.of_views (part Prod.snd) hticket⟩

end Sys2Proof.Machine
end

section
/-! PROOFS. The operations that leave every link as it is: targets, frames, the run, the grid lines, the ceilings, the gradings and
the end of an event touch no occupant, no berth field of a bus and no bus of a ticket. -/

namespace Sys2Proof.Machine

/-! ## Changes of records in their places -/

/-- A record changed by a function that keeps what it shows. -/
theorem map_view_updateKey {α β : Type} {key : α → Nat} {view : α → β} (k : Nat) {f : α → α} (hf : ∀ x, view (f x) = view x)
    (l : List α) : (updateKey key k f l).map view = l.map view :=
  map_view_map (fun x => by split <;> [exact hf x; rfl]) l

@[simp] theorem updBus_links (k : Nat) {f : Bus → Bus} (hf : ∀ x, (f x).link = x.link) (s : State) :
    (s.updBus k f).links = s.links := by
  simp only [State.links, updBus_buses, updBus_berths, updBus_tickets, map_view_updateKey k hf]

@[simp] theorem updBerth_links (n : Nat) {f : Berth → Berth} (hf : ∀ b, (f b).link = b.link) (s : State) :
    (s.updBerth n f).links = s.links := by
  simp only [State.links, updBerth_buses, updBerth_berths, updBerth_tickets, map_view_updateKey n hf]

/-- The berths changed in their places, with every link kept, and no bus and no ticket changed. -/
theorem mapBerths_links {f : Berth → Berth} (hf : ∀ b, (f b).link = b.link) {s t : State} (hr : t.berths = s.berths.map f)
    (hb : t.buses = s.buses) (hx : t.tickets = s.tickets) : t.links = s.links := by
  simp only [State.links, hr, hb, hx, map_view_map hf]

theorem SameRecords.links {s t : State} (h : SameRecords s t) : t.links = s.links := by
  unfold State.links
  rw [h.buses, h.berths, h.tickets]

@[simp] theorem raiseCause_links (c : Cause) (s : State) : (s.raiseCause c).links = s.links := rfl
@[simp] theorem requestPass_links (s : State) : s.requestPass.links = s.links := rfl
@[simp] theorem abandonRound_links (s : State) : s.abandonRound.links = s.links := rfl
@[simp] theorem clearFirstRound_links (s : State) : s.clearFirstRound.links = s.links := rfl
@[simp] theorem leaveLine_links (n : Nat) (s : State) : (s.leaveLine n).links = s.links := rfl
@[simp] theorem endExchange_links (s : State) : s.endExchange.links = s.links := rfl
@[simp] theorem chooseSend_links (n : NextSend) (s : State) : (s.chooseSend n).links = s.links := rfl
@[simp] theorem sendMeterPoll_links (s : State) : s.sendMeterPoll.links = s.links := rfl
@[simp] theorem assertTrip_links (s : State) : s.assertTrip.links = s.links := rfl

@[simp] theorem raiseIf_links (raised : Bool) (c : Cause) (s : State) : (s.raiseIf raised c).links = s.links := by
  cases raised <;> rfl

@[simp] theorem setTarget_links (n : Nat) (w d : Int) (s : State) : (s.setTarget n w d).links = s.links :=
  updBerth_links n (f := Berth.setTarget (s.grantInFlight n) w d) (fun _ => rfl) s

@[simp] theorem zeroTargets_links (s : State) : s.zeroTargets.links = s.links :=
  mapBerths_links (f := fun b => b.setTarget (s.grantInFlight b.number) 0 0) (fun _ => rfl) rfl rfl rfl

/-- Operations that keep the links keep them one after another. -/
theorem foldl_links {α : Type} {f : State → α → State} (hf : ∀ s x, (f s x).links = s.links) (l : List α) (s : State) :
    (l.foldl f s).links = s.links := by
  induction l generalizing s with
  | nil => rfl
  | cons x l ih => rw [List.foldl_cons, ih, hf]

/-! ## The end of an event -/

@[simp] theorem deriveBus_link (s : State) (x : Bus) : (s.deriveBus x).link = x.link := rfl

@[simp] theorem withdrawn_link (s : State) (b : Berth) : (s.withdrawn b).link = b.link := by
  unfold State.withdrawn
  split <;> rfl

@[simp] theorem gradeTicket_link (s : State) (x : Ticket) : (s.gradeTicket x).link = x.link := by
  unfold State.gradeTicket
  split
  · split <;> rfl
  · rfl

/-- R17: settling an event changes derived fields, targets and gradings, and no link. -/
theorem Settles.links {before post t : State} (h : Settles before post t) : t.links = post.links := by
  obtain ⟨_, hbuses, hberths, htickets, _⟩ := h
  unfold State.links
  rw [hbuses, hberths, htickets, map_view_map (deriveBus_link post), map_view_map (withdrawn_link post),
    map_view_map (gradeTicket_link t)]

@[simp] theorem closeEvent_links (s before : State) : (s.closeEvent before).links = s.links :=
  (closeEvent_settles before s).links

@[simp] theorem refreshBuses_links (s : State) : s.refreshBuses.links = s.links := by
  rw [refreshBuses_spec, links_mk, map_view_map (deriveBus_link s), map_view_map (withdrawn_link s), links_fold]

/-! ## Run control -/

@[simp] theorem setRun_links (r : RunState) (s : State) : (s.setRun r).links = s.links := by
  unfold State.setRun
  dsimp only
  split
  · rfl
  · split <;> simp

@[simp] theorem abortRun_links (c : AbortCause) (s : State) : (s.abortRun c).links = s.links := by simp [State.abortRun]

@[simp] theorem causeArises_links (c : AbortCause) (s : State) : (s.causeArises c).links = s.links := by
  unfold State.causeArises
  split <;> simp

@[simp] theorem startRun_links (s : State) : s.startRun.links = s.links := by
  unfold State.startRun
  split
  · rfl
  · simp [State.enterStarting]

@[simp] theorem testStarting_links (s : State) : s.testStarting.links = s.links := by
  unfold State.testStarting State.endStarting
  split
  · split
    · simp
    · split <;> simp
  · rfl

@[simp] theorem setSources_links (host thermal : Bool) (s : State) : (s.setSources host thermal).links = s.links := by
  unfold State.setSources
  dsimp only
  split
  · split <;> simp
  · split
    · split <;> simp
    · simp
  · rfl
  · rfl

@[simp] theorem stopRun_links (s : State) : s.stopRun.links = s.links := by
  unfold State.stopRun
  split <;> simp

@[simp] theorem meterToRun_links (measured : Nat) (warn : Bool) (s : State) :
    (s.meterToRun measured warn).links = s.links := by
  unfold State.meterToRun State.countOverdraw
  dsimp only
  rw [setSources_links]
  split
  · split <;> simp
  · rfl

/-! ## The berth link controller -/

@[simp] theorem completeRound_links (s : State) : s.completeRound.links = s.links := by simp [State.completeRound]

@[simp] theorem pollEnded_links (a : Nat) (s : State) : (s.pollEnded a).links = s.links := by
  unfold State.pollEnded
  split <;> simp

@[simp] theorem beginBreak_links (s : State) : s.beginBreak.links = s.links :=
  mapBerths_links (f := Berth.atBreak) (fun _ => rfl) rfl rfl rfl

@[simp] theorem lineReleased_links (s : State) : s.lineReleased.links = s.links := by
  unfold State.lineReleased
  split <;> rfl

@[simp] theorem lineStopped_links (s : State) : s.lineStopped.links = s.links := by
  unfold State.lineStopped
  split <;> simp

@[simp] theorem chooseNext_links (s : State) : s.chooseNext.links = s.links := by
  have poll : s.pollStep.links = s.links := by
    unfold State.pollStep
    split
    · rfl
    · split <;> simp
  unfold State.chooseNext
  split
  · simp
  · split
    · rfl
    · split
      · split <;> simp [poll]
      · exact poll

@[simp] theorem sendPoll_links (s : State) : s.sendPoll.links = s.links := by
  unfold State.sendPoll
  split <;> rfl

@[simp] theorem sendChosenGrant_links (s : State) : s.sendChosenGrant.links = s.links := by
  have grant (n : Nat) (target : Int) : (s.sendGrant n target).links = s.links :=
    updBerth_links n (f := fun b => { b with grantDue := false }) (fun _ => rfl) _
  unfold State.sendChosenGrant
  split
  · split
    · split <;> simp [grant]
    · rfl
  · rfl
  · rfl
  · rfl

@[simp] theorem endPreamble_links (s : State) : s.endPreamble.links = s.links := by
  unfold State.endPreamble
  split
  · split <;> simp
  · rfl
  · rfl

/-! ## The grid line monitor -/

@[simp] theorem releaseTrip_links (s : State) : s.releaseTrip.links = s.links := by
  unfold State.releaseTrip
  dsimp only
  split <;> rfl

@[simp] theorem ackTrip_links (s : State) : s.ackTrip.links = s.links := by
  unfold State.ackTrip
  split
  · split <;> rfl
  · rfl

@[simp] theorem tripModeTaken_links (s : State) : s.tripModeTaken.links = s.links := by
  unfold State.tripModeTaken
  split <;> rfl

@[simp] theorem latchStop_links (s : State) : s.latchStop.links = s.links := by
  unfold State.latchStop
  dsimp only
  split <;> simp

@[simp] theorem unlatchStop_links (s : State) : s.unlatchStop.links = s.links := by simp [State.unlatchStop]

@[simp] theorem assertStop_links (s : State) : s.assertStop.links = s.links := by simp [State.assertStop]

@[simp] theorem allStop_links (s : State) : s.allStop.links = s.links := by simp [State.allStop]

@[simp] theorem releaseStop_links (s : State) : s.releaseStop.links = s.links := by
  unfold State.releaseStop
  dsimp only
  split <;> simp

@[simp] theorem clearStop_links (s : State) : s.clearStop.links = s.links := by
  unfold State.clearStop
  split
  · split <;> simp
  · rfl

@[simp] theorem sampleTrip_links (level : Level) (s : State) : (s.sampleTrip level).links = s.links := by
  unfold State.sampleTrip
  split
  · rfl
  · split
    · rfl
    · split <;> simp

@[simp] theorem sampleStop_links (level : Level) (s : State) : (s.sampleStop level).links = s.links := by
  unfold State.sampleStop
  split
  · rfl
  · split
    · rfl
    · split <;> simp

@[simp] theorem takeVoltage_links (voltage : Nat) (s : State) : (s.takeVoltage voltage).links = s.links := by
  unfold State.takeVoltage
  dsimp only
  split
  · split <;> simp [State.beginSag]
  · split <;> simp

/-! ## Replies -/

@[simp] theorem storeOutput_links (n : Nat) (present : Half) (s : State) : (s.storeOutput n present).links = s.links :=
  updBerth_links n (f := fun b => { b with reported := correctedOutput present.toInt b.correction, missCount := 0 })
    (fun _ => rfl) s

@[simp] theorem takePackData_links (n : Nat) (pack : Option PackData) (s : State) :
    (s.takePackData n pack).links = s.links := by
  unfold State.takePackData
  split
  · split
    · exact updBus_links _ (f := Bus.takePack _) (fun _ => rfl) s
    · rfl
  · rfl

@[simp] theorem staleOccupant_links (n : Nat) (s : State) : (s.staleOccupant n).links = s.links := by
  unfold State.staleOccupant
  split
  · exact updBus_links _ (f := Bus.goStale) (fun _ => rfl) s
  · rfl

@[simp] theorem meterMissed_links (s : State) : s.meterMissed.links = s.links := by
  unfold State.meterMissed
  dsimp only
  split <;> simp

@[simp] theorem takeMeter_links (body : MeterBody) (s : State) : (s.takeMeter body).links = s.links :=
  (meterToRun_links _ _ _).trans (takeVoltage_links _ _)

@[simp] theorem berthPollEnded_links (n : Nat) (s : State) : (s.berthPollEnded n).links = s.links := by
  have retry (b : Berth) : b.endRetry.link = b.link := by
    unfold Berth.endRetry
    split <;> rfl
  simp [State.berthPollEnded, retry]

@[simp] theorem exchangeVoid_links (e : Exchange) (s : State) : (s.exchangeVoid e).links = s.links := by
  unfold State.exchangeVoid
  split <;> simp

/-! ## The allocation pass -/

@[simp] theorem allocate_links (s : State) : s.allocate.links = s.links := by
  have cleared : s.zeroOthers.links = s.links :=
    mapBerths_links (f := fun b => if b.isClaimant then b else b.setTarget (s.grantInFlight b.number) 0 0)
      (fun b => by split <;> rfl) rfl rfl rfl
  have decided (exporters : List (Nat × Nat)) (shares : List Share) (u : State) :
      (u.decideAtOnce exporters shares).links = u.links :=
    mapBerths_links (f := u.decideBerth exporters shares) (fun b => by unfold State.decideBerth; split <;> rfl) rfl rfl rfl
  have imported (u : State) (n : Nat) : (u.raiseImport n).links = u.links := by
    unfold State.raiseImport
    split
    · split <;> simp
    · rfl
  have exported (u : State) (n : Nat) : (u.raiseExport n).links = u.links := by
    unfold State.raiseExport
    split
    · split <;> simp
    · rfl
  unfold State.allocate
  dsimp only
  rw [foldl_links exported, foldl_links imported, decided, cleared]

/-! ## The profile -/

@[simp] theorem profileAmended_links (pairs : List Pair) (s : State) : (s.profileAmended pairs).links = s.links := by
  have carried {effect : State → State} (he : ∀ u, (effect u).links = u.links) (idents : List Nat) (u : State) :
      (u.onCarried pairs idents effect).links = u.links := by
    unfold State.onCarried
    split
    · exact he u
    · rfl
  unfold State.profileAmended
  rw [carried requestPass_links, carried (effect := State.intervalTaken) fun _ => rfl, carried tripModeTaken_links,
    carried (effect := State.feederLimitTaken) fun _ => rfl]
  rfl

end Sys2Proof.Machine
end

section
/-! PROOFS. A bus unplugged (R7, R32, R110), and a berth given a new occupant (R6, R32 to R34): what the buses, the berths and the
tickets are afterwards, said once for every row of the plug table. -/

namespace Sys2Proof.Machine

/-! ## A detachment (R7, R110) -/

/-- R110: the ticket that the detachment of bus `k` releases. -/
def State.leavingTicket (s : State) (k : Nat) : Option Ticket :=
  match (s.bus? k).bind s.ticketOf, s.now with
  | some x, some now => if x.isAssigned ∧ minutesFrom now x.departure ≤ s.profile.releaseWindow then some x else none
  | _, _ => none

/-- R110: a ticket after the detachment of the bus `lost`, or of none. -/
def State.ticketReleased (s : State) (lost : Option Nat) (x : Ticket) : Ticket :=
  if s.releasedBy lost x then
    { x.leave .released with
      readyAtRelease := some (((x.bus.bind s.bus?).bind Bus.held).any fun held => decide (x.need ≤ held)) }
  else x

theorem readyNow_eq (s : State) (x : Ticket) :
    s.readyNow x = ((x.bus.bind s.bus?).bind Bus.held).any fun held => decide (x.need ≤ held) := by
  unfold State.readyNow
  cases (x.bus.bind s.bus?).bind Bus.held <;> rfl

theorem ticketDetached_eq (k : Nat) (s : State) :
    s.ticketDetached k = (s.leavingTicket k).elim s fun x => s.releaseTicket x := by
  unfold State.ticketDetached State.leavingTicket
  cases (s.bus? k).bind s.ticketOf with
  | none => rfl
  | some x =>
    cases s.now with
    | none => rfl
    | some now =>
      dsimp only
      split <;> rfl

/-- Detachment keeps what the ticket table reads of the buses. -/
theorem leavingTicket_detach (k : Nat) (s : State) : (s.updBus k Bus.detach).leavingTicket k = s.leavingTicket k := by
  have hbus : ((s.updBus k Bus.detach).bus? k).bind (s.updBus k Bus.detach).ticketOf = (s.bus? k).bind s.ticketOf := by
    unfold State.bus?
    rw [updBus_buses, findKey_updateKey k k _ detach_fleet]
    cases h : findKey Bus.fleet k s.buses with
    | none => rfl
    | some x =>
      simp only [Option.map_some, Option.bind_some]
      split <;> rfl
  unfold State.leavingTicket
  rw [hbus]
  rfl

theorem readyNow_detach (k : Nat) (x : Ticket) (s : State) : (s.updBus k Bus.detach).readyNow x = s.readyNow x := by
  have hheld : (x.bus.bind (s.updBus k Bus.detach).bus?).bind Bus.held = (x.bus.bind s.bus?).bind Bus.held := by
    cases x.bus with
    | none => rfl
    | some j =>
      show ((s.updBus k Bus.detach).bus? j).bind Bus.held = (s.bus? j).bind Bus.held
      unfold State.bus?
      rw [updBus_buses, findKey_updateKey k j _ detach_fleet]
      cases findKey Bus.fleet j s.buses with
      | none => rfl
      | some y =>
        simp only [Option.map_some, Option.bind_some]
        split <;> rfl
  rw [readyNow_eq, readyNow_eq, hheld]

/-- R7, R110: a detachment, in any state of the records. -/
theorem detachBus_eq (k : Nat) (s : State) :
    s.detachBus k =
      { s with
        buses := s.buses.map fun x =>
          { (if x.fleet = k then x.detach else x) with
            ticket := if (s.leavingTicket k).any fun y => y.bus == some x.fleet then none else x.ticket }
        tickets := s.tickets.map fun x =>
          (s.leavingTicket k).elim x fun y =>
            if x.id = y.id then { x.leave .released with readyAtRelease := some (s.readyNow y) } else x } := by
  unfold State.detachBus
  rw [ticketDetached_eq, leavingTicket_detach]
  cases s.leavingTicket k with
  | none =>
    unfold State.updBus
    rw [updateKey_eq_map]
    simp only [Option.elim_none, Option.any_none, Bool.false_eq_true, if_false, List.map_id']
    congr 1
    refine List.map_congr_left fun x _ => ?_
    split <;> rfl
  | some y =>
    simp only [Option.elim_some, Option.any_some, State.releaseTicket, unlinkBus_eq, readyNow_detach]
    unfold State.updBus State.updTicket
    rw [updateKey_eq_map, updateKey_eq_map, List.map_map]
    congr 1
    refine List.map_congr_left fun x _ => ?_
    simp only [Function.comp, beq_iff_eq]
    have hfleet : (if x.fleet = k then x.detach else x).fleet = x.fleet := by split <;> rfl
    rw [hfleet]
    split
    · rfl
    · split <;> rfl

theorem releasedBy_some_iff (s : State) (k : Nat) (x : Ticket) :
    s.releasedBy (some k) x = true ↔
      x.state = .assigned ∧ x.bus = some k
        ∧ ∃ now, s.now = some now ∧ minutesFrom now x.departure ≤ s.profile.releaseWindow := by
  simp [State.releasedBy, Option.any_eq_true, and_assoc]

/-- A release reads the clock and the profile alone. -/
theorem releasedBy_congr {s t : State} (hc : t.clock = s.clock) (hp : t.profile = s.profile) : t.releasedBy = s.releasedBy := by
  funext lost x
  unfold State.releasedBy State.now
  rw [hc, hp]

theorem busUnplugged_congr {s t : State} (hx : t.tickets = s.tickets) (hc : t.clock = s.clock) (hp : t.profile = s.profile) :
    t.busUnplugged = s.busUnplugged := by
  funext x
  unfold State.busUnplugged
  rw [hx, releasedBy_congr hc hp]

theorem ticketReleased_congr {s t : State} (hb : t.buses = s.buses) (hc : t.clock = s.clock) (hp : t.profile = s.profile) :
    t.ticketReleased = s.ticketReleased := by
  have hbus : t.bus? = s.bus? := funext fun k => by unfold State.bus?; rw [hb]
  funext lost x
  unfold State.ticketReleased
  rw [releasedBy_congr hc hp, hbus]

section
variable {s : State} (ht : s.tablesOk = true) (hl : TicketsLinked s)
include ht hl

theorem leavingTicket_eq_some_iff (k : Nat) (x : Ticket) :
    s.leavingTicket k = some x ↔ x ∈ s.tickets ∧ s.releasedBy (some k) x = true := by
  have held : (s.bus? k).bind s.ticketOf = some x ↔ x ∈ s.tickets ∧ x.bus = some k := by
    have hbind : (s.bus? k).bind s.ticketOf = (s.ticketHeld k).bind s.ticket? := by
      unfold State.ticketHeld
      rw [Option.bind_assoc]
      rfl
    rw [hbind, Option.bind_eq_some_iff]
    constructor
    · rintro ⟨id, hid, hx⟩
      obtain rfl := id_of_ticket? hx
      exact ⟨mem_of_ticket? hx, (holderOf_id ht (mem_of_ticket? hx)).symm.trans ((hl.ticket _ k).2 hid)⟩
    · rintro ⟨hx, hk⟩
      exact ⟨x.id, (hl.ticket _ k).1 ((holderOf_id ht hx).trans hk), ticket?_of_mem ht hx⟩
  rw [releasedBy_some_iff]
  unfold State.leavingTicket
  cases hy : (s.bus? k).bind s.ticketOf with
  | none =>
    simp only [reduceCtorEq, false_iff]
    rintro ⟨hx, -, hk, -⟩
    rw [held.2 ⟨hx, hk⟩] at hy
    cases hy
  | some y =>
    cases hn : s.now with
    | none => simp
    | some now =>
      dsimp only
      constructor
      · intro h
        split at h
        · rename_i hrel
          cases h
          obtain ⟨hx, hk⟩ := held.1 hy
          exact ⟨hx, by simpa [Ticket.isAssigned] using hrel.1, hk, now, rfl, hrel.2⟩
        · cases h
      · rintro ⟨hx, hassigned, hk, _, hnow, hwindow⟩
        cases hnow
        obtain rfl : x = y := Option.some.inj ((held.2 ⟨hx, hk⟩).symm.trans hy)
        rw [if_pos ⟨by simp [Ticket.isAssigned, hassigned], hwindow⟩]

/-- R7, R110: a detachment, where tickets and buses name each other. -/
theorem detachBus_linked (k : Nat) :
    s.detachBus k =
      { s with
        buses := s.buses.map fun x => if x.fleet = k then s.busUnplugged x else x
        tickets := s.tickets.map (s.ticketReleased (some k)) } := by
  have hany : (s.tickets.any (s.releasedBy (some k))) = (s.leavingTicket k).isSome := by
    rw [Bool.eq_iff_iff, List.any_eq_true, Option.isSome_iff_exists]
    exact exists_congr fun x => (leavingTicket_eq_some_iff ht hl k x).symm
  rw [detachBus_eq]
  congr 1
  · refine List.map_congr_left fun x _ => ?_
    have hleaves : ((s.leavingTicket k).any fun y => y.bus == some x.fleet) =
        (decide (x.fleet = k) && (s.leavingTicket k).isSome) := by
      cases hy : s.leavingTicket k with
      | none => simp
      | some y =>
        obtain ⟨-, hrel⟩ := (leavingTicket_eq_some_iff ht hl k y).1 hy
        obtain ⟨-, hk, -⟩ := (releasedBy_some_iff s k y).1 hrel
        rw [Option.any_some, hk, Bool.eq_iff_iff, beq_iff_eq, Option.some_inj, @eq_comm _ k]
        simp
    rw [hleaves]
    by_cases hx : x.fleet = k
    · subst hx
      simp only [State.busUnplugged, hany, if_true, decide_true, Bool.true_and]
      rfl
    · simp [hx]
  · refine List.map_congr_left fun x hx => ?_
    unfold State.ticketReleased
    cases hy : s.leavingTicket k with
    | none =>
      have hrel : ¬ s.releasedBy (some k) x = true := fun h => by
        rw [(leavingTicket_eq_some_iff ht hl k x).2 ⟨hx, h⟩] at hy
        cases hy
      rw [if_neg hrel]
      rfl
    | some y =>
      obtain ⟨hmem, hrel⟩ := (leavingTicket_eq_some_iff ht hl k y).1 hy
      by_cases hid : x.id = y.id
      · obtain rfl := ticket_eq_of_id ht hmem hx hid
        rw [if_pos hrel, Option.elim_some, if_pos rfl, readyNow_eq]
      · have hnot : ¬ s.releasedBy (some k) x = true := fun h => by
          rw [(leavingTicket_eq_some_iff ht hl k x).2 ⟨hx, h⟩] at hy
          cases hy
          exact hid rfl
        rw [if_neg hnot]
        simp [hid]

end

/-! ## A berth given a new occupant (R6, R32 to R34) -/

/-- The bus that leaves berth `b` when it becomes `b'`. -/
def Berth.lostTo (b b' : Berth) : Option Nat := if b'.busOccupant = b.busOccupant then none else b.busOccupant

/-- R34: a berth once the berth of its number is `b'`, which takes its bus from any other. -/
def Berth.besides (b' r : Berth) : Berth :=
  if r.number = b'.number then b'
  else if r.busOccupant.isSome = true ∧ r.busOccupant = b'.busOccupant then { r with occupant := none }
  else r

/-- R6, R7, R32 to R34: a bus once berth `b` has become `b'`. -/
def State.busReplugged (s : State) (b b' : Berth) (x : Bus) : Bus :=
  if b'.busOccupant = some x.fleet ∧ x.berth ≠ some b'.number then x.attach b'.number
  else if b.busOccupant = some x.fleet ∧ b'.busOccupant ≠ some x.fleet then s.busUnplugged x
  else x

/-- The records once berth `b` has become `b'`: the bus that it gains is attached, the bus that it loses is detached. -/
def State.replug (b b' : Berth) (s : State) : State :=
  { s with
    berths := s.berths.map b'.besides
    buses := s.buses.map (s.busReplugged b b')
    tickets := s.tickets.map (s.ticketReleased (b.lostTo b')) }

@[simp] theorem busOccupant_unoccupied (b : Berth) : ({ b with occupant := none } : Berth).busOccupant = none := by
  unfold Berth.busOccupant
  split <;> rfl

@[simp] theorem busReplugged_fleet (s : State) (b b' : Berth) (x : Bus) : (s.busReplugged b b' x).fleet = x.fleet := by
  unfold State.busReplugged
  split
  · rfl
  · split <;> rfl

@[simp] theorem besides_number (b r : Berth) : (b.besides r).number = r.number := by
  unfold Berth.besides
  split
  · rename_i h
    exact h.symm
  · split <;> rfl

@[simp] theorem ticketReleased_id (s : State) (lost : Option Nat) (x : Ticket) : (s.ticketReleased lost x).id = x.id := by
  unfold State.ticketReleased
  split <;> rfl

@[simp] theorem ticketReleased_none (s : State) (x : Ticket) : s.ticketReleased none x = x := by
  simp [State.ticketReleased]

theorem replug_keys (b b' : Berth) (s : State) : (s.replug b b').keys = s.keys := by
  unfold State.replug
  rw [keys_mk, map_key_map (busReplugged_fleet s b b'), map_key_map (besides_number b'), map_key_map (ticketReleased_id s _),
    keys_fold]

/-- A further change of the berth alone. -/
theorem updBerth_replug {b b' : Berth} {g : Berth → Berth} (hn : (g b').number = b'.number)
    (ho : (g b').busOccupant = b'.busOccupant) (s : State) :
    (s.replug b b').updBerth b'.number g = s.replug b (g b') := by
  unfold State.replug State.updBerth
  rw [updateKey_eq_map, List.map_map]
  congr 1
  · exact List.map_congr_left fun x _ => by simp only [State.busReplugged, hn, ho]
  · refine List.map_congr_left fun r _ => ?_
    simp only [Function.comp, besides_number]
    unfold Berth.besides
    rw [hn, ho]
    split <;> rfl
  · simp only [Berth.lostTo, ho]

/-- A change of the berth alone beforehand. -/
theorem replug_updBerth {b b₀ b' : Berth} (h₀ : b₀.number = b.number) (hn : b'.number = b.number)
    (ho : b₀.busOccupant = b.busOccupant) (s : State) :
    (s.updBerth b.number fun _ => b₀).replug b₀ b' = s.replug b b' := by
  unfold State.replug State.updBerth
  rw [updateKey_eq_map, List.map_map]
  congr 1
  · exact List.map_congr_left fun x _ => by simp only [State.busReplugged, ho]; rfl
  · refine List.map_congr_left fun r _ => ?_
    simp only [Function.comp]
    split
    · rename_i hr
      simp [Berth.besides, h₀, hn, hr]
    · rfl
  · simp only [Berth.lostTo, ho]
    rfl

section
variable {s : State} {b b' : Berth} (ht : s.tablesOk = true) (hb : b ∈ s.berths) (hn : b'.number = b.number)
include ht hb

/-- A change of one berth changes that berth. -/
theorem updBerth_const (f : Berth → Berth) : s.updBerth b.number f = s.updBerth b.number fun _ => f b := by
  unfold State.updBerth
  rw [updateKey_eq_map, updateKey_eq_map]
  congr 1
  refine List.map_congr_left fun r hr => ?_
  split
  · rename_i h
    rw [berth_eq_of_number ht hb hr h]
  · rfl

include hn

/-- A berth that keeps its bus, or has none, changes alone. -/
theorem replug_of_same (hl : PlacesLinked s) (ho : b'.busOccupant = b.busOccupant) :
    s.replug b b' = s.updBerth b.number fun _ => b' := by
  unfold State.replug State.updBerth
  rw [updateKey_eq_map]
  congr 1
  · refine (List.map_congr_left fun x hx => ?_).trans (List.map_id' _)
    unfold State.busReplugged
    rw [ho, hn]
    split
    · rename_i h
      have hplace := (hl.place b.number x.fleet).1 ((occupantAt_number ht hb).trans h.1)
      exact absurd ((placeOf_fleet ht hx).symm.trans hplace) h.2
    · exact if_neg fun h => h.2 h.1
  · refine List.map_congr_left fun r hr => ?_
    unfold Berth.besides
    rw [hn, ho]
    split
    · rfl
    · rename_i hne
      refine if_neg fun ⟨hsome, heq⟩ => hne ?_
      obtain ⟨k, hk⟩ := Option.isSome_iff_exists.1 hsome
      have hr' := (hl.place r.number k).1 ((occupantAt_number ht hr).trans hk)
      have hb' := (hl.place b.number k).1 ((occupantAt_number ht hb).trans (heq.symm.trans hk))
      exact Option.some.inj (hr'.symm.trans hb')
  · rw [Berth.lostTo, if_pos ho]
    exact (List.map_congr_left fun x _ => ticketReleased_none s x).trans (List.map_id' _)

end

end Sys2Proof.Machine
end

section
/-! PROOFS. The rows of the plug table (R31 to R36, R39): the berth that a valid STATUS leaves, row by row, and with it all the
records and the raises. -/

namespace Sys2Proof.Machine

/-! ## One berth changed -/

theorem updBerth_const_keys {n : Nat} {b' : Berth} (hn : b'.number = n) (s : State) :
    (s.updBerth n fun _ => b').keys = s.keys := by
  refine mapBerths_keys (f := fun r => if r.number == n then b' else r) (fun r => ?_) rfl rfl rfl rfl
  split
  · rename_i h
    rw [hn, eq_of_beq h]
  · rfl

/-- A berth of the table changed without a change of its link. -/
theorem updBerth_const_links {s : State} {b b' : Berth} (ht : s.tablesOk = true) (hb : b ∈ s.berths) (hl : b'.link = b.link) :
    (s.updBerth b.number fun _ => b').links = s.links := by
  simp only [State.links, updBerth_buses, updBerth_berths, updBerth_tickets, updateKey_eq_map, List.map_map, Prod.mk.injEq,
    true_and, and_true]
  refine List.map_congr_left fun r hr => ?_
  simp only [Function.comp]
  split
  · rename_i h
    rw [hl, berth_eq_of_number ht hb hr h]
  · rfl

/-- A berth that the table holds, changed. -/
theorem berth?_updBerth_const {s : State} {n : Nat} {b b' : Berth} (hb : s.berth? n = some b) (hn : b'.number = n) :
    (s.updBerth n fun _ => b').berth? n = some b' := by
  have hfind : (s.updBerth n fun _ => b').berth? n = (s.berth? n).map fun r => if r.number == n then b' else r :=
    findKey_map n _ (fun r => by
      split
      · rename_i h
        rw [hn, eq_of_beq h]
      · rfl) s.berths
  rw [hfind, hb, Option.map_some, if_pos (beq_iff_eq.2 (number_of_berth? hb))]

/-- One change after another of the same berth. -/
theorem updBerth_updBerth {n : Nat} {f : Berth → Berth} (hf : ∀ b, (f b).number = b.number) (g : Berth → Berth) (s : State) :
    (s.updBerth n f).updBerth n g = s.updBerth n (g ∘ f) := by
  unfold State.updBerth
  rw [updateKey_eq_map, updateKey_eq_map, updateKey_eq_map, List.map_map]
  congr 1
  refine List.map_congr_left fun r _ => ?_
  simp only [Function.comp]
  by_cases h : r.number = n
  · rw [if_pos h, if_pos ((hf r).trans h), if_pos h]
  · rw [if_neg h, if_neg h, if_neg h]

/-! ## Lookups after a berth has been given a new occupant -/

section
variable {s : State} {b b' : Berth}

theorem bus?_replug (k : Nat) : (s.replug b b').bus? k = (s.bus? k).map (s.busReplugged b b') :=
  findKey_map k _ (busReplugged_fleet s b b') s.buses

theorem berth?_replug (m : Nat) : (s.replug b b').berth? m = (s.berth? m).map b'.besides :=
  findKey_map m _ (besides_number b') s.berths

theorem berth?_replug_self (hb : s.berth? b'.number = some b) : (s.replug b b').berth? b'.number = some b' := by
  rw [berth?_replug, hb, Option.map_some, Berth.besides, if_pos (number_of_berth? hb)]

/-- A berth that is left without a bus takes none from another. -/
theorem besides_of_none (ho : b'.busOccupant = none) {r : Berth} (hr : r.number ≠ b'.number) : b'.besides r = r := by
  unfold Berth.besides
  rw [if_neg hr, ho]
  exact if_neg fun ⟨hsome, hnone⟩ => by simp [hnone] at hsome

theorem busReplugged_of_none (ho : b'.busOccupant = none) {x : Bus} (hx : b.busOccupant ≠ some x.fleet) :
    s.busReplugged b b' x = x := by
  unfold State.busReplugged
  rw [ho]
  simp [hx]

end

/-! ## The operations of the berth table as one change of a berth -/

/-- A berth whose occupant has left. -/
def Berth.unoccupied (b : Berth) : Berth := { b with occupant := none }

@[simp] theorem unoccupied_number (b : Berth) : b.unoccupied.number = b.number := rfl
@[simp] theorem unoccupied_busOccupant (b : Berth) : b.unoccupied.busOccupant = none := busOccupant_unoccupied b

/-- R33: a berth whose previous bus occupant, if any, has left, with both its targets 0. -/
def Berth.vacated (inFlight : Bool) (b : Berth) : Berth :=
  if b.busOccupant.isSome then b.unoccupied.setTarget inFlight 0 0 else b

/-- R35: a berth that holds a raw vehicle id. -/
def Berth.holdVehicle (vehicle : Nat) (reason : ForeignReason) (b : Berth) : Berth :=
  { b.settle .foreign (some vehicle) with foreignReason := some reason }

/-- R35: a berth that comes to hold a raw vehicle id; an entry with a negative decided target sets both targets to 0. -/
def Berth.foreignTo (inFlight : Bool) (vehicle : Nat) (reason : ForeignReason) (b : Berth) : Berth :=
  if b.state ≠ .foreign ∧ b.decided < 0 then (b.holdVehicle vehicle reason).setTarget inFlight 0 0
  else b.holdVehicle vehicle reason

/-- R36 to R39: a berth that becomes FAULTED. -/
def Berth.faultedBy (inFlight : Bool) (cause : FaultCause) (code : Option Nat) (b : Berth) : Berth :=
  ({ b with
    state := .faulted, occupant := b.busOccupant, foreignReason := none, faultCause := some cause
    dispenserCode := code } : Berth).setTarget inFlight 0 0

/-- R36: a FAULTED berth after the faulted plug check. -/
def Berth.plugChecked (body : StatusBody) (b : Berth) : Berth :=
  if connected body ∧ b.busOccupant = some (vehicleId body) then b else b.unoccupied

@[simp] theorem vacated_number (f : Bool) (b : Berth) : (b.vacated f).number = b.number := by
  unfold Berth.vacated
  split <;> rfl

@[simp] theorem vacated_busOccupant (f : Bool) (b : Berth) : (b.vacated f).busOccupant = none := by
  unfold Berth.vacated
  cases h : b.busOccupant with
  | none => simpa using h
  | some k => simp

@[simp] theorem vacated_state (f : Bool) (b : Berth) : (b.vacated f).state = b.state := by
  unfold Berth.vacated
  split <;> rfl

@[simp] theorem vacated_foreignReason (f : Bool) (b : Berth) : (b.vacated f).foreignReason = b.foreignReason := by
  unfold Berth.vacated
  split <;> rfl

@[simp] theorem foreignTo_number (f : Bool) (v : Nat) (reason : ForeignReason) (b : Berth) :
    (b.foreignTo f v reason).number = b.number := by
  unfold Berth.foreignTo
  split <;> rfl

@[simp] theorem foreignTo_state (f : Bool) (v : Nat) (reason : ForeignReason) (b : Berth) :
    (b.foreignTo f v reason).state = .foreign := by
  unfold Berth.foreignTo
  split <;> rfl

@[simp] theorem foreignTo_occupant (f : Bool) (v : Nat) (reason : ForeignReason) (b : Berth) :
    (b.foreignTo f v reason).occupant = some v := by
  unfold Berth.foreignTo
  split <;> rfl

@[simp] theorem foreignTo_foreignReason (f : Bool) (v : Nat) (reason : ForeignReason) (b : Berth) :
    (b.foreignTo f v reason).foreignReason = some reason := by
  unfold Berth.foreignTo
  split <;> rfl

@[simp] theorem foreignTo_busOccupant (f : Bool) (v : Nat) (reason : ForeignReason) (b : Berth) :
    (b.foreignTo f v reason).busOccupant = none := by simp [Berth.busOccupant]

@[simp] theorem faultedBy_number (f : Bool) (cause : FaultCause) (code : Option Nat) (b : Berth) :
    (b.faultedBy f cause code).number = b.number := rfl

@[simp] theorem faultedBy_state (f : Bool) (cause : FaultCause) (code : Option Nat) (b : Berth) :
    (b.faultedBy f cause code).state = .faulted := rfl

@[simp] theorem faultedBy_busOccupant (f : Bool) (cause : FaultCause) (code : Option Nat) (b : Berth) :
    (b.faultedBy f cause code).busOccupant = b.busOccupant := rfl

@[simp] theorem plugChecked_number (body : StatusBody) (b : Berth) : (b.plugChecked body).number = b.number := by
  unfold Berth.plugChecked
  split <;> rfl

@[simp] theorem plugChecked_state (body : StatusBody) (b : Berth) : (b.plugChecked body).state = b.state := by
  unfold Berth.plugChecked
  split <;> rfl

/-- The targets of a berth set after a change of it. -/
theorem setTarget_updBerth {n : Nat} {f : Berth → Berth} (hf : ∀ b, (f b).number = b.number) (w d : Int) (s : State) :
    (s.updBerth n f).setTarget n w d = s.updBerth n fun b => (f b).setTarget (s.grantInFlight n) w d :=
  updBerth_updBerth hf _ s

/-- The state with another attention unit. -/
def State.withAttention (a : Attention) (s : State) : State := { s with attention := a }

section
variable {s : State} {n : Nat} {b : Berth}

/-- R32: a bus occupant leaves its berth. -/
theorem detachOccupant_eq (ht : s.tablesOk = true) (hl : TicketsLinked s) (hb : s.berth? n = some b) {k : Nat}
    (hk : b.busOccupant = some k) : s.detachOccupant n = s.replug b b.unoccupied := by
  obtain rfl := number_of_berth? hb
  have hdetach : s.detachOccupant b.number = (s.updBerth b.number Berth.unoccupied).detachBus k := by
    unfold State.detachOccupant
    rw [hb, Option.bind_some, hk]
    rfl
  have hkeys : (s.updBerth b.number Berth.unoccupied).keys = s.keys := updBerth_keys b.number unoccupied_number s
  have hlinked : TicketsLinked (s.updBerth b.number Berth.unoccupied) := hl.of_views rfl rfl
  rw [hdetach, detachBus_linked ((tablesOk_of_keys hkeys).trans ht) hlinked k, updBerth_const ht (mem_of_berth? hb),
    busUnplugged_congr (s := s) (updBerth_tickets ..) (updBerth_clock ..) (updBerth_profile ..),
    ticketReleased_congr (s := s) (updBerth_buses ..) (updBerth_clock ..) (updBerth_profile ..)]
  unfold State.replug State.updBerth
  rw [updateKey_eq_map]
  congr 1
  · refine List.map_congr_left fun x _ => ?_
    unfold State.busReplugged
    rw [unoccupied_busOccupant, hk]
    by_cases hx : x.fleet = k
    · simp [hx]
    · have hx' : ¬ k = x.fleet := fun e => hx e.symm
      simp [hx, hx']
  · refine List.map_congr_left fun r _ => ?_
    by_cases hr : r.number = b.number
    · rw [if_pos hr, Berth.besides, if_pos (show r.number = b.unoccupied.number from hr)]
    · rw [if_neg hr, besides_of_none (unoccupied_busOccupant b) hr]
  · rw [Berth.lostTo, unoccupied_busOccupant, hk, if_neg (by simp)]

theorem detachOccupant_of_none (hb : s.berth? n = some b) (hk : b.busOccupant = none) : s.detachOccupant n = s := by
  unfold State.detachOccupant
  rw [hb, Option.bind_some, hk]

/-- The place of a bus, by its record. -/
theorem placeOf_of_bus? {k : Nat} {x : Bus} (hx : s.bus? k = some x) : s.placeOf k = x.berth := by
  rw [State.placeOf, hx, Option.bind_some]

/-- What a bus shows once another is attached at the berth that has lost its own. -/
theorem busReplugged_settle {b' : Berth} (ht : s.tablesOk = true) (hn : b'.number = b.number) (ho : b'.busOccupant = none)
    {k : Nat} (hk : s.placeOf k ≠ some b.number) (hkb : b.busOccupant ≠ some k) {x : Bus} (hx : x ∈ s.buses) :
    s.busReplugged b (b'.settle .occupied (some k)) x =
      if x.fleet = k then x.attach b.number else s.busReplugged b b' x := by
  have hocc : (b'.settle .occupied (some k)).busOccupant = some k := rfl
  unfold State.busReplugged
  rw [hocc, settle_number, hn, ho]
  by_cases h : x.fleet = k
  · subst h
    rw [placeOf_fleet ht hx] at hk
    simp [hk]
  · have h' : ¬ k = x.fleet := fun e => h e.symm
    simp [h, h']

theorem lostTo_settle {b' : Berth} (ho : b'.busOccupant = none) {k : Nat} (hkb : b.busOccupant ≠ some k) :
    b.lostTo (b'.settle .occupied (some k)) = b.lostTo b' := by
  have hocc : (b'.settle .occupied (some k)).busOccupant = some k := rfl
  unfold Berth.lostTo
  rw [hocc, ho, if_neg (Ne.symm hkb)]
  split
  · rename_i h
    exact h.symm
  · rfl

section
variable {b' : Berth} (ht : s.tablesOk = true) (hl : PlacesLinked s) (hb : b ∈ s.berths) {k : Nat} {x : Bus}
  (hx : s.bus? k = some x)
include ht hl hb hx

/-- A bus at another berth is not the occupant of this one. -/
theorem busOccupant_ne_of_place (hp : x.berth ≠ some b.number) : b.busOccupant ≠ some k := fun h =>
  hp ((placeOf_of_bus? hx).symm.trans ((hl.place b.number k).1 ((occupantAt_number ht hb).trans h)))

variable (hn : b'.number = b.number) (ho : b'.busOccupant = none)
include hn ho

/-- R6, R33: a bus that is AWAY is attached at the berth that has lost its own. -/
theorem attachBus_replug (hp : x.berth = none) :
    (s.replug b b').attachBus b.number k = s.replug b (b'.settle .occupied (some k)) := by
  have hplace : s.placeOf k = none := (placeOf_of_bus? hx).trans hp
  have hkb : b.busOccupant ≠ some k := busOccupant_ne_of_place ht hl hb hx (by simp [hp])
  unfold State.attachBus State.replug State.updBus State.updBerth
  rw [updateKey_eq_map, updateKey_eq_map, List.map_map, List.map_map]
  congr 1
  · refine List.map_congr_left fun y hy => ?_
    rw [busReplugged_settle ht hn ho (by simp [hplace]) hkb hy]
    simp only [Function.comp, busReplugged_fleet]
    split
    · rename_i h
      rw [busReplugged_of_none ho (by rwa [h])]
    · rfl
  · refine List.map_congr_left fun r hr => ?_
    simp only [Function.comp, besides_number]
    by_cases hrn : r.number = b.number
    · simp [Berth.besides, hrn, hn]
    · have hrk : r.busOccupant ≠ some k := fun h => by
        rw [(hl.place r.number k).1 ((occupantAt_number ht hr).trans h)] at hplace
        cases hplace
      rw [if_neg hrn, besides_of_none ho (by rwa [hn]), Berth.besides, settle_number, hn, if_neg hrn]
      exact (if_neg fun h => hrk h.2).symm
  · rw [lostTo_settle ho hkb]

/-- R34: a bus is moved from another berth to the berth that has lost its own. -/
theorem moveBus_replug {m : Nat} (hp : x.berth = some m) (hm : m ≠ b.number) :
    (s.replug b b').moveBus m b.number k = s.replug b (b'.settle .occupied (some k)) := by
  have hplace : s.placeOf k = some m := (placeOf_of_bus? hx).trans hp
  have hkb : b.busOccupant ≠ some k := busOccupant_ne_of_place ht hl hb hx (by simpa [hp] using hm)
  unfold State.moveBus State.attachBus State.replug State.updBus State.updBerth
  simp only [updateKey_eq_map, List.map_map]
  congr 1
  · refine List.map_congr_left fun y hy => ?_
    rw [busReplugged_settle ht hn ho (by simpa [hplace] using hm) hkb hy]
    simp only [Function.comp, busReplugged_fleet]
    by_cases h : y.fleet = k
    · rw [busReplugged_of_none ho (by rwa [h])]
      simp only [h, if_true, detach_fleet]
      rfl
    · simp only [h, if_false, busReplugged_fleet]
  · refine List.map_congr_left fun r hr => ?_
    simp only [Function.comp, besides_number]
    have hrk : r.busOccupant = some k ↔ r.number = m := by
      rw [← occupantAt_number ht hr, hl.place, hplace, Option.some_inj, eq_comm]
    by_cases hrn : r.number = b.number
    · simp [Berth.besides, hrn, hn, Ne.symm hm]
    · rw [besides_of_none ho (by rwa [hn]), Berth.besides, settle_number, hn, if_neg hrn]
      by_cases hrm : r.number = m
      · simp [hrm, hrk.2 hrm, hm, show (b'.settle .occupied (some k)).busOccupant = some k from rfl]
      · have hne : ¬ (r.busOccupant.isSome = true ∧ r.busOccupant = (b'.settle .occupied (some k)).busOccupant) :=
          fun h => hrm (hrk.1 h.2)
        rw [if_neg hrm, if_neg hrn, if_neg hne]
  · rw [lostTo_settle ho hkb]

end

/-- R35: what a vehicle id that is held raises. -/
def Attention.foreignRaised (raised : Bool) (a : Attention) : Attention :=
  if raised then { a with flags := a.flags ||| causeBit Cause.vehicleForeign.number } else a

/-- R39: what an entry into FAULTED raises. -/
def Attention.faultEntered (entered : Bool) (a : Attention) : Attention :=
  if entered && a.armed then { flags := a.flags ||| causeBit Cause.berthFault.number, armed := false } else a

/-- R35: a berth comes to hold a raw vehicle id. -/
theorem toForeign_eq (ht : s.tablesOk = true) (hb : s.berth? n = some b) (v : Nat) (reason : ForeignReason) :
    s.toForeign n v reason =
      (s.updBerth n fun _ => b.foreignTo (s.grantInFlight n) v reason).withAttention
        (s.attention.foreignRaised (b.state != .foreign || b.foreignReason != some reason)) := by
  obtain rfl := number_of_berth? hb
  have raised (raise : Bool) (u : State) :
      u.raiseIf raise .vehicleForeign = u.withAttention (u.attention.foreignRaised raise) := by cases raise <;> rfl
  have held : s.toForeign b.number v reason =
      (if b.state ≠ .foreign ∧ b.decided < 0 then
        (s.updBerth b.number (Berth.holdVehicle v reason)).setTarget b.number 0 0
      else s.updBerth b.number (Berth.holdVehicle v reason)).raiseIf
        (b.state != .foreign || b.foreignReason != some reason) .vehicleForeign := by
    unfold State.toForeign
    rw [hb]
    rfl
  rw [held, raised, setTarget_updBerth (f := Berth.holdVehicle v reason) fun _ => rfl]
  unfold Berth.foreignTo
  split <;> rw [updBerth_const ht (mem_of_berth? hb)] <;> rfl

/-- R36 to R39: a berth becomes FAULTED. -/
theorem fault_eq (ht : s.tablesOk = true) (hb : s.berth? n = some b) (cause : FaultCause) (code : Option Nat) :
    s.fault n cause code =
      (s.updBerth n fun _ => b.faultedBy (s.grantInFlight n) cause code).withAttention
        (s.attention.faultEntered (b.state != .faulted)) := by
  obtain rfl := number_of_berth? hb
  have entered (e : Bool) (u : State) : u.episode e = u.withAttention (u.attention.faultEntered e) := by
    unfold State.episode Attention.faultEntered
    split <;> rfl
  have faulted : s.fault b.number cause code =
      (s.updBerth b.number (Berth.faultedBy (s.grantInFlight b.number) cause code)).episode (b.state != .faulted) := by
    unfold State.fault
    rw [hb]
    dsimp only
    rw [setTarget_updBerth fun _ => by rfl]
    rfl
  rw [faulted, entered, updBerth_const ht (mem_of_berth? hb)]
  rfl

end

end Sys2Proof.Machine
end

section
/-! PROOFS. The rows of the plug table (R31 to R36): the berth that a STATUS leaves, row by row, and with it all the records and
the raises. -/

namespace Sys2Proof.Machine

/-! ## The rows -/

/-- R33 to R35: what becomes of berth `b` when a vehicle id is plugged in. -/
inductive VehicleRow (s : State) (v : Nat) (b : Berth) : Berth → Prop
  | stayed (hk : b.busOccupant = some v) : VehicleRow s v b (b.settle .occupied (some v))
  | unknown (hk : b.busOccupant ≠ some v) (hx : s.bus? v = none) :
      VehicleRow s v b ((b.vacated (s.grantInFlight b.number)).foreignTo (s.grantInFlight b.number) v .unknown)
  | attached (hk : b.busOccupant ≠ some v) (x : Bus) (hx : s.bus? v = some x) (haway : x.state = .away) (hp : x.berth = none) :
      VehicleRow s v b ((b.vacated (s.grantInFlight b.number)).settle .occupied (some v))
  | moved (hk : b.busOccupant ≠ some v) (x : Bus) (hx : s.bus? v = some x) (hat : x.state = .attached) (m : Nat) (r : Berth)
      (hp : x.berth = some m) (hm : m ≠ b.number) (hr : s.berth? m = some r) (hsilent : r.faultedSilent = true) :
      VehicleRow s v b ((b.vacated (s.grantInFlight b.number)).settle .occupied (some v))
  | duplicate (hk : b.busOccupant ≠ some v) (x : Bus) (hx : s.bus? v = some x) (hat : x.state = .attached) (m : Nat) (r : Berth)
      (hp : x.berth = some m) (hm : m ≠ b.number) (hr : s.berth? m = some r) (hsilent : r.faultedSilent = false) :
      VehicleRow s v b ((b.vacated (s.grantInFlight b.number)).foreignTo (s.grantInFlight b.number) v .duplicate)

/-- R31 to R36: what becomes of berth `b` with a STATUS. -/
inductive PlugRow (s : State) (body : StatusBody) (b : Berth) : Berth → Prop
  | refused (h : b.faultedWith .refused = true) : PlugRow s body b (b.plugChecked body)
  | dispenser (h : b.faultedWith .refused = false) (hc : body.faultCode ≠ 0#8) :
      PlugRow s body b
        ((b.faultedBy (s.grantInFlight b.number) .dispenser (some body.faultCode.toNat)).plugChecked body)
  | empty (h : b.faultedWith .refused = false) (hc : body.faultCode = 0#8) (hp : connected body = false) :
      PlugRow s body b ((b.settle .vacant none).setTarget (s.grantInFlight b.number) 0 0)
  | awaiting (h : b.faultedWith .refused = false) (hc : body.faultCode = 0#8) (hp : connected body = true)
      (hv : vehicleId body = 0) :
      PlugRow s body b ((b.settle .awaitingId none).setTarget (s.grantInFlight b.number) 0 0)
  | vehicle (h : b.faultedWith .refused = false) (hc : body.faultCode = 0#8) (hp : connected body = true)
      (hv : vehicleId body ≠ 0) {b' : Berth} (hrow : VehicleRow s (vehicleId body) b b') : PlugRow s body b b'

/-- R35, R39: the attention unit once berth `b` has become `b'`. -/
def Attention.plugged (b b' : Berth) (a : Attention) : Attention :=
  (a.foreignRaised (b'.state == .foreign && (b.state != .foreign || b.foreignReason != b'.foreignReason))).faultEntered
    (b.state != .faulted && b'.state == .faulted)

@[simp] theorem foreignRaised_false (a : Attention) : a.foreignRaised false = a := rfl

@[simp] theorem faultEntered_false (a : Attention) : a.faultEntered false = a := by simp [Attention.faultEntered]

/-- A berth that ends neither FOREIGN nor newly FAULTED raises nothing. -/
theorem plugged_quiet {b b' : Berth} (hf : b'.state ≠ .foreign) (he : b'.state = .faulted → b.state = .faulted)
    (a : Attention) : a.plugged b b' = a := by
  have h1 : (b'.state == .foreign) = false := by simpa using hf
  have h2 : (b.state != .faulted && b'.state == .faulted) = false := by
    rw [Bool.eq_false_iff]
    simpa using fun h h' => h (he h')
  unfold Attention.plugged
  rw [h1, h2]
  simp

theorem plugged_of_foreign {b b' : Berth} (hf : b'.state = .foreign) (a : Attention) :
    a.plugged b b' = a.foreignRaised (b.state != .foreign || b.foreignReason != b'.foreignReason) := by
  unfold Attention.plugged
  rw [hf]
  have h : (b.state != .faulted && BerthState.foreign == .faulted) = false := Bool.and_false _
  rw [h, faultEntered_false]
  rfl

theorem plugged_of_faulted {b b' : Berth} (hf : b'.state = .faulted) (a : Attention) :
    a.plugged b b' = a.faultEntered (b.state != .faulted) := by
  unfold Attention.plugged
  rw [hf]
  exact congrArg (fun e => a.faultEntered e) (Bool.and_true _)

@[simp] theorem withAttention_self (s : State) (b b' : Berth) :
    (s.replug b b').withAttention s.attention = s.replug b b' := rfl

theorem replug_withAttention (b b' : Berth) (a : Attention) (s : State) :
    (s.withAttention a).replug b b' = (s.replug b b').withAttention a := rfl

/-! ## A vehicle id plugged in (R33 to R35) -/

section
variable {s : State} {n : Nat} {b : Berth} (ht : s.tablesOk = true) (hl : Linked s) (hb : s.berth? n = some b)
include ht hl hb

theorem replug_self : s.replug b b = s := by
  have hmem := mem_of_berth? hb
  rw [replug_of_same ht hmem rfl hl.places rfl]
  refine (updBerth_const ht hmem id).symm.trans ?_
  unfold State.updBerth
  rw [updateKey_eq_map]
  simp

/-- R33: the previous bus occupant, if any, leaves. -/
theorem detach_replug {k : Nat} (hk : b.busOccupant = some k) :
    (s.detachOccupant n).setTarget n 0 0 = s.replug b (b.vacated (s.grantInFlight n)) := by
  obtain rfl := number_of_berth? hb
  rw [detachOccupant_eq ht hl.tickets hb hk, Berth.vacated, if_pos (by simp [hk])]
  exact updBerth_replug (b' := b.unoccupied) rfl rfl s

/-- R33, R34, R35: the vehicle at the berth that its previous bus occupant has left. -/
theorem takeVehicle_row {v : Nat} (hk : b.busOccupant ≠ some v) :
    ∃ b', VehicleRow s v b b'
      ∧ (s.replug b (b.vacated (s.grantInFlight n))).takeVehicle n v
        = (s.replug b b').withAttention (s.attention.plugged b b') := by
  obtain rfl := number_of_berth? hb
  have hmem := mem_of_berth? hb
  have hn := vacated_number (s.grantInFlight b.number) b
  have ho := vacated_busOccupant (s.grantInFlight b.number) b
  have foreign (reason : ForeignReason) :
      (s.replug b (b.vacated (s.grantInFlight b.number))).toForeign b.number v reason =
        (s.replug b ((b.vacated (s.grantInFlight b.number)).foreignTo (s.grantInFlight b.number) v reason)).withAttention
          (s.attention.plugged b
            ((b.vacated (s.grantInFlight b.number)).foreignTo (s.grantInFlight b.number) v reason)) := by
    have hself : (s.replug b (b.vacated (s.grantInFlight b.number))).berth? b.number
        = some (b.vacated (s.grantInFlight b.number)) := by
      have := berth?_replug_self (s := s) (b := b) (b' := b.vacated (s.grantInFlight b.number)) (by rwa [hn])
      rwa [hn] at this
    rw [toForeign_eq ((tablesOk_of_keys (replug_keys _ _ s)).trans ht) hself v reason]
    have hone := updBerth_replug (b := b) (b' := b.vacated (s.grantInFlight b.number))
      (g := fun _ => (b.vacated (s.grantInFlight b.number)).foreignTo (s.grantInFlight b.number) v reason)
      (foreignTo_number ..) (by simp) s
    rw [hn] at hone
    rw [plugged_of_foreign (foreignTo_state ..), foreignTo_foreignReason, vacated_state, vacated_foreignReason]
    exact congrArg (State.withAttention _) hone
  have hbus : (s.replug b (b.vacated (s.grantInFlight b.number))).bus? v = s.bus? v := by
    rw [bus?_replug]
    cases hx : s.bus? v with
    | none => rfl
    | some x => rw [Option.map_some, busReplugged_of_none ho (by rwa [fleet_of_bus? hx])]
  unfold State.takeVehicle
  rw [hbus]
  cases hx : s.bus? v with
  | none => exact ⟨_, .unknown hk hx, foreign .unknown⟩
  | some x =>
    have hxmem := mem_of_bus? hx
    cases hstate : x.state with
    | away =>
      have hp : x.berth = none := by
        have := (hl.places.attached x hxmem).not.1 (by simp [hstate])
        simpa using this
      refine ⟨_, .attached hk x hx hstate hp, ?_⟩
      dsimp only
      rw [hstate, plugged_quiet (by simp [Berth.settle]) (by simp [Berth.settle])]
      exact attachBus_replug ht hl.places hmem hx hn ho hp
    | attached =>
      obtain ⟨m, hp⟩ := Option.isSome_iff_exists.1 ((hl.places.attached x hxmem).1 hstate)
      have hocc : s.occupantAt m = some v := (hl.places.place m v).2 ((placeOf_of_bus? hx).trans hp)
      obtain ⟨r, hr, hrk⟩ := Option.bind_eq_some_iff.1 hocc
      have hm : m ≠ b.number := by
        rintro rfl
        obtain rfl := Option.some.inj (hr.symm.trans hb)
        exact hk hrk
      have hr' : (s.replug b (b.vacated (s.grantInFlight b.number))).berth? m = some r := by
        rw [berth?_replug, hr, Option.map_some, besides_of_none ho (by rwa [hn, number_of_berth? hr])]
      dsimp only
      rw [hstate, hp]
      dsimp only
      rw [hr', Option.map_some]
      cases hsilent : r.faultedSilent with
      | true =>
        refine ⟨_, .moved hk x hx hstate m r hp hm hr hsilent, ?_⟩
        rw [if_pos ⟨hm, rfl⟩, plugged_quiet (by simp [Berth.settle]) (by simp [Berth.settle])]
        exact moveBus_replug ht hl.places hmem hx hn ho hp hm
      | false =>
        refine ⟨_, .duplicate hk x hx hstate m r hp hm hr hsilent, ?_⟩
        rw [if_neg (by simp)]
        exact foreign .duplicate

/-- R33 to R35: a vehicle id plugged in. -/
theorem plugged_row (v : Nat) :
    ∃ b', VehicleRow s v b b' ∧ s.plugged n v = (s.replug b b').withAttention (s.attention.plugged b b') := by
  unfold State.plugged
  rw [hb, Option.bind_some]
  cases hk : b.busOccupant with
  | none =>
    have hvacated : s.replug b (b.vacated (s.grantInFlight n)) = s := by
      rw [Berth.vacated, if_neg (by simp [hk])]
      exact replug_self ht hl hb
    have hrow := takeVehicle_row ht hl hb (v := v) (by simp [hk])
    rwa [hvacated] at hrow
  | some k =>
    dsimp only
    split
    · rename_i hkv
      subst hkv
      refine ⟨_, .stayed hk, ?_⟩
      obtain rfl := number_of_berth? hb
      rw [plugged_quiet (by simp [Berth.settle]) (by simp [Berth.settle]), withAttention_self,
        replug_of_same (b' := b.settle .occupied (some k)) ht (mem_of_berth? hb) rfl hl.places
          (show (b.settle .occupied (some k)).busOccupant = b.busOccupant from hk.symm), updBerth_const ht (mem_of_berth? hb)]
    · rename_i hkv
      rw [detach_replug ht hl hb hk]
      exact takeVehicle_row ht hl hb (by simpa [hk] using hkv)

/-- R36: the faulted plug check, at a berth that is FAULTED. -/
theorem faultedPlugCheck_eq (hs : b.state = .faulted) (body : StatusBody) :
    s.faultedPlugCheck n body = s.replug b (b.plugChecked body) := by
  unfold State.faultedPlugCheck Berth.plugChecked
  rw [hb, Option.bind_some]
  have hocc : b.busOccupant = b.occupant := by simp [Berth.busOccupant, hs]
  cases hk : b.busOccupant with
  | none =>
    have hsame : b.unoccupied = b := by
      unfold Berth.unoccupied
      rw [← hk, hocc]
    simp only [reduceCtorEq, and_false, if_false, hsame]
    exact (replug_self ht hl hb).symm
  | some k =>
    dsimp only
    by_cases h : connected body ∧ vehicleId body = k
    · rw [if_pos h, if_pos ⟨h.1, by rw [h.2]⟩]
      exact (replug_self ht hl hb).symm
    · rw [if_neg h, if_neg fun h' => h ⟨h'.1, (Option.some.inj h'.2).symm⟩]
      exact detachOccupant_eq ht hl.tickets hb hk

/-- R32: nothing plugged in, or no vehicle id: the bus occupant, if any, leaves, and both targets become 0. -/
theorem unplugged_eq (state : BerthState) (hs : state ≠ .foreign ∧ state ≠ .faulted) :
    s.unplugged n state =
      (s.replug b ((b.settle state none).setTarget (s.grantInFlight n) 0 0)).withAttention
        (s.attention.plugged b ((b.settle state none).setTarget (s.grantInFlight n) 0 0)) := by
  obtain rfl := number_of_berth? hb
  rw [plugged_quiet (by simpa [Berth.settle] using hs.1) (fun h => absurd h hs.2), withAttention_self]
  have hocc : (b.settle state none).busOccupant = none := by
    unfold Berth.busOccupant Berth.settle
    split <;> rfl
  have hleft : s.detachOccupant b.number = s.replug b (if b.busOccupant.isSome then b.unoccupied else b) := by
    cases hk : b.busOccupant with
    | none => exact (detachOccupant_of_none hb hk).trans (replug_self ht hl hb).symm
    | some k => exact detachOccupant_eq ht hl.tickets hb hk
  have hnone : (if b.busOccupant.isSome then b.unoccupied else b).busOccupant = none := by
    cases hk : b.busOccupant with
    | none => simpa using hk
    | some k => simp
  have hnumber : (if b.busOccupant.isSome then b.unoccupied else b).number = b.number := by split <;> rfl
  have hsettle : (if b.busOccupant.isSome then b.unoccupied else b).settle state none = b.settle state none := by
    split <;> rfl
  unfold State.unplugged
  rw [hleft, setTarget_updBerth (settle_number state none)]
  have hone := updBerth_replug (b := b) (b' := if b.busOccupant.isSome then b.unoccupied else b)
    (g := fun r => (r.settle state none).setTarget (s.grantInFlight b.number) 0 0) rfl
    (by rw [setTarget_busOccupant, hsettle, hocc, hnone]) s
  rw [hnumber, hsettle] at hone
  exact hone

/-- R36: a fault reported, and the faulted plug check. -/
theorem faulted_replug (body : StatusBody) (cause : FaultCause) (code : Option Nat) :
    (s.fault n cause code).faultedPlugCheck n body =
      (s.replug b ((b.faultedBy (s.grantInFlight n) cause code).plugChecked body)).withAttention
        (s.attention.plugged b ((b.faultedBy (s.grantInFlight n) cause code).plugChecked body)) := by
  obtain rfl := number_of_berth? hb
  have hmem := mem_of_berth? hb
  have hfits := hl.places.fits b hmem
  rw [fault_eq ht hb, plugged_of_faulted (by simp)]
  generalize hb₀ : b.faultedBy (s.grantInFlight b.number) cause code = b₀
  have hn : b₀.number = b.number := by rw [← hb₀]; rfl
  have ho : b₀.busOccupant = b.busOccupant := by rw [← hb₀]; rfl
  have hs : b₀.state = .faulted := by rw [← hb₀]; rfl
  have hlink : b₀.link = b.link := by
    unfold Berth.link
    rw [hn, ho, hfits, Berth.occupantFits, hs]
  have hu : (s.updBerth b.number fun _ => b₀).links = s.links := updBerth_const_links ht hmem hlink
  generalize s.attention.faultEntered (b.state != .faulted) = a
  have hcheck := faultedPlugCheck_eq (s := (s.updBerth b.number fun _ => b₀).withAttention a)
    ((tablesOk_of_keys (updBerth_const_keys hn s)).trans ht) (hl.of_links hu) (berth?_updBerth_const hb hn) hs body
  rw [hcheck, replug_withAttention, replug_updBerth hn (by simp [hn]) ho]

/-- R31 to R36: the third step of a valid STATUS. -/
theorem takePlug_row (body : StatusBody) :
    ∃ b', PlugRow s body b b' ∧ s.takePlug n body = (s.replug b b').withAttention (s.attention.plugged b b') := by
  obtain rfl := number_of_berth? hb
  unfold State.takePlug
  rw [hb]
  dsimp only
  cases hr : b.faultedWith .refused with
  | true =>
    have hs : b.state = .faulted := by
      simp only [Berth.faultedWith, Bool.and_eq_true, beq_iff_eq] at hr
      exact hr.1
    refine ⟨_, .refused hr, ?_⟩
    rw [if_pos rfl, faultedPlugCheck_eq ht hl hb hs, plugged_quiet (by simp [hs]) (fun _ => hs), withAttention_self]
  | false =>
    rw [if_neg Bool.false_ne_true]
    split
    · rename_i hc
      exact ⟨_, .dispenser hr hc, faulted_replug ht hl hb body _ _⟩
    · rename_i hc
      rw [ne_eq, not_not] at hc
      unfold State.plugEvaluation
      cases hp : connected body with
      | false => exact ⟨_, .empty hr hc hp, (if_neg Bool.false_ne_true).trans (unplugged_eq ht hl hb .vacant (by simp))⟩
      | true =>
        rw [if_pos rfl]
        split
        · rename_i hv
          exact ⟨_, .awaiting hr hc hp hv, unplugged_eq ht hl hb .awaitingId (by simp)⟩
        · rename_i hv
          obtain ⟨b', hrow, heq⟩ := plugged_row ht hl hb (vehicleId body)
          exact ⟨b', .vehicle hr hc hp hv hrow, heq⟩

end

end Sys2Proof.Machine
end

section
/-! PROOFS. What changes a link, and how it stays the same from both ends: tickets freed, assigned and taken out (R103 to R105,
R110, R111), and berths given a new occupant (R6, R31 to R39). -/

namespace Sys2Proof.Machine

/-! ## Lookups after changes of buses and tickets -/

section
variable {s : State}

theorem bus?_unlinkBus (bus : Option Nat) (k : Nat) :
    (s.unlinkBus bus).bus? k =
      (s.bus? k).map fun x => if bus = some x.fleet then { x with ticket := none } else x := by
  rw [unlinkBus_eq]
  exact findKey_map k _ (fun x => by split <;> rfl) s.buses

theorem ticketHeld_unlinkBus (bus : Option Nat) (k : Nat) :
    (s.unlinkBus bus).ticketHeld k = if bus = some k then none else s.ticketHeld k := by
  unfold State.ticketHeld
  rw [bus?_unlinkBus]
  cases hx : s.bus? k with
  | none => simp
  | some x =>
    rw [Option.map_some, Option.bind_some, Option.bind_some, fleet_of_bus? hx]
    split <;> rfl

theorem holderOf_unlinkBus (bus : Option Nat) (j : Nat) : (s.unlinkBus bus).holderOf j = s.holderOf j := by cases bus <;> rfl

theorem tickets_unlinkBus (bus : Option Nat) : (s.unlinkBus bus).tickets = s.tickets := by cases bus <;> rfl

theorem ticketHeld_linkBus (j id k : Nat) :
    (s.linkBus j id).ticketHeld k = if k = j ∧ (s.bus? k).isSome = true then some id else s.ticketHeld k := by
  have hfind : (s.linkBus j id).bus? k =
      (s.bus? k).map fun x => if x.fleet == j then { x with ticket := some id } else x :=
    findKey_updateKey (key := Bus.fleet) j k (fun x : Bus => { x with ticket := some id }) (fun _ => rfl) s.buses
  unfold State.ticketHeld
  rw [hfind]
  cases hx : s.bus? k with
  | none => simp
  | some x =>
    rw [Option.map_some, Option.bind_some, Option.bind_some, fleet_of_bus? hx]
    by_cases h : k = j <;> simp [h]

theorem holderOf_updTicket (id j : Nat) {f : Ticket → Ticket} (hid : ∀ x, (f x).id = x.id) :
    (s.updTicket id f).holderOf j = if j = id then (s.ticket? j).bind fun x => (f x).bus else s.holderOf j := by
  have hfind : (s.updTicket id f).ticket? j = (s.ticket? j).map fun x => if x.id == id then f x else x :=
    findKey_updateKey id j f hid s.tickets
  unfold State.holderOf
  rw [hfind]
  cases hx : s.ticket? j with
  | none => simp
  | some x =>
    rw [Option.map_some, Option.bind_some, Option.bind_some, Option.bind_some, id_of_ticket? hx]
    by_cases h : j = id <;> simp [h]

end

/-! ## Tickets freed and assigned -/

section
variable {s t : State} {id : Nat}

/-- A ticket that names no bus any more, and whose bus no longer names it. -/
theorem TicketsLinked.freed (hl : TicketsLinked s) (hx : ∀ j, t.holderOf j = if j = id then none else s.holderOf j)
    (hb : ∀ k, t.ticketHeld k = if s.holderOf id = some k then none else s.ticketHeld k)
    (ha : ∀ x ∈ t.tickets, x.state = .assigned ↔ x.bus.isSome = true) : TicketsLinked t := by
  refine ⟨fun j k => ?_, ha⟩
  rw [hx, hb]
  by_cases hk : s.holderOf id = some k
  · have hid := (hl.ticket id k).1 hk
    by_cases hj : j = id
    · simp [hj, hk]
    · have : s.holderOf j ≠ some k := fun h => hj (Option.some.inj (((hl.ticket j k).1 h).symm.trans hid))
      simp [hj, hk, this]
  · by_cases hj : j = id
    · have : s.ticketHeld k ≠ some id := fun h => hk ((hl.ticket id k).2 h)
      simp [hj, hk, this]
    · simp [hj, hk, hl.ticket j k]

/-- R104, R110, R111: a ticket out of ASSIGNED. -/
theorem TicketsLinked.leave (hl : TicketsLinked s) {f : Ticket → Ticket} (hid : ∀ x, (f x).id = x.id)
    (hbus : ∀ x, (f x).bus = none) (hstate : ∀ x, (f x).state ≠ .assigned) :
    TicketsLinked ((s.updTicket id f).unlinkBus (s.holderOf id)) := by
  refine hl.freed (id := id) (fun j => ?_) (fun k => ?_) fun x hx => ?_
  · rw [holderOf_unlinkBus, holderOf_updTicket id j hid]
    split
    · cases s.ticket? j with
      | none => rfl
      | some x => exact hbus x
    · rfl
  · rw [ticketHeld_unlinkBus]
    rfl
  · rw [tickets_unlinkBus, updTicket_tickets, updateKey_eq_map] at hx
    obtain ⟨y, hy, rfl⟩ := List.mem_map.1 hx
    split
    · simp [hbus y, hstate y]
    · exact hl.assigned y hy

/-- R105: a ticket taken out. -/
theorem TicketsLinked.retire (hl : TicketsLinked s) :
    TicketsLinked (({ s with tickets := eraseKey Ticket.id id s.tickets } : State).unlinkBus (s.holderOf id)) := by
  refine hl.freed (id := id) (fun j => ?_) (fun k => ticketHeld_unlinkBus _ k) fun x hx => ?_
  · rw [holderOf_unlinkBus]
    show (findKey Ticket.id j (eraseKey Ticket.id id s.tickets)).bind Ticket.bus = _
    rw [findKey_eraseKey]
    split <;> rfl
  · rw [tickets_unlinkBus] at hx
    exact hl.assigned x (List.mem_of_mem_filter hx)

/-- R104: a ticket assigned to a bus that holds none, from another bus or from none. -/
theorem TicketsLinked.assign (hl : TicketsLinked s) {k : Nat} (hx : (s.ticket? id).isSome = true)
    (hb : (s.bus? k).isSome = true) (hk : s.ticketHeld k = none) :
    TicketsLinked (((s.unlinkBus (s.holderOf id)).updTicket id (Ticket.assign k)).linkBus k id) := by
  refine ⟨fun j m => ?_, fun x hx => ?_⟩
  · have hj : (((s.unlinkBus (s.holderOf id)).updTicket id (Ticket.assign k)).linkBus k id).holderOf j =
        if j = id then some k else s.holderOf j := by
      refine (holderOf_updTicket (s := s.unlinkBus (s.holderOf id)) id j (f := Ticket.assign k) fun _ => rfl).trans ?_
      rw [holderOf_unlinkBus]
      by_cases h : j = id
      · subst h
        obtain ⟨x, hx⟩ := Option.isSome_iff_exists.1 hx
        have hx' : (s.unlinkBus (s.holderOf j)).ticket? j = some x := by
          unfold State.ticket?
          rw [tickets_unlinkBus]
          exact hx
        rw [if_pos rfl, if_pos rfl, hx', Option.bind_some]
        rfl
      · rw [if_neg h, if_neg h]
    have hm : (((s.unlinkBus (s.holderOf id)).updTicket id (Ticket.assign k)).linkBus k id).ticketHeld m =
        if m = k then some id else if s.holderOf id = some m then none else s.ticketHeld m := by
      have hbus : (((s.unlinkBus (s.holderOf id)).updTicket id (Ticket.assign k)).bus? m).isSome = (s.bus? m).isSome := by
        rw [show ((s.unlinkBus (s.holderOf id)).updTicket id (Ticket.assign k)).bus? m
          = (s.unlinkBus (s.holderOf id)).bus? m from rfl, bus?_unlinkBus, Option.isSome_map]
      rw [ticketHeld_linkBus, hbus]
      by_cases h : m = k
      · rw [if_pos ⟨h, by rwa [h]⟩, if_pos h]
      · rw [if_neg fun h' => h h'.1, if_neg h]
        exact ticketHeld_unlinkBus _ m
    rw [hj, hm]
    by_cases hjid : j = id
    · subst hjid
      rw [if_pos rfl, Option.some_inj]
      by_cases hmk : m = k
      · simp [hmk]
      · rw [if_neg hmk]
        split
        · simp [Ne.symm hmk]
        · rename_i h
          simp [Ne.symm hmk, ← hl.ticket, h]
    · rw [if_neg hjid]
      by_cases hmk : m = k
      · subst hmk
        rw [if_pos rfl, hl.ticket, hk]
        simp [Ne.symm hjid]
      · rw [if_neg hmk]
        split
        · rename_i h
          rw [hl.ticket, (hl.ticket id m).1 h]
          simp [Ne.symm hjid]
        · exact hl.ticket j m
  · have hx' : x ∈ ((s.unlinkBus (s.holderOf id)).updTicket id (Ticket.assign k)).tickets := hx
    rw [updTicket_tickets, tickets_unlinkBus, updateKey_eq_map] at hx'
    obtain ⟨y, hy, rfl⟩ := List.mem_map.1 hx'
    split
    · simp [Ticket.assign]
    · exact hl.assigned y hy

end

end Sys2Proof.Machine
end

section
/-! PROOFS. What the ticket table does to the links: assignments (R104), a detachment (R110), the minute event (R111), and
records put in and taken out. -/

namespace Sys2Proof.Machine

/-! ## Tables with links -/

/-- The tables in their form, with every link the same from both of its ends. -/
structure WellLinked (s : State) : Prop where
  tables : s.tablesOk = true
  linked : Linked s

section
variable {s t : State}

theorem wellLinked_iff : WellLinked s ↔ s.tablesOk = true ∧ s.occupancyOk = true ∧ s.ticketLinksOk = true := by
  constructor
  · rintro ⟨ht, hp, hx⟩
    exact ⟨ht, (placesLinked_iff ht).1 hp, (ticketsLinked_iff ht).1 hx⟩
  · rintro ⟨ht, hp, hx⟩
    exact ⟨ht, (placesLinked_iff ht).2 hp, (ticketsLinked_iff ht).2 hx⟩

/-- What changes neither a key nor a link. -/
theorem WellLinked.of_links (h : WellLinked s) (hk : t.keys = s.keys) (hl : t.links = s.links) : WellLinked t :=
  ⟨(tablesOk_of_keys hk).trans h.tables, h.linked.of_links hl⟩

/-- A change of the tickets and of the tickets that the buses name leaves the places. -/
theorem Linked.of_tickets (h : Linked s) (hb : t.buses.map Bus.place = s.buses.map Bus.place) (hr : t.berths = s.berths)
    (hx : TicketsLinked t) : Linked t :=
  ⟨h.places.of_views hb (by rw [hr]), hx⟩

theorem unlinkBus_places (bus : Option Nat) : (s.unlinkBus bus).buses.map Bus.place = s.buses.map Bus.place := by
  rw [unlinkBus_eq]
  exact map_view_map (fun x => by split <;> rfl) s.buses

theorem unlinkBus_berths (bus : Option Nat) : (s.unlinkBus bus).berths = s.berths := by cases bus <;> rfl

/-! ## Tickets out of ASSIGNED -/

/-- A ticket out of ASSIGNED. -/
theorem WellLinked.leave (h : WellLinked s) {x : Ticket} (hx : x ∈ s.tickets) {f : Ticket → Ticket}
    (hid : ∀ y, (f y).id = y.id) (hbus : ∀ y, (f y).bus = none) (hstate : ∀ y, (f y).state ≠ .assigned) :
    WellLinked ((s.updTicket x.id f).unlinkBus x.bus) := by
  refine ⟨(tablesOk_of_keys ((unlinkBus_keys ..).trans (updTicket_keys x.id hid s))).trans h.tables, ?_⟩
  refine h.linked.of_tickets (unlinkBus_places _) (unlinkBus_berths _) ?_
  have := h.linked.tickets.leave (id := x.id) hid hbus hstate
  rwa [holderOf_id h.tables hx] at this

theorem WellLinked.releaseTicket (h : WellLinked s) {x : Ticket} (hx : x ∈ s.tickets) : WellLinked (s.releaseTicket x) :=
  h.leave hx (fun _ => rfl) (fun _ => rfl) fun _ => by simp [Ticket.leave]

theorem WellLinked.missTicket (h : WellLinked s) {x : Ticket} (hx : x ∈ s.tickets) : WellLinked (s.missTicket x) :=
  (h.leave hx (f := Ticket.leave .missed) (fun _ => rfl) (fun _ => rfl) fun _ => by simp [Ticket.leave]).of_links rfl
    (raiseCause_links _ _)

/-! ## Tickets at a minute event (R111) -/

/-- What a minute event makes of one ticket. -/
theorem ticketMinute_cases (now : Nat) (s : State) (x : Ticket) :
    s.ticketMinute now x = s ∨ s.ticketMinute now x = s.missTicket x ∨ s.ticketMinute now x = s.releaseTicket x := by
  unfold State.ticketMinute
  split
  · split <;> simp
  · split
    · split <;> split <;> simp
    · simp
  · simp
  · simp

theorem WellLinked.ticketMinute (h : WellLinked s) (now : Nat) {x : Ticket} (hx : x ∈ s.tickets) :
    WellLinked (s.ticketMinute now x) := by
  rcases ticketMinute_cases now s x with e | e | e <;> rw [e]
  exacts [h, h.missTicket hx, h.releaseTicket hx]

/-- A minute event turns to one ticket at a time. -/
theorem mem_ticketMinute (now : Nat) {x y : Ticket} (hy : y ∈ s.tickets) (hne : y.id ≠ x.id) :
    y ∈ (s.ticketMinute now x).tickets := by
  have kept (f : Ticket → Ticket) : y ∈ ((s.updTicket x.id f).unlinkBus x.bus).tickets := by
    rw [tickets_unlinkBus, updTicket_tickets, updateKey_eq_map]
    exact List.mem_map.2 ⟨y, hy, if_neg hne⟩
  rcases ticketMinute_cases now s x with e | e | e <;> rw [e]
  exacts [hy, kept _, kept _]

theorem WellLinked.ticketMinutes (now : Nat) (l : List Ticket) (hn : (l.map Ticket.id).Nodup) :
    ∀ s : State, WellLinked s → (∀ x ∈ l, x ∈ s.tickets) → WellLinked (l.foldl (State.ticketMinute now) s) := by
  induction l with
  | nil => exact fun s h _ => h
  | cons x l ih =>
    rw [List.map_cons, List.nodup_cons] at hn
    intro s h hl
    refine ih hn.2 _ (h.ticketMinute now (hl x (List.mem_cons_self ..))) fun y hy => ?_
    refine mem_ticketMinute now (hl y (List.mem_cons_of_mem _ hy)) fun e => hn.1 ?_
    exact e ▸ List.mem_map_of_mem hy

theorem WellLinked.ticketsMinute (h : WellLinked s) : WellLinked s.ticketsMinute := by
  unfold State.ticketsMinute
  split
  · have hr := (keysRising_iff s.tickets).1 ((tablesOk_iff s).1 h.tables).2.2.1.1
    exact WellLinked.ticketMinutes _ _ (hr.imp fun hlt => ne_of_lt hlt) s h fun _ hx => hx
  · exact h

/-- R98: a minute event keeps the links. -/
theorem WellLinked.takeMinute (h : WellLinked s) (before : State) : WellLinked (s.takeMinute before) := by
  have hu : WellLinked s.refreshBuses.ticketsMinute.refreshBuses :=
    ((h.of_links (refreshBuses_keys s) (refreshBuses_links s)).ticketsMinute).of_links (refreshBuses_keys _)
      (refreshBuses_links _)
  refine ⟨(tablesOk_of_keys (takeMinute_keys s before)).trans h.tables, hu.linked.of_links ?_⟩
  obtain ⟨u, rfl, hbuses, hberths, htickets, -⟩ := takeMinute_records s before
  unfold State.links
  rw [hbuses, hberths, htickets, map_view_map (gradeTicket_link _)]

/-! ## An amended ticket (R103, R104) -/

theorem busRefusal_eq_none {key value : Nat} (hv : value ≠ 0) (h : s.busRefusal key value = none) :
    ∃ x, s.bus? value = some x ∧ (x.ticket = none ∨ x.ticket = some key) := by
  unfold State.busRefusal at h
  rw [if_neg hv] at h
  cases hx : s.bus? value with
  | none => simp [hx] at h
  | some x =>
    refine ⟨x, rfl, ?_⟩
    cases hid : x.ticket with
    | none => exact .inl rfl
    | some id => simpa [hx, hid] using h

/-- R104: assignment, unassignment and move of a ticket. -/
theorem WellLinked.busTaken (h : WellLinked s) {x r : Ticket} (hr : s.ticket? x.id = some r) (hbus : r.bus = x.bus)
    {value : Nat} (hv : s.busRefusal x.id value = none) : WellLinked (s.busTaken x value) := by
  obtain ⟨hrid, hrmem⟩ : r.id = x.id ∧ r ∈ s.tickets := ⟨id_of_ticket? hr, mem_of_ticket? hr⟩
  unfold State.busTaken
  split
  · split
    · rw [← hrid, ← hbus]
      exact h.leave hrmem (fun _ => rfl) (fun _ => rfl) fun _ => by simp [Ticket.leave]
    · exact h
  · rename_i hzero
    split
    · exact h
    · rename_i hother
      obtain ⟨b, hb, hfree⟩ := busRefusal_eq_none hzero hv
      have hholder : s.holderOf x.id = x.bus := by rw [State.holderOf, hr, Option.bind_some, hbus]
      have hheld : s.ticketHeld value = b.ticket := by rw [State.ticketHeld, hb, Option.bind_some]
      have hnone : s.ticketHeld value = none := by
        rcases hfree with h' | h'
        · exact hheld.trans h'
        · exact absurd (hholder.symm.trans ((h.linked.tickets.ticket x.id value).2 (hheld.trans h'))) hother
      refine ⟨(tablesOk_of_keys ?_).trans h.tables, h.linked.of_tickets ?_ ?_ ?_⟩
      · rw [linkBus_keys, updTicket_keys _ (assign_id _), unlinkBus_keys]
      · exact (map_view_updateKey value (f := fun b : Bus => { b with ticket := some x.id }) (fun _ => rfl) _).trans
          (unlinkBus_places x.bus)
      · exact unlinkBus_berths x.bus
      · rw [← hholder]
        exact h.linked.tickets.assign (by simp [hr]) (by simp [hb]) hnone

/-- R103: an accepted amendment of a ticket. -/
theorem WellLinked.ticketAmended (h : WellLinked s) {key : Nat} {x : Ticket} (hx : s.ticket? key = some x)
    {pairs : List Pair} (hv : s.ticketRefusal key pairs = none) : WellLinked (s.ticketAmended x pairs) := by
  obtain rfl := id_of_ticket? hx
  have hlinks : (s.updTicket x.id (Ticket.amend pairs)).links = s.links := by
    simp only [State.links, updTicket_buses, updTicket_berths, updTicket_tickets,
      map_view_updateKey (view := Ticket.link) x.id (f := Ticket.amend pairs) fun _ => rfl]
  have hamended := h.of_links (updTicket_keys x.id (ticketAmend_id pairs) s) hlinks
  unfold State.ticketAmended
  dsimp only
  split
  · rename_i v hcarried
    have hrefusal : (s.updTicket x.id (Ticket.amend pairs)).busRefusal x.id v.toNat = none := by
      unfold State.ticketRefusal at hv
      split at hv
      · cases hv
      · rwa [hcarried, Option.bind_some] at hv
    refine hamended.busTaken (r := x.amend pairs) ?_ rfl hrefusal
    refine (findKey_updateKey x.id x.id (Ticket.amend pairs) (ticketAmend_id pairs) s.tickets).trans ?_
    rw [show findKey Ticket.id x.id s.tickets = some x from hx, Option.map_some, if_pos (by simp)]
  · exact hamended

/-! ## Records put in and taken out (R3, R5, R102, R105) -/

/-- R105: a ticket taken out. -/
theorem Linked.retireTicket (h : Linked s) {key : Nat} {x : Ticket} (hx : s.ticket? key = some x) :
    Linked (({ s with tickets := eraseKey Ticket.id key s.tickets } : State).unlinkBus x.bus) := by
  refine h.of_tickets (unlinkBus_places _) (unlinkBus_berths _) ?_
  have hholder : s.holderOf key = x.bus := by rw [State.holderOf, hx, Option.bind_some]
  rw [← hholder]
  exact h.tickets.retire

/-- A table changed where every lookup and then a field give what they gave. -/
theorem Linked.of_lookups (h : Linked s) (hocc : ∀ n, t.occupantAt n = s.occupantAt n)
    (hplace : ∀ k, t.placeOf k = s.placeOf k) (hholder : ∀ id, t.holderOf id = s.holderOf id)
    (hheld : ∀ k, t.ticketHeld k = s.ticketHeld k) (hfits : ∀ b ∈ t.berths, b ∈ s.berths ∨ b.occupantFits = true)
    (hattached : ∀ x ∈ t.buses, x ∈ s.buses ∨ (x.state = .attached ↔ x.berth.isSome = true))
    (hassigned : ∀ x ∈ t.tickets, x ∈ s.tickets ∨ (x.state = .assigned ↔ x.bus.isSome = true)) : Linked t where
  places :=
    { fits := fun b hb => (hfits b hb).elim (h.places.fits b) id
      place := fun n k => by rw [hocc, hplace]; exact h.places.place n k
      attached := fun x hx => (hattached x hx).elim (h.places.attached x) id }
  tickets :=
    { ticket := fun id k => by rw [hholder, hheld]; exact h.tickets.ticket id k
      assigned := fun x hx => (hassigned x hx).elim (h.tickets.assigned x) id }

/-- A new record whose field is absent changes no lookup of that field. -/
theorem findKey_insertByKey_bind {α β : Type} {key : α → Nat} {field : α → Option β} {x : α} {l : List α}
    (hnew : findKey key (key x) l = none) (hx : field x = none) (k : Nat) :
    (findKey key k (insertByKey key x l)).bind field = (findKey key k l).bind field := by
  rw [findKey_insertByKey x k l ((findKey_eq_none _ _).1 hnew)]
  split
  · rename_i h
    rw [← h, hnew, Option.bind_some, hx, Option.bind_none]
  · rfl

/-- A removed record whose field is absent changes no lookup of that field. -/
theorem findKey_eraseKey_bind {α β : Type} {key : α → Nat} {field : α → Option β} {m : Nat} {l : List α}
    (hx : (findKey key m l).bind field = none) (k : Nat) :
    (findKey key k (eraseKey key m l)).bind field = (findKey key k l).bind field := by
  rw [findKey_eraseKey]
  split
  · rename_i h
    rw [h, hx, Option.bind_none]
  · rfl

theorem Linked.insertBus (h : Linked s) {x : Bus} (hnew : s.bus? x.fleet = none) (hstate : x.state = .away)
    (hberth : x.berth = none) (hticket : x.ticket = none) :
    Linked { s with buses := insertByKey Bus.fleet x s.buses } := by
  refine h.of_lookups (fun _ => rfl) (findKey_insertByKey_bind hnew hberth) (fun _ => rfl)
    (findKey_insertByKey_bind hnew hticket) (fun _ hb => .inl hb) (fun y hy => ?_) fun _ hx => .inl hx
  rcases (mem_insertByKey x y s.buses).1 hy with rfl | hy
  · exact .inr (by simp [hstate, hberth])
  · exact .inl hy

theorem Linked.insertBerth (h : Linked s) {b : Berth} (hnew : s.berth? b.number = none) (hocc : b.busOccupant = none)
    (hfits : b.occupantFits = true) : Linked { s with berths := insertByKey Berth.number b s.berths } := by
  refine h.of_lookups (findKey_insertByKey_bind hnew hocc) (fun _ => rfl) (fun _ => rfl) (fun _ => rfl) (fun r hr => ?_)
    (fun _ hx => .inl hx) fun _ hx => .inl hx
  rcases (mem_insertByKey b r s.berths).1 hr with rfl | hr
  · exact .inr hfits
  · exact .inl hr

theorem Linked.insertTicket (h : Linked s) {x : Ticket} (hnew : s.ticket? x.id = none) (hstate : x.state = .opened)
    (hbus : x.bus = none) : Linked { s with tickets := insertByKey Ticket.id x s.tickets } := by
  refine h.of_lookups (fun _ => rfl) (fun _ => rfl) (findKey_insertByKey_bind hnew hbus) (fun _ => rfl) (fun _ hb => .inl hb)
    (fun _ hx => .inl hx) fun y hy => ?_
  rcases (mem_insertByKey x y s.tickets).1 hy with rfl | hy
  · exact .inr (by simp [hstate, hbus])
  · exact .inl hy

theorem Linked.eraseBus (h : Linked s) {k : Nat} {x : Bus} (hx : s.bus? k = some x) (hberth : x.berth = none)
    (hticket : x.ticket = none) : Linked { s with buses := eraseKey Bus.fleet k s.buses } := by
  have hfind : findKey Bus.fleet k s.buses = some x := hx
  refine h.of_lookups (fun _ => rfl) (findKey_eraseKey_bind (by rw [hfind, Option.bind_some, hberth])) (fun _ => rfl)
    (findKey_eraseKey_bind (by rw [hfind, Option.bind_some, hticket])) (fun _ hb => .inl hb)
    (fun _ hy => .inl (List.mem_of_mem_filter hy)) fun _ hy => .inl hy

theorem Linked.eraseBerth (h : Linked s) {n : Nat} {b : Berth} (hb : s.berth? n = some b) (hocc : b.busOccupant = none) :
    Linked { s with berths := eraseKey Berth.number n s.berths } := by
  have hfind : findKey Berth.number n s.berths = some b := hb
  refine h.of_lookups (findKey_eraseKey_bind (by rw [hfind, Option.bind_some, hocc])) (fun _ => rfl) (fun _ => rfl)
    (fun _ => rfl) (fun _ hr => .inl (List.mem_of_mem_filter hr)) (fun _ hy => .inl hy) fun _ hy => .inl hy

/-- Berths without a bus among no buses and no tickets. -/
theorem linked_of_unoccupied (hb : s.buses = []) (hx : s.tickets = [])
    (hr : ∀ b ∈ s.berths, b.occupantFits = true ∧ b.busOccupant = none) : Linked s := by
  refine ⟨⟨fun b hb => (hr b hb).1, fun n k => ?_, ?_⟩, ⟨fun id k => ?_, ?_⟩⟩
  · have hocc : s.occupantAt n = none := by
      unfold State.occupantAt
      cases hb : s.berth? n with
      | none => rfl
      | some b => exact (hr b (mem_of_berth? hb)).2
    simp [hocc, State.placeOf, State.bus?, hb, findKey]
  · simp [hb]
  · simp [State.holderOf, State.ticket?, State.ticketHeld, State.bus?, hb, hx, findKey]
  · simp [hx]

end

end Sys2Proof.Machine
end

section
/-! PROOFS. What the berth table does to the links: a berth given a new occupant keeps them (R6, R31 to R38), and so does the
out-of-service setting (R28, R29). -/

namespace Sys2Proof.Machine

/-! ## A berth given a new occupant -/

/-- What a berth `b'` in the place of `b` must be for the links to stay: its occupant fits its state, and a bus that it gains is
in the table and at no berth but a FAULTED one. -/
structure Berth.TakesOver (s : State) (b b' : Berth) : Prop where
  number : b'.number = b.number
  fits : b'.occupantFits = true
  gained : ∀ k, b'.busOccupant = some k → b.busOccupant ≠ some k →
    (s.bus? k).isSome = true ∧ ∀ r ∈ s.berths, r.busOccupant = some k → r.state = .faulted

section
variable {s : State}

/-- R7, R110: a detachment keeps the links of tickets. -/
theorem TicketsLinked.detachBus (ht : s.tablesOk = true) (hl : TicketsLinked s) (k : Nat) : TicketsLinked (s.detachBus k) := by
  have hdetached : TicketsLinked (s.updBus k Bus.detach) :=
    hl.of_views (map_view_updateKey k (f := Bus.detach) (fun _ => rfl) s.buses) rfl
  unfold State.detachBus
  rw [ticketDetached_eq, leavingTicket_detach]
  cases hx : s.leavingTicket k with
  | none => exact hdetached
  | some x =>
    have hmem := ((leavingTicket_eq_some_iff ht hl k x).1 hx).1
    have hholder : (s.updBus k Bus.detach).holderOf x.id = x.bus := holderOf_id ht hmem
    rw [Option.elim_some, State.releaseTicket, ← hholder]
    exact hdetached.leave (fun _ => rfl) (fun _ => rfl) fun _ => by simp [Ticket.leave]

section
variable {b b' : Berth} (ht : s.tablesOk = true) (hl : Linked s)
include ht hl

/-- The tickets once berth `b` has become `b'`, linked as after the detachment of the bus that has left. -/
theorem TicketsLinked.replug : TicketsLinked (s.replug b b') := by
  have holding (x : Bus) (h : b.busOccupant = some x.fleet → b'.busOccupant = some x.fleet) :
      (s.busReplugged b b' x).holding = x.holding := by
    unfold State.busReplugged
    split
    · rfl
    · exact congrArg Bus.holding (if_neg fun ⟨h₁, h₂⟩ => h₂ (h h₁))
  cases hlost : b.lostTo b' with
  | none =>
    have hkept (k : Nat) (hk : b.busOccupant = some k) : b'.busOccupant = some k := by
      unfold Berth.lostTo at hlost
      split at hlost
      · rename_i h
        exact h.trans hk
      · simp [hk] at hlost
    refine hl.tickets.of_views ?_ ?_
    · exact map_view_map (fun x => holding x (hkept x.fleet)) s.buses
    · show List.map Ticket.link (s.tickets.map (s.ticketReleased (b.lostTo b'))) = _
      rw [hlost, map_view_map fun x => by rw [ticketReleased_none]]
  | some k =>
    obtain ⟨hk, hk'⟩ : b.busOccupant = some k ∧ b'.busOccupant ≠ some k := by
      unfold Berth.lostTo at hlost
      split at hlost
      · cases hlost
      · rename_i h
        exact ⟨hlost, hlost ▸ h⟩
    refine (hl.tickets.detachBus ht k).of_views ?_ ?_
    · rw [detachBus_linked ht hl.tickets]
      show (s.buses.map (s.busReplugged b b')).map Bus.holding = (s.buses.map _).map Bus.holding
      rw [List.map_map, List.map_map]
      refine List.map_congr_left fun x _ => ?_
      simp only [Function.comp]
      by_cases hx : x.fleet = k
      · have hunplugged : s.busReplugged b b' x = s.busUnplugged x := by
          unfold State.busReplugged
          rw [hx, if_neg fun h => hk' h.1, if_pos ⟨hk, hk'⟩]
        rw [hunplugged, if_pos hx]
      · rw [if_neg hx, holding x fun h => absurd (Option.some.inj (hk.symm.trans h)).symm hx]
    · rw [detachBus_linked ht hl.tickets]
      show List.map Ticket.link (s.tickets.map (s.ticketReleased (b.lostTo b'))) = _
      rw [hlost]

variable (hb : b ∈ s.berths) (hr : b.TakesOver s b')
include hb hr

omit hl in
theorem occupantAt_replug (n : Nat) :
    (s.replug b b').occupantAt n =
      if n = b.number then b'.busOccupant
      else if (s.occupantAt n).isSome = true ∧ s.occupantAt n = b'.busOccupant then none
      else s.occupantAt n := by
  unfold State.occupantAt
  rw [berth?_replug]
  cases hn : s.berth? n with
  | none =>
    rw [if_neg fun h => by rw [h, berth?_of_mem ht hb] at hn; cases hn]
    simp
  | some r =>
    obtain rfl := number_of_berth? hn
    rw [Option.map_some, Option.bind_some, Option.bind_some]
    unfold Berth.besides
    rw [hr.number]
    split
    · rfl
    · split
      · exact busOccupant_unoccupied r
      · rfl

theorem placeOf_replug (k : Nat) :
    (s.replug b b').placeOf k =
      if b'.busOccupant = some k then some b.number
      else if b.busOccupant = some k then none
      else s.placeOf k := by
  unfold State.placeOf
  rw [bus?_replug]
  cases hx : s.bus? k with
  | none =>
    have hb' : b'.busOccupant ≠ some k := fun h => by
      by_cases hbk : b.busOccupant = some k
      · have := (hl.places.place b.number k).1 ((occupantAt_number ht hb).trans hbk)
        rw [State.placeOf, hx] at this
        cases this
      · have := (hr.gained k h hbk).1
        rw [hx] at this
        cases this
    rw [if_neg hb']
    simp
  | some x =>
    obtain rfl := fleet_of_bus? hx
    rw [Option.map_some, Option.bind_some, Option.bind_some]
    unfold State.busReplugged
    rw [hr.number]
    by_cases h' : b'.busOccupant = some x.fleet
    · by_cases hp : x.berth = some b.number
      · simp [h', hp]
      · simp [h', hp, Bus.attach]
    · by_cases h : b.busOccupant = some x.fleet
      · simp [h', h, State.busUnplugged]
      · simp [h', h]

theorem PlacesLinked.replug : PlacesLinked (s.replug b b') := by
  refine ⟨fun r' hr' => ?_, fun n k => ?_, fun x' hx' => ?_⟩
  · obtain ⟨r, hmem, rfl⟩ := List.mem_map.1 hr'
    unfold Berth.besides
    split
    · exact hr.fits
    · rename_i hne
      rw [hr.number] at hne
      split
      · rename_i hk
        obtain ⟨k, hk'⟩ := Option.isSome_iff_exists.1 hk.1
        have hother : b.busOccupant ≠ some k := fun h => hne (Option.some.inj
          (((hl.places.place r.number k).1 ((occupantAt_number ht hmem).trans hk')).symm.trans
            ((hl.places.place b.number k).1 ((occupantAt_number ht hb).trans h))))
        simp [Berth.occupantFits, (hr.gained k (hk.2.symm.trans hk') hother).2 r hmem hk']
      · exact hl.places.fits r hmem
  · have hplace := hl.places.place n k
    have hself := hl.places.place b.number k
    rw [occupantAt_number ht hb] at hself
    rw [occupantAt_replug ht hb hr, placeOf_replug ht hl hb hr]
    by_cases h' : b'.busOccupant = some k
    · rw [if_pos h', Option.some_inj]
      by_cases hn : n = b.number
      · simp [hn, h']
      · rw [if_neg hn, h']
        refine iff_of_false (fun h => ?_) (Ne.symm hn)
        split at h
        · cases h
        · rename_i hne
          exact hne ⟨by simp [h], h⟩
    · rw [if_neg h']
      by_cases hn : n = b.number
      · rw [if_pos hn]
        refine iff_of_false h' fun h => ?_
        split at h
        · cases h
        · rename_i hbk
          exact hbk (hself.2 (hn ▸ h))
      · rw [if_neg hn]
        have hleft : (if (s.occupantAt n).isSome = true ∧ s.occupantAt n = b'.busOccupant then none else s.occupantAt n)
            = some k ↔ s.occupantAt n = some k := by
          split
          · rename_i h
            exact iff_of_false (by simp) fun hk => h' (h.2.symm.trans hk)
          · exact Iff.rfl
        rw [hleft, hplace]
        split
        · rename_i hbk
          exact iff_of_false (fun h => hn (Option.some.inj (h.symm.trans (hself.1 hbk)))) (by simp)
        · exact Iff.rfl
  · obtain ⟨x, hx, rfl⟩ := List.mem_map.1 hx'
    unfold State.busReplugged
    split
    · simp [Bus.attach]
    · split
      · simp [State.busUnplugged]
      · exact hl.places.attached x hx

end

theorem WellLinked.replug (h : WellLinked s) {b b' : Berth} (hb : b ∈ s.berths) (hr : b.TakesOver s b') :
    WellLinked (s.replug b b') :=
  ⟨(tablesOk_of_keys (replug_keys b b' s)).trans h.tables, PlacesLinked.replug h.tables h.linked hb hr,
    TicketsLinked.replug h.tables h.linked⟩

/-! ## The rows of the plug table -/

/-- A berth that is left with its own bus or with none takes over. -/
theorem takesOver_of_ungained {b b' : Berth} (hn : b'.number = b.number) (hfits : b'.occupantFits = true)
    (ho : b'.busOccupant = none ∨ b'.busOccupant = b.busOccupant) : b.TakesOver s b' := by
  refine ⟨hn, hfits, fun k hk hne => ?_⟩
  rcases ho with h | h
  · rw [h] at hk
    cases hk
  · exact absurd (h.symm.trans hk) hne

theorem plugChecked_busOccupant (body : StatusBody) (b : Berth) :
    (b.plugChecked body).busOccupant = none ∨ (b.plugChecked body).busOccupant = b.busOccupant := by
  unfold Berth.plugChecked
  split
  · exact .inr rfl
  · exact .inl (busOccupant_unoccupied b)

/-- R33 to R35: what a vehicle id plugged in leaves at the berth takes over. -/
theorem VehicleRow.takesOver (h : WellLinked s) {v : Nat} {b b' : Berth} (hrow : VehicleRow s v b b') : b.TakesOver s b' := by
  cases hrow with
  | stayed hk => exact takesOver_of_ungained rfl rfl (.inr hk.symm)
  | unknown =>
    exact takesOver_of_ungained (by simp) (by simp [Berth.occupantFits]) (.inl (foreignTo_busOccupant ..))
  | duplicate =>
    exact takesOver_of_ungained (by simp) (by simp [Berth.occupantFits]) (.inl (foreignTo_busOccupant ..))
  | attached hk x hx haway hp =>
    refine ⟨by simp, rfl, fun k hk' _ => ?_⟩
    obtain rfl : v = k := Option.some.inj hk'
    refine ⟨by simp [hx], fun r hr hrk => ?_⟩
    have hplace := (h.linked.places.place r.number v).1 ((occupantAt_number h.tables hr).trans hrk)
    rw [placeOf_of_bus? hx, hp] at hplace
    cases hplace
  | moved hk x hx hat m r hp hm hr hsilent =>
    refine ⟨by simp, rfl, fun k hk' _ => ?_⟩
    obtain rfl : v = k := Option.some.inj hk'
    refine ⟨by simp [hx], fun r' hr' hrk => ?_⟩
    have hplace := (h.linked.places.place r'.number v).1 ((occupantAt_number h.tables hr').trans hrk)
    rw [placeOf_of_bus? hx, hp] at hplace
    have hnumber : r.number = r'.number := (number_of_berth? hr).trans (Option.some.inj hplace)
    obtain rfl := berth_eq_of_number h.tables hr' (mem_of_berth? hr) hnumber
    simp only [Berth.faultedSilent, Bool.and_eq_true, beq_iff_eq] at hsilent
    exact hsilent.1

theorem settle_none_busOccupant {state : BerthState} (b : Berth) : (b.settle state none).busOccupant = none := by
  unfold Berth.busOccupant Berth.settle
  split <;> rfl

/-- R31 to R36: what a STATUS leaves at the berth takes over. -/
theorem PlugRow.takesOver (h : WellLinked s) {body : StatusBody} {b b' : Berth} (hrow : PlugRow s body b b') :
    b.TakesOver s b' := by
  cases hrow with
  | refused hr =>
    have hs : b.state = .faulted := by
      simp only [Berth.faultedWith, Bool.and_eq_true, beq_iff_eq] at hr
      exact hr.1
    exact takesOver_of_ungained (by simp) (by simp [Berth.occupantFits, hs]) (plugChecked_busOccupant body b)
  | dispenser =>
    exact takesOver_of_ungained (by simp) (by simp [Berth.occupantFits])
      (plugChecked_busOccupant body (b.faultedBy _ .dispenser _))
  | empty => exact takesOver_of_ungained rfl rfl (.inl (settle_none_busOccupant b))
  | awaiting => exact takesOver_of_ungained rfl rfl (.inl (settle_none_busOccupant b))
  | vehicle _ _ _ _ hrow => exact hrow.takesOver h

theorem WellLinked.withAttention (h : WellLinked s) (a : Attention) : WellLinked (s.withAttention a) := h.of_links rfl rfl

theorem WellLinked.takePlug (h : WellLinked s) (n : Nat) (body : StatusBody) : WellLinked (s.takePlug n body) := by
  cases hb : s.berth? n with
  | none =>
    unfold State.takePlug
    rwa [hb]
  | some b =>
    obtain ⟨b', hrow, heq⟩ := takePlug_row h.tables h.linked hb body
    rw [heq]
    exact (h.replug (mem_of_berth? hb) (hrow.takesOver h)).withAttention _

/-! ## A berth changed without a change of its occupant -/

/-- A change of one berth that keeps its link where its occupant fits. -/
theorem WellLinked.updBerth (h : WellLinked s) (n : Nat) {f : Berth → Berth} (hn : ∀ b, (f b).number = b.number)
    (hf : ∀ b, b.occupantFits = true → (f b).link = b.link) : WellLinked (s.updBerth n f) := by
  refine h.of_links (updBerth_keys n hn s) ?_
  unfold State.links
  rw [updBerth_buses, updBerth_berths, updBerth_tickets, updateKey_eq_map, List.map_map]
  refine congrArg (fun l => (_, l, _)) (List.map_congr_left fun b hb => ?_)
  simp only [Function.comp]
  split
  · exact hf b (h.linked.places.fits b hb)
  · rfl

theorem faultedBy_link (f : Bool) (cause : FaultCause) (code : Option Nat) {b : Berth} (hb : b.occupantFits = true) :
    (b.faultedBy f cause code).link = b.link := by
  unfold Berth.link
  rw [hb, faultedBy_number, faultedBy_busOccupant, Berth.occupantFits, faultedBy_state]

theorem WellLinked.fault (h : WellLinked s) (n : Nat) (cause : FaultCause) (code : Option Nat) :
    WellLinked (s.fault n cause code) := by
  cases hb : s.berth? n with
  | none =>
    unfold State.fault
    rwa [hb]
  | some b =>
    obtain rfl := number_of_berth? hb
    rw [fault_eq h.tables hb,
      ← updBerth_const h.tables (mem_of_berth? hb) (Berth.faultedBy (s.grantInFlight b.number) cause code)]
    exact (h.updBerth b.number (faultedBy_number _ _ _) fun _ => faultedBy_link _ _ _).withAttention _

theorem heard_link (b : Berth) : b.heard.link = b.link := by
  unfold Berth.heard
  split
  · rename_i hs
    simp only [Berth.faultedSilent, Bool.and_eq_true, beq_iff_eq] at hs
    cases ho : b.occupant <;> simp [Berth.link, Berth.busOccupant, Berth.occupantFits, Berth.settle, hs.1, ho]
  · rfl

theorem restore_link {b : Berth} (hb : b.occupantFits = true) : b.restore.link = b.link := by
  unfold Berth.restore
  split
  · rename_i hs
    have ho : b.occupant = none := by simpa [Berth.occupantFits, hs] using hb
    simp [Berth.link, Berth.busOccupant, Berth.occupantFits, Berth.settle, hs, ho]
  · rfl

theorem WellLinked.thirdMiss (h : WellLinked s) (n : Nat) : WellLinked (s.thirdMiss n) := by
  have stale (u : State) (hu : WellLinked u) : WellLinked (u.staleOccupant n) := by
    refine hu.of_links ?_ (staleOccupant_links n u)
    unfold State.staleOccupant
    split <;> simp [updBus_keys _ goStale_fleet]
  unfold State.thirdMiss
  split
  · refine stale _ ?_
    split
    · exact h
    · exact h.fault ..
  · exact h

theorem WellLinked.countMiss (h : WellLinked s) (n : Nat) : WellLinked (s.countMiss n) := by
  have counted := h.updBerth n (f := fun b => { b with missCount := min 3 (b.missCount + 1) }) (fun _ => rfl) fun _ _ => rfl
  unfold State.countMiss
  split
  · dsimp only
    split
    · exact counted.thirdMiss n
    · exact counted
  · exact h

theorem WellLinked.confirmPlug (h : WellLinked s) (n : Nat) (accepted : Bool) : WellLinked (s.confirmPlug n accepted) := by
  unfold State.confirmPlug
  split
  · exact h.updBerth n heard_number fun b _ => heard_link b
  · exact h.fault ..

/-! ## The out-of-service setting (R28, R29) -/

theorem isolate_busOccupant (b : Berth) : b.isolate.busOccupant = none := settle_none_busOccupant (state := .outOfService) b

/-- R28: a berth in service set out of service. -/
theorem setOutOfService_eq (ht : s.tablesOk = true) (hl : Linked s) {n : Nat} {b : Berth} (hb : s.berth? n = some b)
    (hs : b.state ≠ .outOfService) : s.setOutOfService n = (s.replug b b.isolate).leaveLine n := by
  obtain rfl := number_of_berth? hb
  have hisolate : (s.detachOccupant b.number).updBerth b.number Berth.isolate = s.replug b b.isolate := by
    cases hk : b.busOccupant with
    | none =>
      rw [detachOccupant_of_none hb hk, updBerth_const ht (mem_of_berth? hb),
        replug_of_same ht (mem_of_berth? hb) (isolate_number b) hl.places ((isolate_busOccupant b).trans hk.symm)]
    | some k =>
      rw [detachOccupant_eq ht hl.tickets hb hk]
      exact updBerth_replug (b' := b.unoccupied) rfl
        ((isolate_busOccupant b.unoccupied).trans (unoccupied_busOccupant b).symm) s
  unfold State.setOutOfService
  rw [hb]
  exact (if_neg hs).trans (congrArg (State.leaveLine b.number) hisolate)

theorem WellLinked.setOutOfService (h : WellLinked s) (n : Nat) : WellLinked (s.setOutOfService n) := by
  cases hb : s.berth? n with
  | none =>
    unfold State.setOutOfService
    rwa [hb]
  | some b =>
    by_cases hs : b.state = .outOfService
    · unfold State.setOutOfService
      rw [hb]
      dsimp only
      rwa [if_pos hs]
    · rw [setOutOfService_eq h.tables h.linked hb hs]
      have hover : b.TakesOver s b.isolate := takesOver_of_ungained rfl rfl (.inl (isolate_busOccupant b))
      exact (h.replug (mem_of_berth? hb) hover).of_links (leaveLine_keys n _) (leaveLine_links n _)

/-- R26, R28, R29: an accepted amendment of a berth. -/
theorem WellLinked.berthAmended (h : WellLinked s) (key : Nat) (pairs : List Pair) : WellLinked (s.berthAmended key pairs) := by
  have amended := h.updBerth key (berthAmend_number pairs) fun _ _ => rfl
  have served : WellLinked ((s.updBerth key (Berth.amend pairs)).serviceTaken key pairs) := by
    unfold State.serviceTaken
    split
    · exact amended
    · split
      · exact amended.setOutOfService key
      · exact amended.updBerth key restore_number fun _ => restore_link
  unfold State.berthAmended
  dsimp only
  split
  · exact served.of_links rfl rfl
  · exact served

end

end Sys2Proof.Machine
end

section
/-! PROOFS. Every step keeps the links (O57): exchanges, owners of requests, events and POWER_ON. -/

namespace Sys2Proof.Machine

/-! ## The end of an exchange -/

section
variable {s : State}

theorem WellLinked.grantConfirm (h : WellLinked s) (n : Nat) (target : Int) (body : ConfirmBody) :
    WellLinked (s.grantConfirm n target body) := by
  have stored : WellLinked (s.endExchange.storeOutput n body.output) := h.of_links (storeOutput_keys ..) (storeOutput_links ..)
  refine (stored.updBerth n ?_ ?_).confirmPlug n _
  · exact fun b => by split <;> rfl
  · exact fun b _ => by split <;> rfl

theorem WellLinked.pollStatus (h : WellLinked s) (n : Nat) (body : StatusBody) : WellLinked (s.pollStatus n body) := by
  have stored : WellLinked (s.endExchange.storeOutput n body.output) := h.of_links (storeOutput_keys ..) (storeOutput_links ..)
  exact ((stored.takePlug n body).of_links (takePackData_keys ..) (takePackData_links ..)).of_links (berthPollEnded_keys ..)
    (berthPollEnded_links ..)

theorem WellLinked.exchangeMissed (h : WellLinked s) (e : Exchange) : WellLinked (s.exchangeMissed e) := by
  have ended : WellLinked s.endExchange := h.of_links (endExchange_keys s) (endExchange_links s)
  unfold State.exchangeMissed
  split
  · split
    · exact ended.of_links ((pollEnded_keys ..).trans (meterMissed_keys _)) ((pollEnded_links ..).trans (meterMissed_links _))
    · exact (ended.countMiss e.address).of_links (berthPollEnded_keys ..) (berthPollEnded_links ..)
  · exact (ended.updBerth e.address holdBack_number fun _ _ => rfl).countMiss e.address

theorem WellLinked.exchangeReply (h : WellLinked s) (e : Exchange) (r : Reply) : WellLinked (s.exchangeReply e r) := by
  unfold State.exchangeReply
  split
  · split
    · exact h.pollStatus ..
    · exact h.exchangeMissed e
  · split
    · exact h.of_links ((pollEnded_keys ..).trans ((takeMeter_keys ..).trans (endExchange_keys s)))
        ((pollEnded_links ..).trans ((takeMeter_links ..).trans (endExchange_links s)))
    · exact h.exchangeMissed e
  · split
    · exact h.grantConfirm ..
    · exact h.exchangeMissed e
  · exact h.exchangeMissed e
  · exact h.exchangeMissed e
  · exact h.exchangeMissed e

theorem WellLinked.exchangeVoid (h : WellLinked s) (e : Exchange) : WellLinked (s.exchangeVoid e) :=
  h.of_links (exchangeVoid_keys e s) (exchangeVoid_links e s)

theorem WellLinked.closeEvent (h : WellLinked s) (before : State) : WellLinked (s.closeEvent before) :=
  h.of_links (closeEvent_keys s before) (closeEvent_links s before)

theorem WellLinked.takeReply (h : WellLinked s) (r : Reply) : WellLinked (s.takeReply r) := by
  unfold State.takeReply
  split
  · refine WellLinked.closeEvent ?_ s
    split
    · exact h.exchangeVoid _
    · exact h.exchangeReply _ r
  · exact h

theorem WellLinked.takeMiss (h : WellLinked s) : WellLinked s.takeMiss := by
  unfold State.takeMiss
  split
  · refine WellLinked.closeEvent ?_ s
    split
    · exact h.exchangeVoid _
    · exact h.exchangeMissed _
  · exact h

/-! ## Events -/

/-- An event that is no exchange's end and no minute keeps every link as it is. -/
theorem WellLinked.event (h : WellLinked s) {c : Instr} {f : State → State} (hc : eventEffect c = some f) :
    WellLinked (f s) := by
  have quiet {t : State} (hk : t.keys = s.keys) (hl : t.links = s.links) : WellLinked (t.closeEvent s) :=
    (h.of_links hk hl).closeEvent s
  cases c <;> cases hc
  case nextExchangeChoice =>
    unfold State.takeChoice
    split
    · exact quiet (chooseNext_keys s) (chooseNext_links s)
    · exact h
  case preambleEnd => exact h.of_links (endPreamble_keys s) (endPreamble_links s)
  case poll => exact h.of_links (sendPoll_keys s) (sendPoll_links s)
  case grant => exact h.of_links (sendChosenGrant_keys s) (sendChosenGrant_links s)
  case status => exact h.takeReply _
  case meter => exact h.takeReply _
  case confirm => exact h.takeReply _
  case invalidReply chars =>
    show WellLinked (s.takeChars chars)
    unfold State.takeChars
    split
    · exact h.takeReply _
    · exact h.takeMiss
  case replyTimeout => exact h.takeMiss
  case allocationPass =>
    unfold State.takePass
    split
    · exact quiet (allocate_keys _) (allocate_links _)
    · exact h
  case holdTimerExpiry =>
    unfold State.expireHold
    split
    · exact quiet (testStarting_keys _) (testStarting_links _)
    · exact h
  case supervisionExpiry =>
    unfold State.expireSupervision
    split
    · refine quiet (selfStart_keys _) ?_
      unfold State.selfStart
      split
      · exact startRun_links _
      · rfl
    · exact h
  case minuteEvent =>
    unfold State.advanceMinute
    split
    · refine WellLinked.takeMinute ?_ s
      exact h.of_links rfl rfl
    · exact h
  case tripAssertion => exact quiet (assertTrip_keys s) (assertTrip_links s)
  case tripRelease => exact quiet (releaseTrip_keys s) (releaseTrip_links s)
  case stopAssertion => exact quiet (assertStop_keys s) (assertStop_links s)
  case stopRelease => exact quiet (releaseStop_keys s) (releaseStop_links s)
  case lineSample =>
    exact quiet ((sampleStop_keys _ _).trans (sampleTrip_keys _ s)) ((sampleStop_links _ _).trans (sampleTrip_links _ s))

/-! ## Owners of requests -/

theorem Linked.settled {post : State} (h : Linked post) (before : State) (body : State → List Byte) :
    Linked (before.settled post body).state :=
  h.of_links (closeEvent_links post before)

/-- Records changed without a change of a link, and settled. -/
theorem Linked.settled_links (h : Linked s) {post : State} (hl : post.links = s.links) (body : State → List Byte) :
    Linked (s.settled post body).state :=
  Linked.settled (h.of_links hl) s body

theorem Linked.withRecord (h : Linked s) {α : Type} {record : Option α} {answer : α → Answer}
    (ha : ∀ r, record = some r → Linked (answer r).state) : Linked (withRecord record s answer).state := by
  cases record with
  | none => exact h
  | some r => exact ha r rfl

theorem Linked.withPairs (h : Linked s) {check : Option (Status × Nat)} {answer : Answer}
    (ha : check = none → Linked answer.state) : Linked (withPairs check s answer).state := by
  cases check with
  | none => exact ha rfl
  | some failure => exact h

theorem Linked.enrolBus (h : Linked s) (key : Nat) (pairs : List Pair) : Linked (s.enrolBus key pairs).state := by
  unfold State.enrolBus
  split
  · exact h
  · split
    · exact h
    · rename_i hnew
      refine h.withPairs fun _ => ?_
      split
      · exact h
      · exact (h.insertBus (x := newBus key pairs) (Option.not_isSome_iff_eq_none.1 hnew) rfl rfl rfl).settled s _

theorem newBerth_unoccupied (number branch trench position maxImport maxExport : Nat) (correction : Int) (outOfService : Bool) :
    (newBerth number branch trench position maxImport maxExport correction outOfService).occupantFits = true
      ∧ (newBerth number branch trench position maxImport maxExport correction outOfService).busOccupant = none := by
  cases outOfService <;> exact ⟨rfl, rfl⟩

theorem Linked.enrolBerth (h : Linked s) (key : Nat) (pairs : List Pair) : Linked (s.enrolBerth key pairs).state := by
  unfold State.enrolBerth
  split
  · exact h
  · split
    · exact h
    · split
      · exact h
      · rename_i hnew
        refine h.withPairs fun _ => ?_
        obtain ⟨hfits, hocc⟩ :
            (enrolledBerth key pairs).occupantFits = true ∧ (enrolledBerth key pairs).busOccupant = none :=
          newBerth_unoccupied ..
        have := h.insertBerth (b := enrolledBerth key pairs) (Option.not_isSome_iff_eq_none.1 hnew) hocc hfits
        exact (this.of_links (requestPass_links _)).settled s _

theorem Linked.enrolTicket (h : Linked s) (key : Nat) (pairs : List Pair) : Linked (s.enrolTicket key pairs).state := by
  unfold State.enrolTicket
  split
  · exact h
  · split
    · exact h
    · split
      · exact h
      · rename_i hnew
        refine h.withPairs fun _ => ?_
        split
        · exact h
        · split
          · exact h
          · exact (h.insertTicket (x := newTicket key pairs) (Option.not_isSome_iff_eq_none.1 hnew) rfl rfl).settled s _

theorem Linked.enrolPledge (h : Linked s) (key : Nat) (pairs : List Pair) : Linked (s.enrolPledge key pairs).state := by
  unfold State.enrolPledge
  dsimp only
  split
  · exact h
  · split
    · exact h
    · split
      · exact h
      · refine h.withPairs fun _ => ?_
        split
        · exact h
        · split
          · exact h
          · split
            · exact h
            · refine h.settled_links ?_ _
              rfl

theorem Linked.amendPledge (h : Linked s) (key : Nat) (pairs : List Pair) : Linked (s.amendPledge key pairs).state := by
  refine h.withRecord fun p _ => ?_
  dsimp only
  split
  · exact h
  · refine h.withPairs fun _ => ?_
    split
    · exact h
    · split
      · exact h
      · refine h.settled_links ?_ _
        rfl

theorem Linked.amendProfile (h : Linked s) (key : Nat) (pairs : List Pair) : Linked (s.amendProfile key pairs).state := by
  unfold State.amendProfile
  dsimp only
  split
  · exact h
  · refine h.withPairs fun _ => ?_
    split
    · exact h
    · split
      · exact h
      · exact h.settled_links (profileAmended_links pairs s) _

theorem Linked.retirePledge (h : Linked s) (key : Nat) : Linked (s.retirePledge key).state := by
  refine h.withRecord fun p _ => ?_
  split
  · exact h
  · refine h.settled_links ?_ _
    rfl

theorem Linked.withdraw (h : Linked s) (key : Nat) : Linked (s.withdraw key).state := by
  refine h.withRecord fun p _ => ?_
  split
  · refine h.settled_links ?_ _
    unfold State.pledgeWithdrawn
    dsimp only
    split <;> rfl
  · exact h

theorem linked_recordsReset (s : State) : Linked s.recordsReset.state := by
  refine Linked.settled (linked_of_unoccupied rfl rfl fun r hr => ?_) s _
  obtain ⟨b, hb, rfl⟩ := List.mem_map.1 hr
  by_cases hs : b.state = .outOfService <;> simp [Berth.afterReset, Berth.occupantFits, Berth.busOccupant, hs]

theorem WellLinked.amendTicket (h : WellLinked s) (key : Nat) (pairs : List Pair) :
    Linked (s.amendTicket key pairs).state := by
  refine h.linked.withRecord fun x hx => ?_
  split
  · exact h.linked
  · refine h.linked.withPairs fun _ => h.linked.withPairs fun hv => ?_
    exact (h.ticketAmended hx hv).linked.settled s _

theorem WellLinked.amendBerth (h : WellLinked s) (key : Nat) (pairs : List Pair) : Linked (s.amendBerth key pairs).state := by
  refine h.linked.withRecord fun b _ => ?_
  split
  · exact h.linked
  · split
    · exact h.linked
    · exact h.linked.withPairs fun _ => (h.berthAmended key pairs).linked.settled s _

theorem Linked.retireBus (h : Linked s) (key : Nat) : Linked (s.retireBus key).state := by
  refine h.withRecord fun x hx => ?_
  split
  · exact h
  · rename_i hfree
    rw [not_or] at hfree
    have hberth : x.berth = none := by
      have := (h.places.attached x (mem_of_bus? hx)).not.1 hfree.1
      simpa using this
    exact (h.eraseBus hx hberth (by simpa using hfree.2)).settled s _

theorem Linked.retireBerth (h : Linked s) (key : Nat) : Linked (s.retireBerth key).state := by
  refine h.withRecord fun b hb => ?_
  split
  · exact h
  · split
    · exact h
    · rename_i hempty
      have hocc : b.busOccupant = none := by
        have hfits := h.places.fits b (mem_of_berth? hb)
        unfold Berth.occupantFits at hfits
        unfold Berth.busOccupant
        cases hs : b.state <;> simp_all
      exact ((h.eraseBerth hb hocc).of_links ((requestPass_links _).trans (leaveLine_links key _))).settled s _

/-- R151: whatever an owner answers, it keeps the links. -/
theorem WellLinked.owner (h : WellLinked s) (r : Request) : Linked (s.owner r).state := by
  have hl := h.linked
  have found (record : Option (List (Option Int))) : Linked (lookupAnswer record s).state := by cases record <;> exact hl
  cases r with
  | lookup table key =>
    cases table
    case profile =>
      show Linked (s.lookupProfile key).state
      unfold State.lookupProfile
      split
      · exact hl
      · exact found _
    all_goals exact found _
  | list table key count => cases table <;> exact hl
  | enrol table key pairs =>
    cases table
    case profile => exact hl
    case bus => exact hl.enrolBus key pairs
    case berth => exact hl.enrolBerth key pairs
    case ticket => exact hl.enrolTicket key pairs
    case pledge => exact hl.enrolPledge key pairs
  | amend table key pairs =>
    cases table
    case profile => exact hl.amendProfile key pairs
    case bus =>
      refine hl.withRecord fun x _ => hl.withPairs fun _ => ?_
      exact hl.settled_links (updBus_links key (f := Bus.amend pairs) (fun _ => rfl) s) _
    case berth => exact h.amendBerth key pairs
    case ticket => exact h.amendTicket key pairs
    case pledge => exact hl.amendPledge key pairs
  | retire table key =>
    cases table
    case profile => exact hl
    case bus => exact hl.retireBus key
    case berth => exact hl.retireBerth key
    case ticket => exact hl.withRecord fun x hx => (hl.retireTicket hx).settled s _
    case pledge => exact hl.retirePledge key
  | summary => exact hl
  | attend causes => exact Linked.of_links (s := s) rfl hl
  | control f =>
    cases f
    case runStart =>
      rcases runStart_state s with e | e <;> rw [Machine.State.owner, e]
      · exact hl
      · exact hl.of_links ((closeEvent_links _ s).trans (startRun_links s))
    case runStop => exact hl.settled_links (stopRun_links s) _
    case pause => exact hl.settled_links (setSources_links _ _ s) _
    case resume => exact hl.settled_links (setSources_links _ _ s) _
    case allStop => exact hl.settled_links (allStop_links s) _
    case clearStop => exact hl.settled_links (clearStop_links s) _
    case ackTrip => exact hl.settled_links (ackTrip_links s) _
    case withdraw key => exact hl.withdraw key
    case setClock pairs =>
      rcases setClock_state pairs s with e | e <;> rw [Machine.State.owner, e]
      · exact hl
      · have taken : WellLinked (s.clockTaken pairs) := h.of_links rfl rfl
        exact (taken.takeMinute s).linked
    case saveProfile => exact hl
    case recordsReset => exact linked_recordsReset s

end

/-! ## POWER_ON (R163) -/

/-- R163: the berths of an image have no occupant. -/
theorem readBerths_unoccupied (vs : List Int) (bs : List Berth) (h : readBerths vs = some bs) :
    ∀ b ∈ bs, b.occupantFits = true ∧ b.busOccupant = none := by
  induction vs using readBerths.induct generalizing bs with
  | case1 => cases h; simp
  | case2 n b t q mi me c o rest hfit ih =>
    rw [readBerths, if_pos hfit, Option.map_eq_some_iff] at h
    obtain ⟨cs, hcs, rfl⟩ := h
    intro b' hb'
    rcases List.mem_cons.1 hb' with rfl | hb'
    · exact newBerth_unoccupied ..
    · exact ih cs hcs b' hb'
  | case3 n b t q mi me c o rest hfit =>
    rw [readBerths, if_neg hfit] at h
    cases h
  | case4 vs h0 h8 => rw [readBerths] at h <;> simp_all

theorem loadImage_unoccupied {image : List Byte} {p : Profile} {bs : List Berth} (h : loadImage image = some (p, bs)) :
    ∀ b ∈ bs, b.occupantFits = true ∧ b.busOccupant = none := by
  unfold loadImage at h
  dsimp only at h
  split at h
  · obtain ⟨vs, _, h⟩ := Option.bind_eq_some_iff.1 h
    split at h
    · cases h
    · obtain ⟨q, _, h⟩ := Option.bind_eq_some_iff.1 h
      obtain ⟨cs, hcs, h⟩ := Option.bind_eq_some_iff.1 h
      split at h
      · cases h
      · cases h
        exact fun b hb => readBerths_unoccupied _ cs hcs b ((sortBy_perm _ cs).mem_iff.1 hb)
  · cases h

theorem linked_powerOn (s : State) : Linked s.powerOn := by
  unfold State.powerOn
  dsimp only
  split
  · rename_i p bs himage
    exact linked_of_unoccupied rfl rfl (loadImage_unoccupied himage)
  · exact linked_of_unoccupied rfl rfl (by simp [State.afterPowerOn])

/-! ## Every step keeps the links -/

theorem wellLinked_kept : Kept WellLinked where
  records h hs := hs.of_links h.keys h.links
  owner s r hs := ⟨owner_tablesOk s r hs.tables, hs.owner r⟩
  event hc _ hs := hs.event hc
  powerOn s _ := ⟨tablesOk_powerOn s, linked_powerOn s⟩
  second s hs := hs.of_links (countSecond_keys s) rfl

/-- Settles O57: both links are lookups that agree from both ends; nearly every operation keeps what the records show of them,
and the plug table, the ticket table and the removals keep their agreement. -/
theorem stepKeepsLinks : Obligations.StepKeepsLinks := fun _ _ ht hp hx h =>
  (wellLinked_iff.1 (wellLinked_kept.step h (wellLinked_iff.2 ⟨ht, hp, hx⟩))).2

end Sys2Proof.Machine
end

section
/-! PROOFS. AMEND of a berth (R26, R28, R29): the owner's answer branch by branch, and the record that it leaves (O23). -/

namespace Sys2Proof.Machine

/-! ## What the out-of-service setting does not read -/

/-- The state with another depot link, supervision timer and allocator. -/
def State.withOthers (d : DepotLink) (v : Supervision) (a : Allocator) (s : State) : State :=
  { s with depot := d, supervision := v, alloc := a }

section
variable (d : DepotLink) (v : Supervision) (a : Allocator) (n : Nat) (s : State)

theorem detachOccupant_withOthers : (s.withOthers d v a).detachOccupant n = (s.detachOccupant n).withOthers d v a := by
  unfold State.detachOccupant
  rw [show (s.withOthers d v a).berth? n = s.berth? n from rfl]
  cases (s.berth? n).bind Berth.busOccupant with
  | none => rfl
  | some k =>
    dsimp only
    rw [detachBus_eq, detachBus_eq]
    rfl

/-- R28: the setting reads and changes nothing of the depot link, the supervision timer and the allocator. -/
theorem setOutOfService_withOthers : (s.withOthers d v a).setOutOfService n = (s.setOutOfService n).withOthers d v a := by
  unfold State.setOutOfService
  rw [detachOccupant_withOthers, show (s.withOthers d v a).berth? n = s.berth? n from rfl]
  cases s.berth? n with
  | none => rfl
  | some b =>
    dsimp only
    split <;> rfl

theorem setOutOfService_others :
    (s.setOutOfService n).depot = s.depot ∧ (s.setOutOfService n).supervision = s.supervision
      ∧ (s.setOutOfService n).alloc = s.alloc := by
  have h : s.setOutOfService n = (s.setOutOfService n).withOthers s.depot s.supervision s.alloc :=
    setOutOfService_withOthers s.depot s.supervision s.alloc n s
  rw [h]
  exact ⟨rfl, rfl, rfl⟩

end

/-! ## The record written -/

section
variable (key : Nat) (pairs : List Pair) (s : State)

/-- R26: the topology fields written, and a pass raised when one is carried. -/
def State.topologyWritten : State :=
  { s with
    berths := s.berths.map fun x => if x.number = key then x.amend pairs else x
    alloc := { s.alloc with passRequested := s.alloc.passRequested || carriesTopology pairs } }

/-- R26, R28, R29: an accepted amendment is the written record with the setting taken on it. -/
theorem berthAmended_eq :
    s.berthAmended key pairs = (s.topologyWritten key pairs).serviceTaken key pairs := by
  have hraised : s.topologyWritten key pairs =
      (s.updBerth key (Berth.amend pairs)).withOthers s.depot s.supervision
        { s.alloc with passRequested := s.alloc.passRequested || carriesTopology pairs } := by
    unfold State.topologyWritten State.updBerth
    rw [updateKey_eq_map]
    rfl
  have hserved : (s.topologyWritten key pairs).serviceTaken key pairs =
      ((s.updBerth key (Berth.amend pairs)).serviceTaken key pairs).withOthers s.depot s.supervision
        { s.alloc with passRequested := s.alloc.passRequested || carriesTopology pairs } := by
    rw [hraised]
    unfold State.serviceTaken
    cases carriedFor pairs 8 with
    | none => rfl
    | some v =>
      dsimp only
      split
      · exact setOutOfService_withOthers ..
      · rfl
  have hsame : ((s.updBerth key (Berth.amend pairs)).serviceTaken key pairs).depot = s.depot
      ∧ ((s.updBerth key (Berth.amend pairs)).serviceTaken key pairs).supervision = s.supervision
      ∧ ((s.updBerth key (Berth.amend pairs)).serviceTaken key pairs).alloc = s.alloc := by
    unfold State.serviceTaken
    cases carriedFor pairs 8 with
    | none => exact ⟨rfl, rfl, rfl⟩
    | some v =>
      dsimp only
      split
      · exact setOutOfService_others key (s.updBerth key (Berth.amend pairs))
      · exact ⟨rfl, rfl, rfl⟩
  obtain ⟨hd, hv, ha⟩ := hsame
  rw [hserved]
  unfold State.berthAmended State.requestPass State.withOthers
  rw [← hd, ← hv, ← ha]
  cases carriesTopology pairs with
  | false => simp
  | true => simp

theorem serviceTaken_none (hc : carriedFor pairs 8 = none) : s.serviceTaken key pairs = s := by
  unfold State.serviceTaken
  rw [hc]

theorem serviceTaken_set (hc : carriedFor pairs 8 = some 1) : s.serviceTaken key pairs = s.setOutOfService key := by
  unfold State.serviceTaken
  rw [hc]
  exact if_pos rfl

/-- R29: the berths once the setting of one has been set to no. -/
theorem serviceTaken_clear (hc : carriedFor pairs 8 = some 0) :
    s.serviceTaken key pairs =
      { s with
        berths := s.berths.map fun x =>
          if x.number = key ∧ x.state = .outOfService then
            { x with
              outOfService := false, state := .vacant, occupant := none, foreignReason := none, faultCause := none
              dispenserCode := none }
          else x } := by
  unfold State.serviceTaken
  rw [hc]
  refine (if_neg (by decide)).trans ?_
  unfold State.updBerth
  rw [updateKey_eq_map]
  congr 1
  refine List.map_congr_left fun x _ => ?_
  unfold Berth.restore
  by_cases hn : x.number = key
  · by_cases hs : x.state = .outOfService <;> simp [hn, hs, Berth.settle]
  · simp [hn]

theorem carriesTopology_iff : carriesTopology pairs = true ↔ ∃ i ∈ [2, 3, 4, 5, 6, 7], (carriedFor pairs i).isSome :=
  List.any_eq_true

end

/-! ## The owner's answer -/

section
variable {key : Nat} {pairs : List Pair} {s : State} {b : Berth}

theorem amendBerth_notFound (hb : s.berth? key = none) : s.amendBerth key pairs = refuse .notFound 0 s := by
  unfold State.amendBerth
  rw [hb, withRecord_none]

theorem amendBerth_running (hb : s.berth? key = some b) (htop : carriesTopology pairs = true) (hr : s.run.state ≠ .idle) :
    s.amendBerth key pairs = refuse .busy 0 s := by
  unfold State.amendBerth
  rw [hb, withRecord_some]
  exact if_pos ⟨htop, hr⟩

theorem amendBerth_busyBranch (hb : s.berth? key = some b) (hc : carries pairs 2 = true) (hi : b.countedImport ≠ 0) :
    s.amendBerth key pairs = refuse .busy 0 s := by
  unfold State.amendBerth
  rw [hb, withRecord_some]
  split
  · rfl
  · exact if_pos ⟨hc, hi⟩

variable (hb : s.berth? key = some b) (hr : carriesTopology pairs = true → s.run.state = .idle)
  (hi : carries pairs 2 = true → b.countedImport = 0)
include hb hr hi

theorem amendBerth_free :
    s.amendBerth key pairs = withPairs (checkPairs 19 berthFieldFits [] [] pairs) s
      (s.settled (s.berthAmended key pairs) fun t => recordBody (t.berthValues key)) := by
  unfold State.amendBerth
  rw [hb, withRecord_some, if_neg fun h => h.2 (hr h.1), if_neg fun h => h.2 (hi h.1)]

theorem amendBerth_badPairs {st : Status} {f : Nat} (hc : checkPairs 19 berthFieldFits [] [] pairs = some (st, f)) :
    s.amendBerth key pairs = refuse st f s := by
  rw [amendBerth_free hb hr hi, hc, withPairs_some]

theorem amendBerth_settled (hc : checkPairs 19 berthFieldFits [] [] pairs = none) :
    s.amendBerth key pairs = s.settled ((s.topologyWritten key pairs).serviceTaken key pairs) fun t =>
      recordBody (t.berthValues key) := by
  rw [amendBerth_free hb hr hi, hc, withPairs_none, berthAmended_eq]

end

/-! ## The row -/

section
variable {key : Half} {pairs : List Pair} {s : State}

/-- The setting taken on the records with which a request reaches its owner. -/
theorem serviceTaken_begun :
    (s.begun.topologyWritten key.toNat pairs).serviceTaken key.toNat pairs =
      ((s.topologyWritten key.toNat pairs).serviceTaken key.toNat pairs).withOthers s.begun.depot s.restarted
        (s.topologyWritten key.toNat pairs).alloc := by
  have hbegun : s.begun.topologyWritten key.toNat pairs =
      (s.topologyWritten key.toNat pairs).withOthers s.begun.depot s.restarted (s.topologyWritten key.toNat pairs).alloc := rfl
  rw [hbegun]
  unfold State.serviceTaken
  cases carriedFor pairs 8 with
  | none => rfl
  | some v =>
    dsimp only
    split
    · exact setOutOfService_withOthers ..
    · rfl

theorem serviceTaken_alloc :
    ((s.topologyWritten key.toNat pairs).serviceTaken key.toNat pairs).alloc = (s.topologyWritten key.toNat pairs).alloc := by
  unfold State.serviceTaken
  cases carriedFor pairs 8 with
  | none => rfl
  | some v =>
    dsimp only
    split
    · exact (setOutOfService_others ..).2.2
    · rfl

/-- An AMEND of a berth that passes its checks is answered DONE. -/
theorem exec_amendBerth_done {b : Berth} (ht : s.takesRequests) (hmin : 1 ≤ pairs.length) (hlen : pairs.length ≤ 24)
    (hb : s.berth? key.toNat = some b) (hr : carriesTopology pairs = true → s.run.state = .idle)
    (hi : carries pairs 2 = true → b.countedImport = 0) (hc : checkPairs 19 berthFieldFits [] [] pairs = none) :
    ∃ t, exec (.amendBerth key pairs) s = .next t
      ∧ AnsweredDone s (headOf 4#8 2#8 key) (5 * pairs.length)
          ((s.topologyWritten key.toNat pairs).serviceTaken key.toNat pairs)
          (fun u => recordBody (u.berthValues key.toNat)) t := by
  have hrow : asRequest (.amendBerth key pairs) = some (headOf 4#8 2#8 key, .amend .berth key.toNat pairs) := rfl
  have hn : (Request.amend .berth key.toNat pairs).body.length = 5 * pairs.length := length_pairBytes pairs
  have hform : (Request.amend .berth key.toNat pairs).formOk = true := by simpa [Request.formOk] using ⟨hmin, hlen⟩
  have ho := amendBerth_settled (s := s.begun) hb hr hi hc
  rw [serviceTaken_begun] at ho
  obtain ⟨t, hexec, hdone⟩ := exec_answered hrow ht hn (by omega) hform (by simp) ho rfl rfl fun _ _ => rfl
  refine ⟨t, hexec, ?_⟩
  unfold AnsweredDone State.withOthers at hdone
  rw [← serviceTaken_alloc] at hdone
  exact hdone

/-- An AMEND of a berth that its owner refuses. -/
theorem exec_amendBerth_refused (ht : s.takesRequests) (hmin : 1 ≤ pairs.length) (hlen : pairs.length ≤ 24) {st : Status}
    {f : Nat} (ho : s.begun.amendBerth key.toNat pairs = refuse st f s.begun) :
    exec (.amendBerth key pairs) s = .next (s.replied (headOf 4#8 2#8 key) (5 * pairs.length) st f []) := by
  have hrow : asRequest (.amendBerth key pairs) = some (headOf 4#8 2#8 key, .amend .berth key.toNat pairs) := rfl
  have hn : (Request.amend .berth key.toNat pairs).body.length = 5 * pairs.length := length_pairBytes pairs
  have hform : (Request.amend .berth key.toNat pairs).formOk = true := by simpa [Request.formOk] using ⟨hmin, hlen⟩
  exact exec_replied hrow ht hn (by omega) hform (by simp) ho

end

/-- Settles O23: the owner's answer branch by branch; an accepted amendment is the written record with the setting taken on
it. -/
theorem amendBerthWritesTopology : Obligations.AmendBerthWritesTopology := by
  intro key pairs s ht hmin hlen h n check topology refused done written
  have htop : carriesTopology pairs = true ↔ topology := carriesTopology_iff pairs
  refine ⟨fun hb => exec_amendBerth_refused ht hmin hlen (amendBerth_notFound (s := s.begun) hb),
    fun b hb => ⟨fun hc hr => ?_, fun hc hi => ?_, fun hr hi => ?_, htop⟩⟩
  · exact exec_amendBerth_refused ht hmin hlen (amendBerth_running (s := s.begun) hb (htop.2 hc) hr)
  · exact exec_amendBerth_refused ht hmin hlen (amendBerth_busyBranch (s := s.begun) hb hc hi)
  · have hr' : carriesTopology pairs = true → s.run.state = .idle := fun hc => hr (htop.1 hc)
    refine ⟨fun st f hc => ?_, fun hc => ?_⟩
    · exact exec_amendBerth_refused ht hmin hlen (amendBerth_badPairs (s := s.begun) hb hr' hi hc)
    · obtain ⟨t, hexec, hdone⟩ := exec_amendBerth_done ht hmin hlen hb hr' hi hc
      refine ⟨fun h8 => ⟨t, hexec, ?_⟩, fun h8 => ⟨t, hexec, ?_⟩, fun h8 => ⟨t, hexec, ?_⟩⟩
      · rwa [serviceTaken_none _ _ _ h8] at hdone
      · rwa [serviceTaken_clear _ _ _ h8] at hdone
      · rwa [serviceTaken_set _ _ _ h8] at hdone

end Sys2Proof.Machine
end

section
/-! PROOFS. What the end of an event leaves of records that its owners have changed in their places (R17, R20, R40, R80, R93,
R108 to R110), and what it hands on. -/

namespace Sys2Proof.Machine

/-! ## Attention flags -/

theorem hasCause_or (u v : BitVec 14) (n : Nat) : hasCause (u ||| v) n = (hasCause u n || hasCause v n) := by
  simp [hasCause]

theorem hasCause_causeBit (c d : Cause) : hasCause (causeBit c.number) d.number = decide (d = c) := by
  cases c <;> cases d <;> decide

/-- A raise made under a condition sets the flag of its cause alone. -/
theorem hasCause_raised (raised : Bool) (u : BitVec 14) (c d : Cause) :
    hasCause (if raised then u ||| causeBit c.number else u) d.number =
      (hasCause u d.number || (raised && decide (d = c))) := by
  cases raised
  · simp
  · rw [if_pos rfl, hasCause_or, hasCause_causeBit, Bool.true_and]

/-! ## Targets -/

@[simp] theorem setTarget_self (f : Bool) (b : Berth) : b.setTarget f b.wanted b.decided = b := by simp [Berth.setTarget]

@[simp] theorem withdrawn_busOccupant (s : State) (b : Berth) : (s.withdrawn b).busOccupant = b.busOccupant := by
  unfold State.withdrawn
  split <;> rfl

/-- R93: a berth as the end of an event leaves it is the berth with its targets set. -/
theorem withdrawn_eq_setTarget (s : State) (b : Berth) :
    s.withdrawn b = b.setTarget (s.grantInFlight b.number) (s.withdrawn b).wanted (s.withdrawn b).decided := by
  unfold State.withdrawn
  split
  · rfl
  · exact (setTarget_self _ b).symm

/-! ## Records changed in their places -/

/-- The owners of an event have changed the buses and the berths in their places, and no demand and no eligibility yet. -/
structure ChangedInPlace (s post : State) (g : Bus → Bus) (f : Berth → Berth) : Prop where
  buses : post.buses = s.buses.map g
  berths : post.berths = s.berths.map f
  fleet : ∀ x, (g x).fleet = x.fleet
  demand : ∀ x, (g x).demandView = x.demandView
  number : ∀ b, (f b).number = b.number

section
variable {s post t : State}

/-- R14 to R19: the records that the end of an event leaves derive what the owners' records derive. -/
theorem Settles.deriveBus (hs : Settles s post t) : t.deriveBus = post.deriveBus := by
  obtain ⟨⟨_, _, _, _, hclock, _, _, _, hprofile, _⟩, _, hberths, htickets, _⟩ := hs
  funext x
  refine deriveBus_of_views ?_ ?_ ?_ hprofile x
  · rw [htickets, map_view_map (gradeTicket_terms t)]
  · rw [hberths, map_view_map (withdrawn_limits post)]
  · unfold State.now
    rw [hclock]

/-- R108: which flags the end of an event sets. -/
theorem Settles.hasCause (hs : Settles s post t) {c : Cause} (hc : c ≠ .ticketAtRisk) :
    hasCause t.attention.flags c.number = hasCause post.attention.flags c.number := by
  obtain ⟨_, _, _, _, _, _, _, ⟨hflags, _⟩, _⟩ := hs
  rw [hflags]
  split
  · rfl
  · rw [hasCause_or, hasCause_causeBit, decide_eq_false hc, Bool.or_false]

section
variable {g : Bus → Bus} {f : Berth → Berth} (hs : Settles s post t) (hc : ChangedInPlace s post g f)
include hs hc

theorem ChangedInPlace.settled_buses : t.buses = s.buses.map fun x => t.deriveBus (g x) := by
  obtain ⟨_, hbuses, _⟩ := id hs
  rw [hbuses, hc.buses, List.map_map, hs.deriveBus]
  rfl

theorem ChangedInPlace.settled_bus? (k : Nat) : t.bus? k = (s.bus? k).map fun x => t.deriveBus (g x) := by
  unfold State.bus?
  rw [hc.settled_buses hs]
  exact findKey_map k _ (fun x => (deriveBus_fleet t _).trans (hc.fleet x)) s.buses

theorem ChangedInPlace.settled_berths : t.berths = s.berths.map fun r => post.withdrawn (f r) := by
  obtain ⟨_, _, hberths, _⟩ := hs
  rw [hberths, hc.berths, List.map_map]
  rfl

theorem ChangedInPlace.settled_berth? (n : Nat) : t.berth? n = (s.berth? n).map fun r => post.withdrawn (f r) := by
  unfold State.berth?
  rw [hc.settled_berths hs]
  exact findKey_map n _ (fun r => (withdrawn_number post _).trans (hc.number r)) s.berths

theorem ChangedInPlace.settled_numbers : t.berths.map Berth.number = s.berths.map Berth.number := by
  rw [hc.settled_berths hs]
  exact map_view_map (fun r => (withdrawn_number post _).trans (hc.number r)) s.berths

/-- R40: a berth of another state raises a pass. -/
theorem ChangedInPlace.raisesPass_of_state {b : Berth} (hb : b ∈ s.berths) (hstate : (f b).state ≠ b.state) :
    s.raisesPass t := by
  refine .inr (.inr (.inl ⟨(b, post.withdrawn (f b)), ?_, .inl ?_⟩))
  · rw [hc.settled_berths hs, List.zip_map_right, List.mem_map]
    refine ⟨(b, b), ?_, rfl⟩
    have := List.mem_map_of_mem (f := fun r => (r, r)) hb
    rwa [← List.zip_map', List.map_id'] at this
  · have : (post.withdrawn (f b)).state = (f b).state := congrArg (fun l => l.2.1) (withdrawn_limits post (f b))
    rw [this]
    exact hstate

variable (ht : s.tablesOk = true)
include ht

/-- R17: a demand or an eligibility that changes raises a pass. -/
theorem ChangedInPlace.raisesPass_of_demand (h : post.demandChanged = true) : s.raisesPass t := by
  obtain ⟨y, hy, hview⟩ := List.any_eq_true.1 h
  rw [hc.buses] at hy
  obtain ⟨x, hx, rfl⟩ := List.mem_map.1 hy
  refine .inl ⟨t.deriveBus (g x), ?_, x, ?_, ?_⟩
  · rw [hc.settled_buses hs]
    exact List.mem_map_of_mem hx
  · rw [deriveBus_fleet, hc.fleet]
    exact bus?_of_mem ht hx
  · rw [bne_iff_ne, ← hs.deriveBus, hc.demand] at hview
    refine (busPassView_ne_iff x (t.deriveBus (g x))).1 fun h => hview ?_
    exact congrArg Prod.fst h

/-- R20, R93: the loss of eligibility that withdraws a berth's negative target. -/
theorem ChangedInPlace.losesExport_iff {r r' : Berth} (hn : r'.number = r.number) (ho : r'.busOccupant = r.busOccupant) :
    post.losesExport r = true ↔ s.eligibilityLost t r' := by
  have eligible (x : Bus) : (g x).exportEligible = x.exportEligible := congrArg (fun v => v.2.2) (hc.demand x)
  have lost (x : Bus) (n : Nat) : post.lostExport (g x) = some (n, (g x).fleet) ↔
      x.exportEligible = true ∧ (t.deriveBus (g x)).exportEligible = false ∧ (g x).berth = some n := by
    unfold State.lostExport
    rw [eligible, ← hs.deriveBus]
    cases x.exportEligible <;> cases (t.deriveBus (g x)).exportEligible <;> simp
  unfold State.losesExport State.eligibilityLost
  rw [List.any_eq_true, hc.buses, hn, ho]
  constructor
  · rintro ⟨y, hy, h⟩
    obtain ⟨x, hx, rfl⟩ := List.mem_map.1 hy
    rw [Bool.and_eq_true, beq_iff_eq, beq_iff_eq, lost] at h
    obtain ⟨⟨he, he', hb⟩, hocc⟩ := h
    refine ⟨x, hx, he, t.deriveBus (g x), ?_, ?_, he', hb, hocc⟩
    · rw [hc.settled_buses hs]
      exact List.mem_map_of_mem hx
    · rw [deriveBus_fleet, hc.fleet]
  · rintro ⟨x, hx, he, y, hy, hfleet, he', hb, hocc⟩
    rw [hc.settled_buses hs] at hy
    obtain ⟨z, hz, rfl⟩ := List.mem_map.1 hy
    rw [deriveBus_fleet, hc.fleet] at hfleet
    obtain rfl : z = x := key_injOn_of_keysRising ((tablesOk_iff s).1 ht).1.1 hz hx hfleet
    refine ⟨g z, List.mem_map_of_mem hz, ?_⟩
    rw [Bool.and_eq_true, beq_iff_eq, beq_iff_eq, lost]
    exact ⟨⟨he, he', hb⟩, hocc⟩

/-- R93: a berth whose owner has left its targets keeps them, but for a withdrawal (R20). -/
theorem ChangedInPlace.keepsTargets {r p : Berth} (hw : p.wanted = r.wanted) (hd : p.decided = r.decided) :
    s.keepsTargets t r (post.withdrawn p) := by
  have hiff := hc.losesExport_iff hs ht (withdrawn_number post p) (withdrawn_busOccupant post p)
  unfold State.keepsTargets
  rw [← hiff, ← hd, ← hw]
  unfold State.withdrawn
  constructor
  · intro hneg hlost
    rw [if_pos ⟨hneg, hlost⟩]
    exact ⟨rfl, rfl⟩
  · intro hnot
    rw [if_neg hnot]
    exact ⟨rfl, rfl⟩

end

/-! ## What the end of an event hands on -/

section
variable {lost : Option Nat} (hs : Settles s post t) (hx : post.tickets = s.tickets.map (s.ticketReleased lost))
include hs hx

omit hs hx in
theorem gradeTicket_ticketReleased (x : Ticket) : t.gradeTicket (s.ticketReleased lost x) = s.ticketUnplugged t lost x := by
  unfold State.ticketReleased State.ticketUnplugged
  split
  · rfl
  · rfl

theorem tickets_unplugged : t.tickets = s.tickets.map (s.ticketUnplugged t lost) := by
  obtain ⟨_, _, _, htickets, _⟩ := hs
  rw [htickets, hx, List.map_map]
  exact List.map_congr_left fun x _ => gradeTicket_ticketReleased x

omit hs in
/-- R108: the tickets that the end of the event leaves AT_RISK and that were not so before it. -/
theorem newRisk_unplugged : post.newRisk t =
    (s.tickets.filter fun x => x.grade != some .atRisk && (s.ticketUnplugged t lost x).grade == some .atRisk).map
      Ticket.id := by
  have graded (x : Ticket) : ({ t with tickets := post.tickets } : State).gradeTicket x = t.gradeTicket x :=
    gradeTicket_congr rfl rfl rfl x
  unfold State.newRisk State.newlyAtRisk
  simp only [graded]
  rw [hx, List.filter_map, List.map_map]
  have hid : Ticket.id ∘ s.ticketReleased lost = Ticket.id := funext (ticketReleased_id s lost)
  rw [hid]
  refine congrArg (List.map Ticket.id) (List.filter_congr fun x _ => ?_)
  simp only [Function.comp, gradeTicket_ticketReleased]
  by_cases hrel : s.releasedBy lost x = true
  · have h1 : s.ticketReleased lost x = { x.leave .released with
        readyAtRelease := some (((x.bus.bind s.bus?).bind Bus.held).any fun held => decide (x.need ≤ held)) } := if_pos hrel
    have h2 : s.ticketUnplugged t lost x = { x.leave .released with
        readyAtRelease := some (((x.bus.bind s.bus?).bind Bus.held).any fun held => decide (x.need ≤ held)) } := if_pos hrel
    rw [h1, h2]
    simp [Ticket.leave]
  · have h1 : s.ticketReleased lost x = x := if_neg hrel
    have h2 : s.ticketUnplugged t lost x = t.gradeTicket x := if_neg hrel
    rw [h1, h2]
    by_cases ha : x.isAssigned = true
    · have : (t.gradeTicket x).isAssigned = true := by
        have hstate : (t.gradeTicket x).state = x.state := congrArg (fun l => l.2.2) (gradeTicket_link t x)
        unfold Ticket.isAssigned
        rw [hstate]
        exact ha
      rw [this, Bool.and_true]
    · have : t.gradeTicket x = x := by simp only [State.gradeTicket, if_neg ha]
      rw [this]
      cases h : x.grade == some .atRisk <;> simp [bne, h]

theorem handsOn_of_settles (hreserve : post.reserve = s.reserve)
    (hflag : hasCause post.attention.flags Cause.ticketAtRisk.number = hasCause s.attention.flags Cause.ticketAtRisk.number)
    (hpass : s.tablesOk = true → post.alloc.passRequested = true ∨ post.demandChanged = true →
      s.alloc.passRequested = true ∨ s.raisesPass t ∨ t.run.state ≠ s.run.state ∨ t.grid.sag ≠ s.grid.sag) :
    s.handsOn t (s.ticketUnplugged t lost) := by
  obtain ⟨_, _, _, _, hyields, hcommitments, hceilings, ⟨hflags, _⟩, _⟩ := id hs
  refine ⟨tickets_unplugged hs hx, ?_, ?_, hcommitments, hceilings, hs.requests_pass, fun htables hreq => ?_⟩
  · rw [hflags, newRisk_unplugged hx, ← hflag, List.isEmpty_map]
    cases hany : s.tickets.any fun x => x.grade != some .atRisk && (s.ticketUnplugged t lost x).grade == some .atRisk with
    | false =>
      have : (s.tickets.filter fun x => x.grade != some .atRisk
          && (s.ticketUnplugged t lost x).grade == some .atRisk) = [] := by
        simpa [List.filter_eq_nil_iff] using hany
      rw [this, Bool.or_false]
      rfl
    | true =>
      have : (s.tickets.filter fun x => x.grade != some .atRisk
          && (s.ticketUnplugged t lost x).grade == some .atRisk).isEmpty = false := by
        rw [Bool.eq_false_iff]
        intro h
        rw [List.isEmpty_iff, List.filter_eq_nil_iff] at h
        obtain ⟨x, hx, hp⟩ := List.any_eq_true.1 hany
        exact h x hx hp
      rw [this, if_neg Bool.false_ne_true, hasCause_or, hasCause_causeBit, Bool.or_true, decide_eq_true rfl, Bool.or_true]
  · unfold State.yieldsSettled at hyields
    rw [newRisk_unplugged hx, hreserve] at hyields
    exact hyields
  · rcases hs.pass_requested_iff.1 hreq with h | h | h
    · exact hpass htables (.inl h)
    · exact hpass htables (.inr h)
    · exact .inr (.inl h)

end

end

end Sys2Proof.Machine
end

section
/-! PROOFS. The out-of-service setting alone in an AMEND (R28, R29; O24). -/

namespace Sys2Proof.Machine

/-! ## The records that the setting leaves -/

/-- R7, R28: a bus once berth `b` is OUT_OF_SERVICE, in any state of the records. -/
def State.busIsolated (s : State) (b : Berth) (x : Bus) : Bus :=
  { (if b.busOccupant = some x.fleet then x.detach else x) with
    ticket := if (b.busOccupant.bind s.leavingTicket).any fun y => y.bus == some x.fleet then none else x.ticket }

/-- R28: the berth of number `n` is OUT_OF_SERVICE. -/
def Berth.isolatedAt (n : Nat) (r : Berth) : Berth := if r.number = n then r.isolate else r

@[simp] theorem isolatedAt_number (n : Nat) (r : Berth) : (r.isolatedAt n).number = r.number := by
  unfold Berth.isolatedAt
  split <;> rfl

section
variable {s : State} {n : Nat} {b : Berth} (hb : s.berth? n = some b)
include hb

theorem detachOccupant_records :
    ∃ tickets, s.detachOccupant n =
      { s with
        buses := s.buses.map (s.busIsolated b)
        berths := s.berths.map fun r =>
          if r.number = n ∧ b.busOccupant.isSome = true then { r with occupant := none } else r
        tickets := tickets } := by
  unfold State.detachOccupant
  rw [hb, Option.bind_some]
  cases hk : b.busOccupant with
  | none =>
    have hsame : s.buses.map (s.busIsolated b) = s.buses := by
      refine (List.map_congr_left fun x _ => ?_).trans (List.map_id' _)
      unfold State.busIsolated
      rw [hk]
      rfl
    exact ⟨s.tickets, by simp [hsame]⟩
  | some k =>
    refine ⟨((s.updBerth n fun b => { b with occupant := none }).detachBus k).tickets, ?_⟩
    dsimp only
    rw [detachBus_eq]
    unfold State.updBerth
    rw [updateKey_eq_map]
    congr 1
    · refine List.map_congr_left fun x _ => ?_
      unfold State.busIsolated
      rw [hk]
      by_cases hx : x.fleet = k
      · simp only [hx]
        rfl
      · have hx' : ¬ k = x.fleet := fun e => hx e.symm
        simp only [hx, Option.some_inj, hx']
        rfl
    · exact List.map_congr_left fun r _ => by simp

variable (hs : b.state ≠ .outOfService)
include hs

theorem setOutOfService_of_ne :
    s.setOutOfService n = ((s.detachOccupant n).updBerth n Berth.isolate).leaveLine n := by
  unfold State.setOutOfService
  rw [hb]
  exact if_neg hs

/-- R28: what the setting leaves, in any state of the records. -/
theorem setOutOfService_records :
    ∃ tickets, s.setOutOfService n =
      { s with
        buses := s.buses.map (s.busIsolated b)
        berths := s.berths.map (Berth.isolatedAt n)
        tickets := tickets
        line := (s.leaveLine n).line } := by
  obtain ⟨tickets, h⟩ := detachOccupant_records hb
  refine ⟨tickets, ?_⟩
  rw [setOutOfService_of_ne hb hs, h]
  unfold State.updBerth State.leaveLine
  rw [updateKey_eq_map, List.map_map]
  congr 1
  refine List.map_congr_left fun r _ => ?_
  unfold Berth.isolatedAt
  simp only [Function.comp]
  by_cases hr : r.number = n
  · by_cases ho : b.busOccupant.isSome = true <;> simp [hr, ho, Berth.isolate, Berth.settle]
  · simp [hr]

/-- R7, R28, R110: where tickets and buses name each other, the setting is an unplug of the occupant. -/
theorem setOutOfService_linked (ht : s.tablesOk = true) (hl : TicketsLinked s) :
    (s.setOutOfService n).tickets = s.tickets.map (s.ticketReleased b.busOccupant)
      ∧ (s.setOutOfService n).buses =
          s.buses.map fun x => if b.busOccupant = some x.fleet then s.busUnplugged x else x := by
  rw [setOutOfService_of_ne hb hs]
  show (s.detachOccupant n).tickets = _ ∧ (s.detachOccupant n).buses = _
  cases hk : b.busOccupant with
  | none =>
    rw [detachOccupant_of_none hb hk]
    refine ⟨(List.map_congr_left fun x _ => ticketReleased_none s x).trans (List.map_id' _) |>.symm, ?_⟩
    simp
  | some k =>
    have hlost : b.lostTo b.unoccupied = some k := by
      unfold Berth.lostTo
      rw [unoccupied_busOccupant, hk]
      exact if_neg (by simp)
    rw [detachOccupant_eq ht hl hb hk]
    refine ⟨by rw [← hlost]; rfl, List.map_congr_left fun x _ => ?_⟩
    unfold State.busReplugged
    rw [unoccupied_busOccupant, hk]
    simp

end

/-! ## The row -/

/-- A void mark is not read by R54. -/
theorem grantInFlight_leaveLine (n m : Nat) (s : State) : (s.leaveLine n).grantInFlight m = s.grantInFlight m := by
  unfold State.grantInFlight State.leaveLine
  cases s.line.exchange with
  | none => rfl
  | some e =>
    obtain ⟨address, kind, void⟩ := e
    rw [Option.map_some]
    by_cases h : address = n
    · rw [if_pos h]
      cases kind <;> rfl
    · rw [if_neg h]

/-- An amendment that carries the setting alone writes no topology. -/
theorem topologyWritten_setting (key : Nat) (v : BitVec 32) (s : State) :
    s.topologyWritten key [{ ident := 8#8, value := v }] = s := by
  have amended (x : Berth) : x.amend [{ ident := 8#8, value := v }] = x := rfl
  have carried : carriesTopology [{ ident := 8#8, value := v }] = false := rfl
  unfold State.topologyWritten
  rw [carried]
  simp only [amended, ite_self, List.map_id', Bool.or_false]

/-- An AMEND that carries the setting alone is answered DONE in every run state. -/
theorem exec_setting {key : Half} {s : State} {b : Berth} (ht : s.takesRequests) (hb : s.berth? key.toNat = some b)
    {v : BitVec 32} (hc : checkPairs 19 berthFieldFits [] [] [{ ident := 8#8, value := v }] = none) :
    ∃ t, exec (.amendBerth key [{ ident := 8#8, value := v }]) s = .next t
      ∧ AnsweredDone s (headOf 4#8 2#8 key) 5 (s.serviceTaken key.toNat [{ ident := 8#8, value := v }])
          (fun u => recordBody (u.berthValues key.toNat)) t := by
  have htopology : carriesTopology [{ ident := 8#8, value := v }] = false := rfl
  have hbranch : carries [{ ident := 8#8, value := v }] 2 = false := rfl
  obtain ⟨t, hexec, hdone⟩ := exec_amendBerth_done ht (by simp) (by simp) hb (fun h => absurd h (by simp [htopology]))
    (fun h => absurd h (by simp [hbranch])) hc
  rw [topologyWritten_setting] at hdone
  exact ⟨t, hexec, hdone⟩

/-- R29: with the setting at no already, nothing is restored. -/
theorem serviceTaken_clear_same {s : State} {n : Nat} {b : Berth} {pairs : List Pair} (htables : s.tablesOk = true)
    (hb : s.berth? n = some b) (hs : b.state ≠ .outOfService) (h8 : carriedFor pairs 8 = some 0) :
    s.serviceTaken n pairs = s := by
  rw [serviceTaken_clear _ _ _ h8]
  have hsame : (s.berths.map fun x : Berth =>
      if x.number = n ∧ x.state = .outOfService then
        { x with
          outOfService := false, state := .vacant, occupant := none, foreignReason := none, faultCause := none
          dispenserCode := none }
      else x) = s.berths := by
    refine (List.map_congr_left fun x hx => if_neg fun h => hs ?_).trans (List.map_id' _)
    rw [← berth_eq_of_number htables (mem_of_berth? hb) hx (h.1.trans (number_of_berth? hb).symm)]
    exact h.2
  rw [hsame]

/-! ## The event -/

/-- The setting taken at berth `n` while it is in service: `b` is the berth before, `post` the state that the owner has left and
`t` the state after the end of the event. -/
structure IsolationEvent (n : Nat) (s : State) (b : Berth) (post t : State) : Prop where
  tables : s.tablesOk = true
  found : s.berth? n = some b
  inService : b.state ≠ .outOfService
  left : ∃ depot supervision, post = { s.setOutOfService n with depot := depot, supervision := supervision }
  settles : Settles s post t

/-- A berth as the end of an event leaves it. -/
theorem Settles.berth? {s post t : State} (hs : Settles s post t) (n : Nat) :
    t.berth? n = (post.berth? n).map post.withdrawn := by
  obtain ⟨_, _, hberths, _⟩ := hs
  unfold State.berth?
  rw [hberths]
  exact findKey_map n _ (withdrawn_number post) post.berths

theorem withdrawn_isolate (s : State) (b : Berth) : s.withdrawn b.isolate = b.isolate :=
  if_neg fun h => absurd h.1 (lt_irrefl 0)

namespace IsolationEvent

variable {n : Nat} {s post t : State} {b : Berth} (h : IsolationEvent n s b post t)
include h

theorem isolated : b.isolatedAt n = b.isolate := if_pos (number_of_berth? h.found)

/-- R28: the setting changes records in their places. -/
theorem changed : ChangedInPlace s post (s.busIsolated b) (Berth.isolatedAt n) := by
  obtain ⟨depot, supervision, rfl⟩ := h.left
  obtain ⟨tickets, hrecords⟩ := setOutOfService_records h.found h.inService
  rw [hrecords]
  refine ⟨rfl, rfl, fun x => ?_, fun x => ?_, isolatedAt_number n⟩
  all_goals
    unfold State.busIsolated
    split <;> rfl

theorem berth?_self : t.berth? n = some b.isolate := by
  rw [h.changed.settled_berth? h.settles, h.found, Option.map_some, h.isolated, withdrawn_isolate]

/-- R7: the bus that was at the berth. -/
theorem detached {k : Nat} {x : Bus} (hk : b.busOccupant = some k) (hx : s.bus? k = some x) :
    ∃ y, t.bus? k = some y ∧ y.state = .away ∧ y.berth = none ∧ y.held = x.held ∧ y.freshness = x.freshness := by
  have hdetached : (if b.busOccupant = some x.fleet then x.detach else x) = x.detach := by
    rw [hk, fleet_of_bus? hx, if_pos rfl]
  refine ⟨_, by rw [h.changed.settled_bus? h.settles, hx, Option.map_some], ?_⟩
  unfold State.busIsolated
  rw [hdetached]
  exact ⟨rfl, rfl, rfl, rfl⟩

/-- R7, R28, R110: where tickets and buses name each other, what the end of the event hands on. -/
theorem handsOn (hl : TicketsLinked s) :
    s.handsOn t (s.ticketUnplugged t b.busOccupant)
      ∧ t.buses = s.buses.map fun x => t.deriveBus (if b.busOccupant = some x.fleet then s.busUnplugged x else x) := by
  obtain ⟨htickets, hbuses⟩ := setOutOfService_linked h.found h.inService h.tables hl
  obtain ⟨_, hberths, _, _, hnumber⟩ := h.changed
  obtain ⟨tickets, hrecords⟩ := setOutOfService_records h.found h.inService
  have hset := h.settles
  obtain ⟨depot, supervision, rfl⟩ := h.left
  have hc : ChangedInPlace s { s.setOutOfService n with depot := depot, supervision := supervision }
      (fun x => if b.busOccupant = some x.fleet then s.busUnplugged x else x) (Berth.isolatedAt n) := by
    refine ⟨hbuses, hberths, fun x => ?_, fun x => ?_, hnumber⟩
    all_goals split <;> rfl
  have hreserve : (s.setOutOfService n).reserve = s.reserve := by rw [hrecords]
  have hattention : (s.setOutOfService n).attention = s.attention := by rw [hrecords]
  have halloc : (s.setOutOfService n).alloc = s.alloc := (setOutOfService_others n s).2.2
  refine ⟨handsOn_of_settles hset htickets hreserve (congrArg (fun a => hasCause a.flags _) hattention) fun _ hreq => ?_,
    hc.settled_buses hset⟩
  rcases hreq with hreq | hdemand
  · exact .inl (halloc ▸ hreq)
  · exact .inr (.inl (hc.raisesPass_of_demand hset h.tables hdemand))

/-- R93: another berth keeps all but targets withdrawn. -/
theorem other {m : Nat} (hm : m ≠ n) {r : Berth} (hr : s.berth? m = some r) :
    ∃ r', t.berth? m = some r' ∧ r' = r.setTarget (s.grantInFlight m) r'.wanted r'.decided ∧ s.keepsTargets t r r' := by
  have hsame : r.isolatedAt n = r := if_neg fun e => hm ((number_of_berth? hr).symm.trans e)
  have hgrant : post.grantInFlight m = s.grantInFlight m := by
    obtain ⟨depot, supervision, rfl⟩ := h.left
    obtain ⟨tickets, hrecords⟩ := setOutOfService_records h.found h.inService
    rw [hrecords]
    exact grantInFlight_leaveLine n m s
  refine ⟨post.withdrawn r, by rw [h.changed.settled_berth? h.settles, hr, Option.map_some, hsame], ?_,
    h.changed.keepsTargets h.settles h.tables rfl rfl⟩
  rw [← hgrant, ← number_of_berth? hr]
  exact withdrawn_eq_setTarget post r

theorem passRequested : t.alloc.passRequested = true := by
  refine h.settles.requests_pass (h.changed.raisesPass_of_state h.settles (mem_of_berth? h.found) ?_)
  rw [h.isolated]
  exact h.inService.symm

/-- R39: the fault episode and the flags. -/
theorem attention : t.attention.armed = (s.attention.armed || (s.faultedCount != 0 && t.faultedCount == 0))
    ∧ ∀ c : Cause, c ≠ .ticketAtRisk → hasCause t.attention.flags c.number = hasCause s.attention.flags c.number := by
  obtain ⟨tickets, hrecords⟩ := setOutOfService_records h.found h.inService
  have hattention : (s.setOutOfService n).attention = s.attention := by rw [hrecords]
  have hset := h.settles
  obtain ⟨depot, supervision, rfl⟩ := h.left
  obtain ⟨_, _, _, _, _, _, _, ⟨_, harmed⟩, _⟩ := id hset
  refine ⟨harmed.trans (congrArg (fun a => a.armed || _) hattention), fun c hc => ?_⟩
  exact (hset.hasCause hc).trans (congrArg (fun a => hasCause a.flags _) hattention)

/-- R43, R49, R58: the line; and what the setting does not touch. -/
theorem rest : t.line = (s.leaveLine n).line ∧ t.run = s.run ∧ t.clock = s.clock ∧ t.pledges = s.pledges ∧ t.grid = s.grid
    ∧ t.profile = s.profile ∧ t.store = s.store ∧ t.alloc.baseLoad = s.alloc.baseLoad := by
  obtain ⟨⟨_, _, hline, hrun, hclock, hpledges, hgrid, _, hprofile, hstore, _, _, hbase⟩, _⟩ := h.settles
  obtain ⟨tickets, hrecords⟩ := setOutOfService_records h.found h.inService
  obtain ⟨depot, supervision, rfl⟩ := h.left
  rw [hrecords] at hline hrun hclock hpledges hgrid hprofile hstore hbase
  exact ⟨hline, hrun, hclock, hpledges, hgrid, hprofile, hstore, hbase⟩

end IsolationEvent

/-- Settles O24: the setting isolates the berth, detaches its occupant and takes the berth off the line; the end of the event
settles the rest. -/
theorem outOfServiceSetting : Obligations.OutOfServiceSetting := by
  intro key s b ht htables hb n h set clear body
  refine ⟨fun hs => ?_, fun hs => ?_, fun hs => ?_, fun hs => ?_⟩
  · obtain ⟨t, hexec, hdone⟩ := exec_setting ht hb (v := 1#32) (by decide)
    rw [serviceTaken_set _ _ _ (by decide)] at hdone
    have hevent : IsolationEvent n s b _ t := ⟨htables, hb, hs, ⟨_, _, rfl⟩, hdone⟩
    obtain ⟨⟨_, hdepot, _, _, _, _, _, hsupervision, _⟩, _⟩ := hdone
    obtain ⟨harmed, hflags⟩ := hevent.attention
    obtain ⟨hline, hrun, hclock, hpledges, hgrid, hprofile, hstore, hbase⟩ := hevent.rest
    exact ⟨t, hexec, hevent.berth?_self, fun k x hk hx => hevent.detached hk hx,
      fun hl => hevent.handsOn ((ticketsLinked_iff htables).2 hl), hevent.changed.settled_numbers hevent.settles,
      fun m hm r hr => hevent.other hm hr, hline, hevent.passRequested, harmed, hflags, hrun, hclock, hpledges, hgrid, hprofile,
      hstore, hbase, hsupervision, hdepot⟩
  · obtain ⟨t, hexec, hdone⟩ := exec_setting ht hb (v := 1#32) (by decide)
    refine ⟨t, hexec, ?_⟩
    have hsame : s.setOutOfService key.toNat = s := by
      unfold State.setOutOfService
      rw [hb]
      exact if_pos hs
    rwa [serviceTaken_set _ _ _ (by decide), hsame] at hdone
  · obtain ⟨t, hexec, hdone⟩ := exec_setting ht hb (v := 0#32) (by decide)
    exact ⟨t, hexec, by rwa [serviceTaken_clear_same htables hb hs (by decide)] at hdone⟩
  · obtain ⟨t, hexec, hdone⟩ := exec_setting ht hb (v := 0#32) (by decide)
    have hrestored : (s.serviceTaken n [{ ident := 8#8, value := 0#32 }]).berth? n = some b.restore := by
      refine (findKey_updateKey n n Berth.restore restore_number s.berths).trans ?_
      rw [show findKey Berth.number n s.berths = some b from hb, Option.map_some,
        if_pos (by rw [number_of_berth? hb, beq_self_eq_true])]
    have hfound : t.berth? n = some (State.withdrawn _ b.restore) :=
      (Settles.berth? hdone n).trans (congrArg _ hrestored)
    rw [withdrawn_eq_setTarget, Berth.restore, if_pos hs] at hfound
    rw [serviceTaken_clear _ _ _ (by decide)] at hdone
    exact ⟨t, hexec, hdone, _, hfound, rfl, rfl, rfl, rfl, rfl, rfl, rfl, rfl, rfl⟩

end Sys2Proof.Machine
end

section
/-! PROOFS. A valid STATUS to the poll in flight (R31, R49 to R52, R57, R66): the records and the raises that the berth table, the
bus table and the end of the poll leave, before the end of the event. -/

namespace Sys2Proof.Machine

/-! ## The end of the poll's round (R49 to R51, R66) -/

/-- What the end of a poll leaves: line and run, a pass where the run state has moved, and RUN_ABORTED where the run has been
aborted. -/
def State.roundTaken (line : BerthLine) (run : RunControl) (moved aborted : Bool) (s : State) : State :=
  { s with
    line := line
    run := run
    alloc := { s.alloc with passRequested := s.alloc.passRequested || moved }
    attention :=
      { s.attention with
        flags := if aborted then s.attention.flags ||| causeBit Cause.runAborted.number else s.attention.flags } }

theorem roundTaken_self (s : State) : s.roundTaken s.line s.run false false = s := by simp [State.roundTaken]

/-- R66: the test reads line, run and profile. -/
theorem startingTested_reads (u : State) :
    ∃ run moved aborted, (moved = true → run.state ≠ u.run.state) ∧
      ∀ v : State, v.line = u.line → v.run = u.run → v.profile = u.profile →
        v.startingTested = v.roundTaken u.line run moved aborted := by
  by_cases hdue : u.run.state = .starting ∧ u.run.holdExpired = true ∧ u.line.firstRound = true
  · have hstarting := hdue.1
    by_cases hsilent : u.line.meterMiss = 3 ∧ u.profile.meterSilentAbort = true
    · refine ⟨{ u.run with state := .idle, holdTimer := none, abortCause := some .meterSilent }, true, true,
        fun _ => by simp [hstarting], fun v hl hr hp => ?_⟩
      unfold State.startingTested State.roundTaken
      rw [hl, hr, hp, if_pos hdue, if_pos hsilent, Bool.or_true, if_pos rfl]
    · by_cases hoverdraw : u.run.overdraw = 3 ∧ u.profile.overdrawAbort = true
      · refine ⟨{ u.run with state := .idle, holdTimer := none, abortCause := some .overdraw }, true, true,
          fun _ => by simp [hstarting], fun v hl hr hp => ?_⟩
        unfold State.startingTested State.roundTaken
        rw [hl, hr, hp, if_pos hdue, if_neg hsilent, if_pos hoverdraw, Bool.or_true, if_pos rfl]
      · by_cases hpause : u.run.hostPause = true ∨ u.run.thermalPause = true
        · refine ⟨{ u.run with state := .paused }, true, false, fun _ => by simp [hstarting], fun v hl hr hp => ?_⟩
          unfold State.startingTested State.roundTaken
          rw [hl, hr, hp, if_pos hdue, if_neg hsilent, if_neg hoverdraw, if_pos hpause, Bool.or_true, if_neg (by simp)]
        · refine ⟨{ u.run with state := .running }, true, false, fun _ => by simp [hstarting], fun v hl hr hp => ?_⟩
          unfold State.startingTested State.roundTaken
          rw [hl, hr, hp, if_pos hdue, if_neg hsilent, if_neg hoverdraw, if_neg hpause, Bool.or_true, if_neg (by simp)]
  · refine ⟨u.run, false, false, by simp, fun v hl hr hp => ?_⟩
    rw [← hl, ← hr, roundTaken_self]
    unfold State.startingTested
    exact if_neg (by rwa [hr, hl])

/-- R50, R51: the line once the round in progress has completed. -/
def BerthLine.roundDone (l : BerthLine) : BerthLine :=
  { l with
    roundOpen := false, roundCounter := (l.roundCounter + 1) % 65536
    firstRound := l.firstRound || l.qualifying }

/-- R49: the end of a poll reads line, run and profile, and leaves the exchange. -/
theorem roundEnded_reads (n : Nat) (u : State) :
    ∃ line run moved aborted, line.exchange = u.line.exchange ∧ (moved = true → run.state ≠ u.run.state) ∧
      ∀ v : State, v.line = u.line → v.run = u.run → v.profile = u.profile →
        v.roundEnded n = v.roundTaken line run moved aborted := by
  by_cases hends : u.line.roundOpen = true ∧ (if n = 0 then u.line.roundList = [] else u.line.roundList.getLast? = some n)
  · obtain ⟨run, moved, aborted, hmoved, hreads⟩ := startingTested_reads
      { u with line := u.line.roundDone }
    refine ⟨u.line.roundDone, run, moved, aborted, rfl, hmoved, fun v hl hr hp => ?_⟩
    unfold State.roundEnded State.roundCompleted
    rw [hl, if_pos hends]
    exact hreads { v with line := u.line.roundDone } rfl hr hp
  · refine ⟨u.line, u.run, false, false, rfl, by simp, fun v hl hr hp => ?_⟩
    rw [← hl, ← hr, roundTaken_self]
    unfold State.roundEnded
    exact if_neg (by rwa [hl])

/-! ## The raises of the plug table (R35, R39) -/

section
variable (b b' : Berth) (a : Attention)

/-- R35, R39: the flags that a STATUS sets. -/
theorem plugged_hasCause (c : Cause) :
    hasCause (a.plugged b b').flags c.number =
      (hasCause a.flags c.number
        || (decide (c = .vehicleForeign)
          && (b'.state == .foreign && (b.state != .foreign || b.foreignReason != b'.foreignReason)))
        || (decide (c = .berthFault) && (a.armed && b.state != .faulted && b'.state == .faulted))) := by
  have foreign (raised : Bool) (a : Attention) : hasCause (a.foreignRaised raised).flags c.number =
      (hasCause a.flags c.number || (decide (c = .vehicleForeign) && raised)) := by
    cases raised
    · simp
    · rw [Bool.and_true]
      exact (hasCause_or ..).trans (congrArg _ (hasCause_causeBit ..))
  have faulted (entered : Bool) (a : Attention) : hasCause (a.faultEntered entered).flags c.number =
      (hasCause a.flags c.number || (decide (c = .berthFault) && (a.armed && entered))) := by
    unfold Attention.faultEntered
    cases h : entered && a.armed with
    | false => simp [Bool.and_comm a.armed, h]
    | true =>
      rw [if_pos rfl, Bool.and_comm a.armed, h, Bool.and_true]
      exact (hasCause_or ..).trans (congrArg _ (hasCause_causeBit ..))
  have armed (raised : Bool) : (a.foreignRaised raised).armed = a.armed := by cases raised <;> rfl
  unfold Attention.plugged
  rw [faulted, foreign, armed, Bool.and_assoc a.armed]

/-- R39: an entry into FAULTED disarms the episode. -/
theorem plugged_armed : (a.plugged b b').armed = (a.armed && !(b.state != .faulted && b'.state == .faulted)) := by
  have armed (raised : Bool) : (a.foreignRaised raised).armed = a.armed := by cases raised <;> rfl
  unfold Attention.plugged Attention.faultEntered
  rw [armed]
  cases b.state != .faulted && b'.state == .faulted <;> cases ha : a.armed <;> simp [armed, ha]

end

/-! ## The pack data (R9) -/

/-- R9 to R13: a bus once its berth, or another, has replied with pack data or with none. -/
def Bus.takesReport (b : Berth) (pack : Option PackData) (x : Bus) : Bus :=
  match pack with
  | some p => if b.state = .occupied ∧ b.occupant = some x.fleet then x.takePack p else x
  | none => x

@[simp] theorem takesReport_fleet (b : Berth) (pack : Option PackData) (x : Bus) : (x.takesReport b pack).fleet = x.fleet := by
  unfold Bus.takesReport
  split
  · split <;> rfl
  · rfl

theorem takesReport_demand (b : Berth) (pack : Option PackData) (x : Bus) :
    (x.takesReport b pack).demandView = x.demandView := by
  unfold Bus.takesReport
  split
  · split <;> rfl
  · rfl

theorem takesReport_place (b : Berth) (pack : Option PackData) (x : Bus) : (x.takesReport b pack).place = x.place := by
  unfold Bus.takesReport
  split
  · split <;> rfl
  · rfl

theorem takePackData_eq {s : State} {n : Nat} {b : Berth} (hb : s.berth? n = some b) (pack : Option PackData) :
    s.takePackData n pack = { s with buses := s.buses.map (Bus.takesReport b pack) } := by
  have discarded (h : ∀ x : Bus, x.takesReport b pack = x) : s = { s with buses := s.buses.map (Bus.takesReport b pack) } := by
    rw [funext h, List.map_id']
  unfold State.takePackData
  rw [hb]
  cases pack with
  | none => exact discarded fun _ => rfl
  | some p =>
    dsimp only
    split
    · rename_i k hs ho
      unfold State.updBus
      rw [updateKey_eq_map]
      congr 1
      refine List.map_congr_left fun x _ => ?_
      simp [Bus.takesReport, hs, ho, eq_comm]
    · rename_i h
      refine discarded fun x => if_neg fun hocc => ?_
      exact h _ hocc.1 hocc.2

/-! ## The records that a STATUS leaves -/

/-- R30, R52: a berth whose reply has been heard. -/
def Berth.reporting (body : StatusBody) (b : Berth) : Berth :=
  { b with reported := correctedOutput body.output.toInt b.correction, missCount := 0 }

@[simp] theorem endRetry_busOccupant (b : Berth) : b.endRetry.busOccupant = b.busOccupant := by
  unfold Berth.endRetry
  split <;> rfl

@[simp] theorem endRetry_state (b : Berth) : b.endRetry.state = b.state := by
  unfold Berth.endRetry
  split <;> rfl

@[simp] theorem endRetry_occupant (b : Berth) : b.endRetry.occupant = b.occupant := by
  unfold Berth.endRetry
  split <;> rfl

@[simp] theorem endRetry_foreignReason (b : Berth) : b.endRetry.foreignReason = b.foreignReason := by
  unfold Berth.endRetry
  split <;> rfl

/-- The records once a STATUS has made berth `b` into `b'`, with no exchange in flight. -/
def State.statusTaken (b b' : Berth) (pack : Option PackData) (s : State) : State :=
  { s.replug b b' with
    buses := s.buses.map fun x => (s.busReplugged b b' x).takesReport b' pack
    line := { s.line with exchange := none }
    attention := s.attention.plugged b b' }

/-- R31 to R36, R52, R57: a valid STATUS to the poll in flight. -/
theorem pollStatus_row {s : State} (h : WellLinked s) {n : Nat} {b : Berth} (hb : s.berth? n = some b) (body : StatusBody) :
    ∃ b', PlugRow (s.endExchange.storeOutput n body.output) body (b.reporting body) b'
      ∧ s.pollStatus n body = (s.statusTaken b b'.endRetry body.pack).pollEnded n := by
  obtain rfl := number_of_berth? hb
  have hmem := mem_of_berth? hb
  have hstored : s.endExchange.storeOutput b.number body.output =
      s.endExchange.updBerth b.number fun _ => b.reporting body :=
    updBerth_const (s := s.endExchange) (b := b) h.tables hmem _
  have hlinked : WellLinked (s.endExchange.storeOutput b.number body.output) :=
    h.of_links (storeOutput_keys ..) (storeOutput_links ..)
  have hfound : (s.endExchange.storeOutput b.number body.output).berth? b.number = some (b.reporting body) := by
    rw [hstored]
    exact berth?_updBerth_const (s := s.endExchange) (b := b) (b' := b.reporting body) hb rfl
  obtain ⟨b', hrow, hplug⟩ := takePlug_row hlinked.tables hlinked.linked hfound body
  have hn : b'.number = b.number := (hrow.takesOver hlinked).number
  refine ⟨b', hrow, ?_⟩
  have hreplug : (s.endExchange.storeOutput b.number body.output).replug (b.reporting body) b' = s.endExchange.replug b b' := by
    rw [hstored]
    exact replug_updBerth (b := b) (b₀ := b.reporting body) rfl hn rfl s.endExchange
  have hself : (s.endExchange.replug b b').berth? b.number = some b' := by
    have := berth?_replug_self (s := s.endExchange) (b := b) (b' := b') (by rwa [hn])
    rwa [hn] at this
  have hpolled : ((s.endExchange.replug b b').updBerth b.number Berth.endRetry) = s.endExchange.replug b b'.endRetry := by
    have := updBerth_replug (b := b) (b' := b') (g := Berth.endRetry) (endRetry_number b') (endRetry_busOccupant b')
      s.endExchange
    rwa [hn] at this
  have hreport : Bus.takesReport b' body.pack = Bus.takesReport b'.endRetry body.pack := by
    funext x
    unfold Bus.takesReport
    rw [endRetry_state, endRetry_occupant]
  have hattention : (s.endExchange.storeOutput b.number body.output).attention.plugged (b.reporting body) b' =
      s.attention.plugged b b'.endRetry := by
    unfold Attention.plugged
    rw [endRetry_state, endRetry_foreignReason]
    rfl
  have hbuses : (s.endExchange.replug b b').buses = (s.endExchange.replug b b'.endRetry).buses :=
    (updBerth_buses ..).symm.trans (congrArg State.buses hpolled)
  have htaken : ((s.endExchange.storeOutput b.number body.output).takePlug b.number body).takePackData b.number body.pack =
      { s.endExchange.replug b b' with
        buses := (s.endExchange.replug b b').buses.map (Bus.takesReport b'.endRetry body.pack)
        attention := s.attention.plugged b b'.endRetry } := by
    rw [hplug, hreplug, hattention, ← hreport]
    exact takePackData_eq (s := (s.endExchange.replug b b').withAttention (s.attention.plugged b b'.endRetry)) hself body.pack
  unfold State.pollStatus State.berthPollEnded State.takeStatus
  rw [htaken]
  refine congrArg (State.pollEnded b.number) ?_
  show ({ (s.endExchange.replug b b').updBerth b.number Berth.endRetry with
    buses := _, attention := _ } : State) = _
  rw [hpolled, hbuses]
  unfold State.statusTaken
  rw [show (s.endExchange.replug b b'.endRetry).buses = s.buses.map (s.busReplugged b b'.endRetry) from rfl, List.map_map]
  rfl

end Sys2Proof.Machine
end

section
/-! PROOFS. The rows of the plug table read field by field (R31 to R36), and the berth that the end of the poll and the end of the
event make of them (R54, R57, R93). -/

namespace Sys2Proof.Machine

/-! ## The targets of a row -/

/-- A berth whose targets have been set to 0, or left, while no GRANT is in flight. -/
def Berth.retargeted (zeroed : Bool) (b : Berth) : Berth := if zeroed then b.setTarget false 0 0 else b

/-- A berth with the plug state, the occupant and the fault of another. -/
def Berth.takesPlug (b p : Berth) : Berth :=
  { b with
    state := p.state, occupant := p.occupant, foreignReason := p.foreignReason, faultCause := p.faultCause
    dispenserCode := p.dispenserCode }

/-- R33, R35: when a vehicle id plugged in at `b` sets the targets of `b'` to 0. -/
def Berth.zeroedBy (v : Nat) (b b' : Berth) : Prop :=
  (∃ k, b.busOccupant = some k ∧ k ≠ v) ∨ (b.state ≠ .foreign ∧ b'.state = .foreign ∧ b.decided < 0)

section
variable {s : State} {v : Nat} {body : StatusBody} {b b' : Berth}

theorem plugChecked_eq : b.plugChecked body =
    { b with occupant := if connected body ∧ b.busOccupant = some (vehicleId body) then b.occupant else none } := by
  unfold Berth.plugChecked Berth.unoccupied
  split <;> rfl

theorem exists_other_iff (hk : b.busOccupant ≠ some v) : (∃ k, b.busOccupant = some k ∧ k ≠ v) ↔ b.busOccupant.isSome = true := by
  rw [Option.isSome_iff_exists]
  exact exists_congr fun k => and_iff_left_of_imp fun h e => hk (e ▸ h)

/-- R35: a raw vehicle id after the previous bus occupant, if any, has left. -/
theorem foreignTo_vacated (hk : b.busOccupant ≠ some v) (reason : ForeignReason) :
    ∃ zeroed, (b.vacated false).foreignTo false v reason =
        (b.retargeted zeroed).takesPlug ((b.vacated false).foreignTo false v reason)
      ∧ (zeroed = true ↔ b.zeroedBy v ((b.vacated false).foreignTo false v reason)) := by
  unfold Berth.zeroedBy
  rw [exists_other_iff hk, foreignTo_state]
  cases hocc : b.busOccupant with
  | some k =>
    have hvacated : b.vacated false = b.unoccupied.setTarget false 0 0 := if_pos (by simp [hocc])
    refine ⟨true, ?_, by simp⟩
    unfold Berth.foreignTo
    rw [hvacated, if_neg fun h => absurd h.2 (lt_irrefl 0)]
    rfl
  | none =>
    have hvacated : b.vacated false = b := if_neg (by simp [hocc])
    rw [hvacated]
    unfold Berth.foreignTo
    by_cases hentry : b.state ≠ .foreign ∧ b.decided < 0
    · exact ⟨true, by rw [if_pos hentry]; rfl, by simp [hentry]⟩
    · refine ⟨false, by rw [if_neg hentry]; rfl, ?_⟩
      simpa using hentry

/-- R33: a bus attached, or moved, after the previous bus occupant, if any, has left. -/
theorem settle_vacated (hk : b.busOccupant ≠ some v) :
    ∃ zeroed, (b.vacated false).settle .occupied (some v) =
        (b.retargeted zeroed).takesPlug ((b.vacated false).settle .occupied (some v))
      ∧ (zeroed = true ↔ b.zeroedBy v ((b.vacated false).settle .occupied (some v))) := by
  refine ⟨b.busOccupant.isSome, ?_, ?_⟩
  · unfold Berth.vacated Berth.retargeted
    split <;> rfl
  · unfold Berth.zeroedBy
    rw [exists_other_iff hk]
    simp [Berth.settle]

/-- R33 to R35: a vehicle id plugged in changes plug state and occupant, and the targets where they are set to 0. -/
theorem VehicleRow.targets (hrow : VehicleRow s v b b') (hg : s.grantInFlight b.number = false) :
    ∃ zeroed, b' = (b.retargeted zeroed).takesPlug b' ∧ (zeroed = true ↔ b.zeroedBy v b') := by
  cases hrow with
  | stayed hk =>
    refine ⟨false, rfl, ?_⟩
    unfold Berth.zeroedBy
    rw [hk]
    simp [Berth.settle]
  | unknown hk => rw [hg]; exact foreignTo_vacated hk .unknown
  | attached hk => rw [hg]; exact settle_vacated hk
  | moved hk => rw [hg]; exact settle_vacated hk
  | duplicate hk => rw [hg]; exact foreignTo_vacated hk .duplicate

/-- What a STATUS shows at a berth that is free of a refusal and of a reported fault: a vehicle id. -/
def Berth.showsVehicle (body : StatusBody) (b : Berth) : Prop :=
  b.faultedWith .refused = false ∧ body.faultCode = 0#8 ∧ connected body = true ∧ vehicleId body ≠ 0

/-- R31 to R36: a STATUS changes plug state, occupant and fault of its berth, and the targets where they are set to 0. -/
theorem PlugRow.targets (hrow : PlugRow s body b b') (hg : s.grantInFlight b.number = false) :
    ∃ zeroed, b' = (b.retargeted zeroed).takesPlug b'
      ∧ (b.faultedWith .refused = true → zeroed = false)
      ∧ (b.faultedWith .refused = false → ¬ b.showsVehicle body → zeroed = true)
      ∧ (b.showsVehicle body → (zeroed = true ↔ b.zeroedBy (vehicleId body) b')) := by
  cases hrow with
  | refused h =>
    refine ⟨false, by rw [plugChecked_eq]; rfl, fun _ => rfl, fun h' => ?_, fun h' => ?_⟩
    · rw [h] at h'
      cases h'
    · rw [h'.1] at h
      cases h
  | dispenser h hc =>
    refine ⟨true, ?_, fun h' => ?_, fun _ _ => rfl, fun h' => absurd h'.2.1 hc⟩
    · rw [hg, plugChecked_eq]
      rfl
    · rw [h] at h'
      cases h'
  | empty h hc hp =>
    refine ⟨true, by rw [hg]; rfl, fun h' => ?_, fun _ _ => rfl, fun h' => ?_⟩
    · rw [h] at h'
      cases h'
    · rw [h'.2.2.1] at hp
      cases hp
  | awaiting h hc hp hv =>
    refine ⟨true, by rw [hg]; rfl, fun h' => ?_, fun _ _ => rfl, fun h' => absurd hv h'.2.2.2⟩
    rw [h] at h'
    cases h'
  | vehicle h hc hp hv hrow =>
    obtain ⟨zeroed, heq, hiff⟩ := hrow.targets hg
    refine ⟨zeroed, heq, fun h' => ?_, fun _ hn => absurd ⟨h, hc, hp, hv⟩ hn, fun _ => hiff⟩
    rw [h] at h'
    cases h'

/-! ## The fields of a row -/

/-- R36: a berth FAULTED by a refusal stays so. -/
theorem PlugRow.of_refused (hrow : PlugRow s body b b') (hr : b.faultedWith .refused = true) : b' = b.plugChecked body := by
  cases hrow with
  | refused => rfl
  | dispenser h => rw [hr] at h; cases h
  | empty h => rw [hr] at h; cases h
  | awaiting h => rw [hr] at h; cases h
  | vehicle h => rw [hr] at h; cases h

variable (hrow : PlugRow s body b b') (hr : b.faultedWith .refused = false)
include hrow hr

/-- R36: a reported fault. -/
theorem PlugRow.of_fault (hc : body.faultCode ≠ 0#8) :
    b' = (b.faultedBy (s.grantInFlight b.number) .dispenser (some body.faultCode.toNat)).plugChecked body := by
  cases hrow with
  | refused h => rw [hr] at h; cases h
  | dispenser => rfl
  | empty _ h => exact absurd h hc
  | awaiting _ h => exact absurd h hc
  | vehicle _ h => exact absurd h hc

variable (hc : body.faultCode = 0#8)
include hc

/-- R32: nothing plugged in. -/
theorem PlugRow.of_empty (hp : connected body = false) :
    b' = (b.settle .vacant none).setTarget (s.grantInFlight b.number) 0 0 := by
  cases hrow with
  | refused h => rw [hr] at h; cases h
  | dispenser _ h => exact absurd hc h
  | empty => rfl
  | awaiting _ _ h => rw [hp] at h; cases h
  | vehicle _ _ h => rw [hp] at h; cases h

variable (hp : connected body = true)
include hp

/-- R32: plugged in without a vehicle id. -/
theorem PlugRow.of_awaiting (hv : vehicleId body = 0) :
    b' = (b.settle .awaitingId none).setTarget (s.grantInFlight b.number) 0 0 := by
  cases hrow with
  | refused h => rw [hr] at h; cases h
  | dispenser _ h => exact absurd hc h
  | empty _ _ h => rw [hp] at h; cases h
  | awaiting => rfl
  | vehicle _ _ _ h => exact absurd hv h

/-- R33: a vehicle id plugged in. -/
theorem PlugRow.of_vehicle (hv : vehicleId body ≠ 0) : VehicleRow s (vehicleId body) b b' := by
  cases hrow with
  | refused h => rw [hr] at h; cases h
  | dispenser _ h => exact absurd hc h
  | empty _ _ h => rw [hp] at h; cases h
  | awaiting _ _ _ h => exact absurd h hv
  | vehicle _ _ _ _ hrow => exact hrow

end

section
variable {s : State} {v : Nat} {b b' : Berth}

@[simp] theorem foreignTo_faultCause (f : Bool) (v : Nat) (reason : ForeignReason) (b : Berth) :
    (b.foreignTo f v reason).faultCause = none ∧ (b.foreignTo f v reason).dispenserCode = none := by
  unfold Berth.foreignTo
  split <;> exact ⟨rfl, rfl⟩

/-- R33 to R35: the berth holds the vehicle id, as its bus or as a raw number, and no fault. -/
theorem VehicleRow.fields (hrow : VehicleRow s v b b') :
    b'.occupant = some v ∧ b'.faultCause = none ∧ b'.dispenserCode = none
      ∧ (b'.state = .occupied ∧ b'.foreignReason = none ∨ b'.state = .foreign) := by
  have foreign (reason : ForeignReason) (c : Berth) (f : Bool) :
      (c.foreignTo f v reason).occupant = some v ∧ (c.foreignTo f v reason).faultCause = none
        ∧ (c.foreignTo f v reason).dispenserCode = none
        ∧ ((c.foreignTo f v reason).state = .occupied ∧ (c.foreignTo f v reason).foreignReason = none
          ∨ (c.foreignTo f v reason).state = .foreign) := by simp
  cases hrow with
  | stayed => exact ⟨rfl, rfl, rfl, .inl ⟨rfl, rfl⟩⟩
  | unknown => exact foreign ..
  | attached => exact ⟨rfl, rfl, rfl, .inl ⟨rfl, rfl⟩⟩
  | moved => exact ⟨rfl, rfl, rfl, .inl ⟨rfl, rfl⟩⟩
  | duplicate => exact foreign ..

theorem VehicleRow.of_stayed (hrow : VehicleRow s v b b') (hk : b.busOccupant = some v) : b'.state = .occupied := by
  cases hrow with
  | stayed => rfl
  | unknown h => exact absurd hk h
  | attached h => exact absurd hk h
  | moved h => exact absurd hk h
  | duplicate h => exact absurd hk h

/-- R35: a vehicle id of no bus in the table. -/
theorem VehicleRow.of_unknown (h : WellLinked s) (hb : b ∈ s.berths) (hrow : VehicleRow s v b b') (hx : s.bus? v = none) :
    b'.state = .foreign ∧ b'.foreignReason = some .unknown := by
  cases hrow with
  | stayed hk =>
    have hplace := (h.linked.places.place b.number v).1 ((occupantAt_number h.tables hb).trans hk)
    rw [State.placeOf, hx] at hplace
    cases hplace
  | unknown => exact ⟨foreignTo_state .., foreignTo_foreignReason ..⟩
  | attached _ x hx' => rw [hx] at hx'; cases hx'
  | moved _ x hx' => rw [hx] at hx'; cases hx'
  | duplicate _ x hx' => rw [hx] at hx'; cases hx'

section
variable {x : Bus} (h : WellLinked s) (hb : b ∈ s.berths) (hrow : VehicleRow s v b b') (hx : s.bus? v = some x)
include h hb hrow hx

omit hb in
/-- R6, R33: a bus that is AWAY. -/
theorem VehicleRow.of_away (haway : x.state = .away) : b'.state = .occupied ∧ x.berth = none := by
  have hp : x.berth = none := by
    have := (h.linked.places.attached x (mem_of_bus? hx)).not.1 (by simp [haway])
    simpa using this
  refine ⟨?_, hp⟩
  cases hrow with
  | stayed => rfl
  | unknown _ hx' => rw [hx] at hx'; cases hx'
  | attached => rfl
  | moved => rfl
  | duplicate _ y hx' hat =>
    obtain rfl := Option.some.inj (hx.symm.trans hx')
    rw [haway] at hat
    cases hat

/-- R33, R34: a bus that the records place at another berth. -/
theorem VehicleRow.of_elsewhere {m : Nat} {r : Berth} (hp : x.berth = some m) (hm : m ≠ b.number) (hr : s.berth? m = some r) :
    (r.faultedSilent = true → b'.state = .occupied)
      ∧ (r.faultedSilent = false → b'.state = .foreign ∧ b'.foreignReason = some .duplicate) := by
  cases hrow with
  | stayed hk =>
    have hplace := (h.linked.places.place b.number v).1 ((occupantAt_number h.tables hb).trans hk)
    rw [placeOf_of_bus? hx, hp] at hplace
    exact absurd (Option.some.inj hplace) hm
  | unknown _ hx' => rw [hx] at hx'; cases hx'
  | attached _ y hx' _ hp' =>
    obtain rfl := Option.some.inj (hx.symm.trans hx')
    rw [hp] at hp'
    cases hp'
  | moved _ y hx' _ m' r' hp' _ hr' hsilent =>
    obtain rfl := Option.some.inj (hx.symm.trans hx')
    obtain rfl := Option.some.inj (hp.symm.trans hp')
    obtain rfl := Option.some.inj (hr.symm.trans hr')
    refine ⟨fun _ => rfl, fun h' => ?_⟩
    rw [hsilent] at h'
    cases h'
  | duplicate _ y hx' _ m' r' hp' _ hr' hsilent =>
    obtain rfl := Option.some.inj (hx.symm.trans hx')
    obtain rfl := Option.some.inj (hp.symm.trans hp')
    obtain rfl := Option.some.inj (hr.symm.trans hr')
    refine ⟨fun h' => ?_, fun _ => ⟨foreignTo_state .., foreignTo_foreignReason ..⟩⟩
    rw [hsilent] at h'
    cases h'

end

end

/-! ## The berth at the end of the event -/

theorem endRetry_eq (b : Berth) :
    b.endRetry =
      { b with retryWait := false, grantDue := if b.retryWait then decide (b.decided ≠ b.sent) else b.grantDue } := by
  unfold Berth.endRetry
  split
  · rfl
  · rename_i h
    rw [← Bool.eq_false_iff.2 h]

theorem retargeted_eq (zeroed : Bool) (b : Berth) :
    ∃ w d g, b.retargeted zeroed = { b with wanted := w, decided := d, grantDue := g } := by
  cases zeroed <;> exact ⟨_, _, _, rfl⟩

section
variable {post : State} {b p : Berth} {zeroed : Bool}

/-- What stays of a berth that a STATUS, the end of its poll and the end of the event have changed. -/
theorem settledPlug_eq :
    ∃ w d g, post.withdrawn ((b.retargeted zeroed).takesPlug p).endRetry =
      { b with
        state := p.state, occupant := p.occupant, foreignReason := p.foreignReason, faultCause := p.faultCause
        dispenserCode := p.dispenserCode, wanted := w, decided := d, grantDue := g, retryWait := false } := by
  obtain ⟨w, d, g, h⟩ := retargeted_eq zeroed b
  rw [withdrawn_eq_setTarget, endRetry_eq, h]
  exact ⟨_, _, _, rfl⟩

theorem settledPlug_zero :
    (post.withdrawn ((b.retargeted true).takesPlug p).endRetry).wanted = 0
      ∧ (post.withdrawn ((b.retargeted true).takesPlug p).endRetry).decided = 0 := by
  have hzero : ((b.retargeted true).takesPlug p).endRetry.decided = 0 := by
    rw [endRetry_eq]
    rfl
  unfold State.withdrawn
  rw [hzero, if_neg fun h => absurd h.1 (lt_irrefl 0), endRetry_eq]
  exact ⟨rfl, rfl⟩

theorem settledPlug_unzeroed :
    ((b.retargeted false).takesPlug p).endRetry.wanted = b.wanted
      ∧ ((b.retargeted false).takesPlug p).endRetry.decided = b.decided := by
  rw [endRetry_eq]
  exact ⟨rfl, rfl⟩

/-- R54, R57: the grant due mark of the berth. -/
theorem settledPlug_grantDue (hg : post.grantInFlight b.number = false) :
    (post.withdrawn ((b.retargeted zeroed).takesPlug p).endRetry).grantDue =
      if b.retryWait = false
          ∧ (post.withdrawn ((b.retargeted zeroed).takesPlug p).endRetry).decided = b.decided then b.grantDue
      else decide ((post.withdrawn ((b.retargeted zeroed).takesPlug p).endRetry).decided ≠ b.sent) := by
  have hnumber : ((b.retargeted zeroed).takesPlug p).endRetry.number = b.number := by
    rw [endRetry_number]
    cases zeroed <;> rfl
  have hwithdrawn : post.withdrawn ((b.retargeted zeroed).takesPlug p).endRetry =
      if ((b.retargeted zeroed).takesPlug p).endRetry.decided < 0
          ∧ post.losesExport ((b.retargeted zeroed).takesPlug p).endRetry = true then
        ((b.retargeted zeroed).takesPlug p).endRetry.setTarget false 0 0
      else ((b.retargeted zeroed).takesPlug p).endRetry := by
    rw [← hg, ← hnumber]
    rfl
  rw [hwithdrawn]
  generalize post.losesExport _ = lost
  rw [endRetry_eq]
  cases zeroed with
  | false =>
    by_cases hneg : b.decided < 0 ∧ lost = true
    · have hne : ¬ (0 = b.decided) := by omega
      have hneg' : ((b.retargeted false).takesPlug p).decided < 0 ∧ lost = true := hneg
      rw [if_pos hneg']
      simp [Berth.setTarget, Berth.takesPlug, Berth.retargeted, hne]
    · have hneg' : ¬ (((b.retargeted false).takesPlug p).decided < 0 ∧ lost = true) := hneg
      rw [if_neg hneg']
      cases hretry : b.retryWait <;> simp [Berth.takesPlug, Berth.retargeted, hretry]
  | true =>
    have hneg : ¬ (((b.retargeted true).takesPlug p).decided < 0 ∧ lost = true) := fun h => absurd h.1 (lt_irrefl 0)
    rw [if_neg hneg]
    cases hretry : b.retryWait <;> simp [Berth.setTarget, Berth.takesPlug, Berth.retargeted, hretry]

end

end Sys2Proof.Machine
end

section
/-! PROOFS. A valid STATUS to the poll in flight, to the end of its event (R6, R7, R9 to R13, R31 to R36, R39, R49 to R52, R57,
R66, R93, R110; O45). -/

namespace Sys2Proof.Machine

/-- A STATUS with body `body` taken at berth `n`: `b` is the berth before, `p` the berth by its row of the plug table, `post` the
state that the owners have left and `t` the state after the end of the event. -/
structure StatusEvent (n : Nat) (body : StatusBody) (s : State) (b p : Berth) (post t : State) : Prop where
  linked : WellLinked s
  found : s.berth? n = some b
  row : PlugRow (s.endExchange.storeOutput n body.output) body (b.reporting body) p
  left : ∃ line run moved aborted, line.exchange = none ∧ (moved = true → run.state ≠ s.run.state)
    ∧ post = (s.statusTaken b p.endRetry body.pack).roundTaken line run moved aborted
  settles : Settles s post t

/-- A valid STATUS to the poll in flight is such an event, and its poll ends as a round's poll does. -/
theorem exec_status {n : Nat} {a : Byte} {body : StatusBody} {s : State} {b : Berth} (hp : s.powered = true)
    (he : s.line.exchange = some { address := n, kind := .poll, void := false }) (hn : n ≠ 0) (ha : a.toNat = n)
    (hb : s.berth? n = some b) (h : WellLinked s) :
    ∃ t p post, exec (.status a body) s = .next t ∧ StatusEvent n body s b p post t
      ∧ t.takesRoundOf (State.roundEnded n { s with line := { s.line with exchange := none } }) := by
  obtain ⟨p, hrow, hpoll⟩ := pollStatus_row h hb body
  have hreply : s.takeReply (.status a body) = (s.pollStatus n body).closeEvent s := by
    unfold State.takeReply
    rw [he]
    refine congrArg (fun u => State.closeEvent u s) ((if_neg Bool.false_ne_true).trans ?_)
    exact if_pos ⟨hn, ha⟩
  obtain ⟨line, run, moved, aborted, hline, hmoved, hreads⟩ := roundEnded_reads n s.endExchange
  have hpost := hreads (s.statusTaken b p.endRetry body.pack) rfl rfl rfl
  have hended := hreads s.endExchange rfl rfl rfl
  rw [pollEnded_eq, hpost] at hpoll
  have hset := closeEvent_settles s (s.pollStatus n body)
  rw [hpoll] at hset
  obtain ⟨⟨_, _, hsline, hsrun, _⟩, _⟩ := id hset
  refine ⟨_, p, _, (ifPowered_on _ s hp).trans (by rw [hreply, hpoll]), ⟨h, hb, hrow,
    ⟨line, run, moved, aborted, hline, hmoved, rfl⟩, hset⟩, ?_⟩
  show State.takesRoundOf _ (s.endExchange.roundEnded n)
  rw [hended]
  refine ⟨hsline, hsrun, fun hreq => hset.pass_requested_iff.2 (.inl hreq), ?_⟩
  have hquiet : hasCause (s.attention.plugged b p.endRetry).flags Cause.runAborted.number =
      hasCause s.attention.flags Cause.runAborted.number := by
    rw [plugged_hasCause]
    simp
  rw [hset.hasCause (by decide)]
  exact (hasCause_raised aborted _ .runAborted .runAborted).trans
    ((congrArg (· || _) hquiet).trans (hasCause_raised aborted _ .runAborted .runAborted).symm)

namespace StatusEvent

variable {n : Nat} {body : StatusBody} {s post t : State} {b p : Berth} (h : StatusEvent n body s b p post t)
include h

theorem number : b.number = n := number_of_berth? h.found

theorem stored : WellLinked (s.endExchange.storeOutput n body.output) :=
  h.linked.of_links (storeOutput_keys ..) (storeOutput_links ..)

theorem stored_found : (s.endExchange.storeOutput n body.output).berth? n = some (b.reporting body) := by
  refine (findKey_updateKey (key := Berth.number) n n (Berth.reporting body) (fun _ => rfl) s.berths).trans ?_
  rw [show findKey Berth.number n s.berths = some b from h.found, Option.map_some, if_pos (by simp [h.number])]

omit h in
theorem stored_other {m : Nat} (hm : m ≠ n) {r : Berth} (hr : s.berth? m = some r) :
    (s.endExchange.storeOutput n body.output).berth? m = some r := by
  refine (findKey_updateKey (key := Berth.number) n m (Berth.reporting body) (fun _ => rfl) s.berths).trans ?_
  rw [show findKey Berth.number m s.berths = some r from hr, Option.map_some,
    if_neg (by simpa [number_of_berth? hr] using hm)]

theorem row_number : p.endRetry.number = n := by
  rw [endRetry_number, (h.row.takesOver h.stored).number]
  exact h.number

/-- The event in terms of the berths and buses that its owners have changed. -/
theorem changed : ChangedInPlace s post (fun x => (s.busReplugged b p.endRetry x).takesReport p.endRetry body.pack)
    p.endRetry.besides := by
  obtain ⟨line, run, moved, aborted, _, _, rfl⟩ := h.left
  refine ⟨rfl, rfl, fun x => ?_, fun x => ?_, besides_number _⟩
  · rw [takesReport_fleet, busReplugged_fleet]
  · rw [takesReport_demand]
    unfold State.busReplugged
    split
    · rfl
    · split <;> rfl

theorem grantInFlight (m : Nat) : post.grantInFlight m = false := by
  obtain ⟨line, run, moved, aborted, hline, _, rfl⟩ := h.left
  unfold State.grantInFlight State.roundTaken
  rw [hline]

/-! ## The berth -/

theorem berth?_self : t.berth? n = some (post.withdrawn p.endRetry) := by
  rw [h.changed.settled_berth? h.settles, h.found, Option.map_some, Berth.besides, if_pos (h.number.trans h.row_number.symm)]

omit h in
/-- What the end of the event leaves of the row's plug state, occupant and fault. -/
theorem fields : (post.withdrawn p.endRetry).state = p.state ∧ (post.withdrawn p.endRetry).occupant = p.occupant
    ∧ (post.withdrawn p.endRetry).foreignReason = p.foreignReason ∧ (post.withdrawn p.endRetry).faultCause = p.faultCause
    ∧ (post.withdrawn p.endRetry).dispenserCode = p.dispenserCode
    ∧ (post.withdrawn p.endRetry).busOccupant = p.busOccupant := by
  rw [withdrawn_busOccupant, endRetry_busOccupant, withdrawn_eq_setTarget, endRetry_eq]
  exact ⟨rfl, rfl, rfl, rfl, rfl, rfl⟩

theorem targets : ∃ zeroed, p = ((b.reporting body).retargeted zeroed).takesPlug p
    ∧ (b.faultedWith .refused = true → zeroed = false)
    ∧ (b.faultedWith .refused = false → ¬ b.showsVehicle body → zeroed = true)
    ∧ (b.showsVehicle body → (zeroed = true ↔ b.zeroedBy (vehicleId body) p)) :=
  h.row.targets rfl

/-- R31, R54, R57: the fields that a STATUS leaves, and the grant due mark. -/
theorem berth_eq :
    post.withdrawn p.endRetry =
        { b with
          state := (post.withdrawn p.endRetry).state, occupant := (post.withdrawn p.endRetry).occupant
          foreignReason := (post.withdrawn p.endRetry).foreignReason, faultCause := (post.withdrawn p.endRetry).faultCause
          dispenserCode := (post.withdrawn p.endRetry).dispenserCode, wanted := (post.withdrawn p.endRetry).wanted
          decided := (post.withdrawn p.endRetry).decided, grantDue := (post.withdrawn p.endRetry).grantDue
          reported := correctedOutput body.output.toInt b.correction, missCount := 0, retryWait := false } := by
  obtain ⟨zeroed, heq, -⟩ := h.targets
  obtain ⟨w, d, g, hsettled⟩ := settledPlug_eq (post := post) (b := b.reporting body) (p := p) (zeroed := zeroed)
  rw [← heq] at hsettled
  rw [hsettled]
  rfl

theorem grantDue :
    (post.withdrawn p.endRetry).grantDue =
      if b.retryWait = false ∧ (post.withdrawn p.endRetry).decided = b.decided then b.grantDue
      else decide ((post.withdrawn p.endRetry).decided ≠ (post.withdrawn p.endRetry).sent) := by
  obtain ⟨zeroed, heq, -⟩ := h.targets
  have hgrant := settledPlug_grantDue (p := p) (zeroed := zeroed) (h.grantInFlight (b.reporting body).number)
  rw [← heq] at hgrant
  have hsent : (post.withdrawn p.endRetry).sent = b.sent := by rw [h.berth_eq]
  rw [hsent]
  exact hgrant

omit h in
/-- R32, R33, R35, R36: targets that the row sets to 0 are 0. -/
theorem zeroed_targets (hz : p = ((b.reporting body).retargeted true).takesPlug p) :
    (post.withdrawn p.endRetry).wanted = 0 ∧ (post.withdrawn p.endRetry).decided = 0 := by
  have hzero := settledPlug_zero (post := post) (b := b.reporting body) (p := p)
  rwa [← hz] at hzero

/-- R93: targets that the row leaves are kept, but for a withdrawal (R20). -/
theorem kept_targets (hz : p = ((b.reporting body).retargeted false).takesPlug p) :
    s.keepsTargets t b (post.withdrawn p.endRetry) := by
  have hkept := settledPlug_unzeroed (b := b.reporting body) (p := p)
  rw [← hz] at hkept
  exact h.changed.keepsTargets h.settles h.linked.tables hkept.1 hkept.2

theorem zero_of_no_vehicle (hr : b.faultedWith .refused = false) (hv : ¬ b.showsVehicle body) :
    (post.withdrawn p.endRetry).wanted = 0 ∧ (post.withdrawn p.endRetry).decided = 0 := by
  obtain ⟨zeroed, heq, -, hzero, -⟩ := h.targets
  obtain rfl := hzero hr hv
  exact zeroed_targets heq

theorem zero_of_zeroedBy (hv : b.showsVehicle body) (hz : b.zeroedBy (vehicleId body) p) :
    (post.withdrawn p.endRetry).wanted = 0 ∧ (post.withdrawn p.endRetry).decided = 0 := by
  obtain ⟨zeroed, heq, -, -, hiff⟩ := h.targets
  obtain rfl := (hiff hv).2 hz
  exact zeroed_targets heq

theorem kept_of_not_zeroedBy (hv : b.showsVehicle body) (hz : ¬ b.zeroedBy (vehicleId body) p) :
    s.keepsTargets t b (post.withdrawn p.endRetry) := by
  obtain ⟨zeroed, heq, -, -, hiff⟩ := h.targets
  cases zeroed with
  | true => exact absurd ((hiff hv).1 rfl) hz
  | false => exact h.kept_targets heq

theorem kept_of_refused (hr : b.faultedWith .refused = true) : s.keepsTargets t b (post.withdrawn p.endRetry) := by
  obtain ⟨zeroed, heq, hfalse, -⟩ := h.targets
  obtain rfl := hfalse hr
  exact h.kept_targets heq

/-- R35: an entry into FOREIGN with a negative decided target. -/
theorem zero_of_foreign_entry (hs : b.state ≠ .foreign) (hp : p.state = .foreign) (hd : b.decided < 0) :
    (post.withdrawn p.endRetry).wanted = 0 ∧ (post.withdrawn p.endRetry).decided = 0 := by
  by_cases hv : b.showsVehicle body
  · exact h.zero_of_zeroedBy hv (.inr ⟨hs, hp, hd⟩)
  · refine h.zero_of_no_vehicle (Bool.eq_false_iff.2 fun hr => hs ?_) hv
    have := h.row.of_refused hr
    rw [this, plugChecked_state] at hp
    exact hp

/-- R36: the occupant of a FAULTED berth after the faulted plug check. -/
theorem faulted_occupant (hf : b.faultedWith .refused = true ∨ body.faultCode ≠ 0#8) :
    p.occupant = if connected body ∧ b.busOccupant = some (vehicleId body) then some (vehicleId body) else none := by
  have checked (c : Berth) (hs : c.state = .faulted) (ho : c.busOccupant = b.busOccupant) :
      (c.plugChecked body).occupant =
        if connected body ∧ b.busOccupant = some (vehicleId body) then some (vehicleId body) else none := by
    have hocc : c.occupant = c.busOccupant := by simp [Berth.busOccupant, hs]
    rw [plugChecked_eq, ho]
    split
    · rename_i hk
      exact hocc.trans (ho.trans hk.2)
    · rfl
  cases hr : b.faultedWith .refused with
  | true =>
    have hs : b.state = .faulted := by
      simp only [Berth.faultedWith, Bool.and_eq_true, beq_iff_eq] at hr
      exact hr.1
    rw [h.row.of_refused hr]
    exact checked (b.reporting body) hs rfl
  | false =>
    have hc : body.faultCode ≠ 0#8 := hf.resolve_left (by simp [hr])
    rw [h.row.of_fault hr hc]
    exact checked _ rfl rfl

/-! ## The buses -/

theorem bus?_eq (k : Nat) :
    t.bus? k = (s.bus? k).map fun x =>
      t.deriveBus ((s.busReplugged b p.endRetry x).takesReport p.endRetry body.pack) :=
  h.changed.settled_bus? h.settles k

/-- R6, R33, R34: a bus that the berth has gained. -/
theorem gained {k : Nat} {x : Bus} (hx : s.bus? k = some x) (hk : p.busOccupant = some k) (hp : x.berth ≠ some n) :
    ∃ y, t.bus? k = some y ∧ y.state = .attached ∧ y.berth = some n := by
  refine ⟨_, by rw [h.bus?_eq, hx, Option.map_some], ?_⟩
  have hplace := takesReport_place p.endRetry body.pack (s.busReplugged b p.endRetry x)
  have hattached : s.busReplugged b p.endRetry x = x.attach n := by
    unfold State.busReplugged
    rw [h.row_number, fleet_of_bus? hx, endRetry_busOccupant]
    exact if_pos ⟨hk, hp⟩
  rw [hattached] at hplace ⊢
  exact ⟨congrArg (fun v => v.2.1) hplace, congrArg (fun v => v.2.2) hplace⟩

/-- R7, R32: the bus that the berth has lost. -/
theorem lost {k : Nat} (hk : b.busOccupant = some k) (hk' : p.busOccupant ≠ some k) :
    ∃ y, t.bus? k = some y ∧ y.state = .away ∧ y.berth = none := by
  have hplace := (h.linked.linked.places.place b.number k).1
    ((occupantAt_number h.linked.tables (mem_of_berth? h.found)).trans hk)
  obtain ⟨x, hx, _⟩ := Option.bind_eq_some_iff.1 hplace
  refine ⟨_, by rw [h.bus?_eq, hx, Option.map_some], ?_⟩
  have hplace := takesReport_place p.endRetry body.pack (s.busReplugged b p.endRetry x)
  have hdetached : s.busReplugged b p.endRetry x = s.busUnplugged x := by
    unfold State.busReplugged
    rw [fleet_of_bus? hx, endRetry_busOccupant, if_neg fun e => hk' e.1]
    exact if_pos ⟨hk, hk'⟩
  rw [hdetached] at hplace ⊢
  exact ⟨congrArg (fun v => v.2.1) hplace, congrArg (fun v => v.2.2) hplace⟩

/-! ## The other berths -/

/-- R34, R40, R93: another berth keeps all but a bus that is moved from it and targets withdrawn. -/
theorem other {m : Nat} {r : Berth} (hm : m ≠ n) (hr : s.berth? m = some r) :
    ∃ r', t.berth? m = some r' ∧ s.keepsTargets t r r'
      ∧ r' =
        { r.setTarget false r'.wanted r'.decided with
          occupant := if r.busOccupant.isSome ∧ r.busOccupant = p.busOccupant then none else r.occupant } := by
  have hbesides : p.endRetry.besides r =
      { r with occupant := if r.busOccupant.isSome ∧ r.busOccupant = p.busOccupant then none else r.occupant } := by
    have hne : ¬ r.number = p.endRetry.number := by rwa [h.row_number, number_of_berth? hr]
    unfold Berth.besides
    rw [if_neg hne, endRetry_busOccupant]
    split <;> rfl
  refine ⟨post.withdrawn (p.endRetry.besides r), by rw [h.changed.settled_berth? h.settles, hr, Option.map_some],
    h.changed.keepsTargets h.settles h.linked.tables ?_ ?_, ?_⟩
  · rw [hbesides]
  · rw [hbesides]
  · have hset := withdrawn_eq_setTarget post (p.endRetry.besides r)
    rw [h.grantInFlight] at hset
    generalize (post.withdrawn (p.endRetry.besides r)).wanted = w at hset ⊢
    generalize (post.withdrawn (p.endRetry.besides r)).decided = d at hset ⊢
    rw [hset, hbesides]
    rfl

/-! ## What is handed on -/

theorem handsOn : s.handsOn t (s.ticketUnplugged t (if p.busOccupant = b.busOccupant then none else b.busOccupant)) := by
  have hchanged := h.changed
  obtain ⟨⟨_, _, _, hrun, _⟩, _⟩ := id h.settles
  obtain ⟨line, run, moved, aborted, _, hmoved, rfl⟩ := h.left
  have hlost : b.lostTo p.endRetry = if p.busOccupant = b.busOccupant then none else b.busOccupant := by
    unfold Berth.lostTo
    rw [endRetry_busOccupant]
  rw [← hlost]
  refine handsOn_of_settles h.settles rfl rfl ?_ fun _ hreq => ?_
  · refine (hasCause_raised aborted _ .runAborted .ticketAtRisk).trans ?_
    have := plugged_hasCause b p.endRetry s.attention .ticketAtRisk
    simp only [reduceCtorEq, decide_false, Bool.false_and, Bool.or_false, Bool.and_false] at this ⊢
    exact this
  · rcases hreq with hreq | hdemand
    · rcases Bool.or_eq_true_iff.1 hreq with hreq | hreq
      · exact .inl hreq
      · refine .inr (.inr (.inl ?_))
        rw [hrun]
        exact hmoved hreq
    · exact .inr (.inl (hchanged.raisesPass_of_demand h.settles h.linked.tables hdemand))

/-- R35, R39: every flag but those of the tickets and of the run. -/
theorem flags {c : Cause} (hx : c ≠ .ticketAtRisk) (hrun : c ≠ .runAborted) :
    hasCause t.attention.flags c.number =
      (hasCause s.attention.flags c.number
        || (decide (c = .vehicleForeign)
          && (p.state == .foreign && (b.state != .foreign || b.foreignReason != p.foreignReason)))
        || (decide (c = .berthFault) && (s.attention.armed && b.state != .faulted && p.state == .faulted))) := by
  rw [h.settles.hasCause hx]
  obtain ⟨line, run, moved, aborted, _, _, rfl⟩ := h.left
  refine (hasCause_raised aborted _ .runAborted c).trans ?_
  rw [decide_eq_false hrun, Bool.and_false, Bool.or_false]
  have := plugged_hasCause b p.endRetry s.attention c
  rwa [endRetry_state, endRetry_foreignReason] at this

/-- R39: the fault episode. -/
theorem armed : t.attention.armed =
    ((s.attention.armed && !(b.state != .faulted && p.state == .faulted)) || (s.faultedCount != 0 && t.faultedCount == 0)) := by
  obtain ⟨_, _, _, _, _, _, _, ⟨_, harmed⟩, _⟩ := id h.settles
  rw [harmed]
  obtain ⟨line, run, moved, aborted, _, _, rfl⟩ := h.left
  have := plugged_armed b p.endRetry s.attention
  rw [endRetry_state] at this
  exact congrArg (· || _) this

end StatusEvent

end Sys2Proof.Machine
end

section
/-! PROOFS. What a valid STATUS leaves (O45), assembled from the rows of the plug table and the end of the event. -/

namespace Sys2Proof.Machine

/-- R6, R13: a bus as attached. -/
theorem attach_eq (n : Nat) (x : Bus) :
    x.attach n =
      { x with
        state := .attached, berth := some n
        freshness := if x.freshness = .fresh then .stale else x.freshness } := by
  unfold Bus.attach Freshness.staled
  cases x.freshness <;> rfl

theorem busOccupant_of_occupied {b : Berth} {k : Nat} (hs : b.state = .occupied) (ho : b.occupant = some k) :
    b.busOccupant = some k := by simp [Berth.busOccupant, hs, ho]

namespace StatusEvent

variable {n : Nat} {body : StatusBody} {s post t : State} {b p : Berth} (h : StatusEvent n body s b p post t)
include h

/-- R33 to R35: the row of a vehicle id. -/
theorem vehicle (hv : b.showsVehicle body) :
    VehicleRow (s.endExchange.storeOutput n body.output) (vehicleId body) (b.reporting body) p := by
  obtain ⟨hr, hc, hp, hid⟩ := hv
  exact h.row.of_vehicle hr hc hp hid

theorem stored_mem : b.reporting body ∈ (s.endExchange.storeOutput n body.output).berths := mem_of_berth? h.stored_found

/-- R6, R33: a vehicle id of a bus that is AWAY. -/
theorem away {x : Bus} (hv : b.showsVehicle body) (hx : s.bus? (vehicleId body) = some x) (haway : x.state = .away) :
    p.state = .occupied ∧ p.occupant = some (vehicleId body)
      ∧ ∃ y, t.bus? (vehicleId body) = some y ∧ y.state = .attached ∧ y.berth = some n := by
  obtain ⟨ho, _⟩ := (h.vehicle hv).fields
  obtain ⟨hs, hberth⟩ := (h.vehicle hv).of_away h.stored hx haway
  exact ⟨hs, ho, h.gained hx (busOccupant_of_occupied hs ho) (by simp [hberth])⟩

section
variable {x : Bus} {m : Nat} {r : Berth} (hv : b.showsVehicle body) (hx : s.bus? (vehicleId body) = some x)
  (hp : x.berth = some m) (hm : m ≠ n) (hr : s.berth? m = some r)
include hv hx hp hm hr

/-- R34: a vehicle id of a bus at a silent berth. -/
theorem moved (hsilent : r.faultedSilent = true) :
    p.state = .occupied ∧ p.occupant = some (vehicleId body)
      ∧ (∃ y, t.bus? (vehicleId body) = some y ∧ y.state = .attached ∧ y.berth = some n)
      ∧ ∃ r', t.berth? m = some r' ∧ r'.occupant = none ∧ r'.state = .faulted ∧ r'.reported = r.reported := by
  obtain ⟨ho, _⟩ := (h.vehicle hv).fields
  have hmb : m ≠ (b.reporting body).number := fun e => hm (e.trans h.number)
  have hs := ((h.vehicle hv).of_elsewhere h.stored h.stored_mem hx hp hmb (stored_other hm hr)).1 hsilent
  have hocc := busOccupant_of_occupied hs ho
  refine ⟨hs, ho, h.gained hx hocc (by simpa [hp] using hm), ?_⟩
  obtain ⟨r', hfound, -, heq⟩ := h.other hm hr
  have hrocc : r.busOccupant = some (vehicleId body) := by
    have := (h.linked.linked.places.place m (vehicleId body)).2 ((placeOf_of_bus? hx).trans hp)
    rwa [State.occupantAt, hr, Option.bind_some] at this
  rw [if_pos ⟨by simp [hrocc], hrocc.trans hocc.symm⟩] at heq
  have hfaulted : r.state = .faulted := by
    simp only [Berth.faultedSilent, Bool.and_eq_true, beq_iff_eq] at hsilent
    exact hsilent.1
  rw [heq] at hfound
  exact ⟨_, hfound, rfl, hfaulted, rfl⟩

/-- R33, R35: a vehicle id of a bus at a berth that is not silent. -/
theorem duplicate (hheard : r.faultedSilent = false) :
    p.state = .foreign ∧ p.occupant = some (vehicleId body) ∧ p.foreignReason = some .duplicate := by
  obtain ⟨ho, _⟩ := (h.vehicle hv).fields
  have hmb : m ≠ (b.reporting body).number := fun e => hm (e.trans h.number)
  obtain ⟨hs, hreason⟩ :=
    ((h.vehicle hv).of_elsewhere h.stored h.stored_mem hx hp hmb (stored_other hm hr)).2 hheard
  exact ⟨hs, ho, hreason⟩

end

/-- R31 to R36: no fault is left where none is reported and none refused. -/
theorem unfaulted (hr : b.faultedWith .refused = false) (hc : body.faultCode = 0#8) :
    p.faultCause = none ∧ p.dispenserCode = none ∧ (p.state ≠ .foreign → p.foreignReason = none) := by
  cases hp : connected body with
  | false =>
    rw [h.row.of_empty hr hc hp]
    exact ⟨rfl, rfl, fun _ => rfl⟩
  | true =>
    by_cases hid : vehicleId body = 0
    · rw [h.row.of_awaiting hr hc hp hid]
      exact ⟨rfl, rfl, fun _ => rfl⟩
    · obtain ⟨_, hcause, hcode, hstate⟩ := (h.vehicle ⟨hr, hc, hp, hid⟩).fields
      exact ⟨hcause, hcode, fun hs => (hstate.resolve_right hs).2⟩

/-- R36: a reported fault. -/
theorem faulted (hr : b.faultedWith .refused = false) (hc : body.faultCode ≠ 0#8) :
    p.state = .faulted ∧ p.faultCause = some .dispenser ∧ p.dispenserCode = some body.faultCode.toNat
      ∧ p.foreignReason = none := by
  rw [h.row.of_fault hr hc, plugChecked_eq]
  exact ⟨rfl, rfl, rfl, rfl⟩

/-- R6, R7, R9 to R13: the buses. -/
theorem buses_eq :
    t.buses = s.buses.map fun x =>
      t.deriveBus (((if p.busOccupant = some x.fleet ∧ x.berth ≠ some n then x.attach n
        else if b.busOccupant = some x.fleet ∧ p.busOccupant ≠ some x.fleet then s.busUnplugged x
        else x) : Bus).takesReport p body.pack) := by
  refine (h.changed.settled_buses h.settles).trans (List.map_congr_left fun x _ => congrArg t.deriveBus ?_)
  unfold State.busReplugged Bus.takesReport
  rw [h.row_number, endRetry_busOccupant, endRetry_state, endRetry_occupant]

/-- What a STATUS does not touch. -/
theorem rest : t.profile = s.profile ∧ t.clock = s.clock ∧ t.pledges = s.pledges ∧ t.grid = s.grid ∧ t.store = s.store
    ∧ t.supervision = s.supervision ∧ t.depot = s.depot ∧ t.alloc.baseLoad = s.alloc.baseLoad := by
  obtain ⟨⟨_, hdepot, _, _, hclock, hpledges, hgrid, hsupervision, hprofile, hstore, _, _, hbase⟩, _⟩ := h.settles
  obtain ⟨line, run, moved, aborted, _, _, rfl⟩ := h.left
  exact ⟨hprofile, hclock, hpledges, hgrid, hstore, hsupervision, hdepot, hbase⟩

end StatusEvent

/-- Settles O45: the row of the plug table (`PlugRow`), the pack data and the end of the poll change the records in their places;
the end of the event settles the rest. -/
theorem statusTakesPlugAndPack : Obligations.StatusTakesPlugAndPack := by
  intro n a body s b hpowered he hn ha hb ht hocc hlinks id plugged refused free changed
  obtain ⟨t, p, post, hexec, h, hround⟩ := exec_status hpowered he hn ha hb (wellLinked_iff.2 ⟨ht, hocc, hlinks⟩)
  obtain ⟨hstate, hoccupant, hreason, hcause, hcode, hbus⟩ := StatusEvent.fields (post := post) (p := p)
  have hrefused : refused ↔ b.faultedWith .refused = true := by simp [refused, Berth.faultedWith]
  have hplugged : plugged ↔ connected body = true := bne_iff_ne.symm
  have hunplugged (hp : ¬ plugged) : connected body = false := Bool.eq_false_iff.2 fun e => hp (hplugged.2 e)
  have hnot (hr : ¬ refused) : b.faultedWith .refused = false := Bool.eq_false_iff.2 fun e => hr (hrefused.2 e)
  have shows (hf : free) (hp : plugged) (hid : id ≠ 0) : b.showsVehicle body := ⟨hnot hf.1, hf.2, hplugged.1 hp, hid⟩
  have silent (r : Berth) : r.faultedSilent = true ↔ r.state = .faulted ∧ r.faultCause = some .silent := by
    simp [Berth.faultedSilent]
  refine ⟨t, post.withdrawn p.endRetry, hexec, h.berth?_self, hround, h.berth_eq, h.grantDue, ?_⟩
  simp only [hstate, hoccupant, hreason, hcause, hcode, hbus]
  refine ⟨fun hr => ?_, fun hf => h.unfaulted (hnot hf.1) hf.2, fun hc => ?_, h.zero_of_foreign_entry, fun hf hp hid hne hnf => ?_,
    fun hr hc => ?_, fun hrc => ?_, fun hf hp => ?_, fun hf hp hid => ?_, fun hf hp hid hk => ?_, fun hf hp hid hx => ?_,
    fun x hf hp hid hx => ⟨h.away (shows hf hp hid) hx, fun m r hxm hm hr => ⟨fun hsilent => ?_, fun hheard => ?_⟩⟩,
    fun k hk hk' => h.lost hk hk', h.handsOn, ?_, ?_, h.armed, fun c hforeign hfault hrisk haborted => ?_, ?_,
    h.changed.settled_numbers h.settles, fun m r hm hr => h.other hm hr, h.rest⟩
  · have hp := h.row.of_refused (hrefused.1 hr)
    rw [plugChecked_eq] at hp
    rw [hp]
    exact ⟨hr.1, hr.2, rfl, rfl, hp ▸ h.kept_of_refused (hrefused.1 hr)⟩
  · obtain ⟨hf, hp, hid, hk⟩ := hc
    exact h.zero_of_zeroedBy (shows hf hp hid) (.inl hk)
  · refine h.kept_of_not_zeroedBy (shows hf hp hid) fun hz => ?_
    rcases hz with hk | hentry
    · exact hne ⟨hf, hp, hid, hk⟩
    · exact hnf hentry
  · obtain ⟨h1, h2, h3, h4⟩ := h.faulted (hnot hr) hc
    exact ⟨h1, h2, h3, h4, h.zero_of_no_vehicle (hnot hr) fun hv => hc hv.2.1⟩
  · have hocc := h.faulted_occupant (hrc.imp_left hrefused.1)
    refine ⟨fun hp hk => hocc.trans (if_pos ⟨hplugged.1 hp, hk⟩), fun hno => hocc.trans (if_neg fun hyes => ?_)⟩
    rcases hno with hp | hk
    · exact hp (hplugged.2 hyes.1)
    · exact hk hyes.2
  · have hzero := h.zero_of_no_vehicle (hnot hf.1) fun hv => hp (hplugged.2 hv.2.2.1)
    have hp := h.row.of_empty (hnot hf.1) hf.2 (hunplugged hp)
    exact ⟨congrArg Berth.state hp, congrArg Berth.occupant hp, hzero⟩
  · have hzero := h.zero_of_no_vehicle (hnot hf.1) fun hv => hv.2.2.2 hid
    have hp := h.row.of_awaiting (hnot hf.1) hf.2 (hplugged.1 hp) hid
    exact ⟨congrArg Berth.state hp, congrArg Berth.occupant hp, hzero⟩
  · have hrow := h.vehicle (shows hf hp hid)
    exact ⟨hrow.of_stayed hk, hrow.fields.1⟩
  · have hrow := h.vehicle (shows hf hp hid)
    obtain ⟨hs, hr⟩ := hrow.of_unknown h.stored h.stored_mem hx
    exact ⟨hs, hrow.fields.1, hr⟩
  · exact h.moved (shows hf hp hid) hx hxm hm hr ((silent r).2 hsilent)
  · exact h.duplicate (shows hf hp hid) hx hxm hm hr (Bool.eq_false_iff.2 fun e => hheard ((silent r).1 e))
  · simpa using h.flags (c := .vehicleForeign) (by decide) (by decide)
  · simpa using h.flags (c := .berthFault) (by decide) (by decide)
  · simpa [hforeign, hfault] using h.flags hrisk haborted
  · refine h.buses_eq.trans (List.map_congr_left fun x _ => congrArg t.deriveBus ?_)
    rw [attach_eq]
    unfold Bus.takesReport
    cases body.pack <;> rfl

end Sys2Proof.Machine
end

section
/-! PROOFS. The berth link controller's choice of the next exchange (R47 to R51, R59; O42). -/

namespace Sys2Proof.Machine

/-! ## Event rows in a part with power -/

theorem exec_event {c : Instr} {f : State → State} {s : State} (hp : s.powered = true) (hc : eventEffect c = some f) :
    exec c s = .next (f s) :=
  (exec_of_eventEffect s hc).trans (ifPowered_on f s hp)

/-! ## The lowest number of a list -/

theorem lowest_eq_min? (l : List Nat) : lowest l = l.min? := by
  induction l with
  | nil => rfl
  | cons x l ih =>
    unfold lowest
    rw [ih, List.min?_cons]
    cases l.min? <;> rfl

theorem lowest_eq_of_le {l : List Nat} {n : Nat} (hn : n ∈ l) (hle : ∀ m ∈ l, n ≤ m) : lowest l = some n := by
  rw [lowest_eq_min?, List.min?_eq_some_iff]
  exact ⟨hn, hle⟩

/-! ## The choice (R47 to R49) -/

section
variable {s : State}

/-- R48: a lowering, in either direction. -/
theorem isLowering_iff (b : Berth) :
    b.isLowering = true ↔ max b.decided 0 < max b.sent 0 ∨ max (-b.decided) 0 < max (-b.sent) 0 := by
  unfold Berth.isLowering importPart exportPart
  rw [Bool.or_eq_true, decide_eq_true_eq, decide_eq_true_eq]
  omega

theorem selectGrant_lowering {b : Berth} (hb : b ∈ s.berths) (hdue : b.grantDue = true) (hlow : b.isLowering = true)
    (hle : ∀ c ∈ s.berths, c.grantDue = true → c.isLowering = true → b.number ≤ c.number) :
    s.selectGrant = some b.number := by
  have hlowest : lowest (((s.berths.filter Berth.grantDue).filter Berth.isLowering).map Berth.number) = some b.number := by
    refine lowest_eq_of_le (List.mem_map_of_mem ?_) fun m hm => ?_
    · exact List.mem_filter.2 ⟨List.mem_filter.2 ⟨hb, hdue⟩, hlow⟩
    · obtain ⟨c, hc, rfl⟩ := List.mem_map.1 hm
      obtain ⟨hc, hclow⟩ := List.mem_filter.1 hc
      obtain ⟨hc, hcdue⟩ := List.mem_filter.1 hc
      exact hle c hc hcdue hclow
  unfold State.selectGrant
  simp only [hlowest]

theorem selectGrant_raise {b : Berth} (hno : ∀ c ∈ s.berths, c.grantDue = true → c.isLowering = false) (hb : b ∈ s.berths)
    (hdue : b.grantDue = true) (hle : ∀ c ∈ s.berths, c.grantDue = true → b.number ≤ c.number) :
    s.selectGrant = some b.number := by
  have hnone : (s.berths.filter Berth.grantDue).filter Berth.isLowering = [] := by
    rw [List.filter_eq_nil_iff]
    intro c hc
    obtain ⟨hc, hcdue⟩ := List.mem_filter.1 hc
    simp [hno c hc hcdue]
  have hlowest : lowest ((s.berths.filter Berth.grantDue).map Berth.number) = some b.number := by
    refine lowest_eq_of_le (List.mem_map_of_mem (List.mem_filter.2 ⟨hb, hdue⟩)) fun m hm => ?_
    obtain ⟨c, hc, rfl⟩ := List.mem_map.1 hm
    obtain ⟨hc, hcdue⟩ := List.mem_filter.1 hc
    exact hle c hc hcdue
  unfold State.selectGrant
  simp only [hnone, hlowest, List.map_nil, lowest]

theorem selectGrant_none (hno : ∀ b ∈ s.berths, b.grantDue = false) : s.selectGrant = none := by
  have hnone : s.berths.filter Berth.grantDue = [] := by
    rw [List.filter_eq_nil_iff]
    intro b hb
    simp [hno b hb]
  unfold State.selectGrant
  simp only [hnone, List.filter_nil, List.map_nil, lowest]

/-- R49: the next berth of the round, from the meter node's poll as from the round's begin the first one. -/
theorem nextInSweep_eq (s : State) :
    s.nextInSweep = match s.line.sweep with
      | .berth last => s.line.roundList.find? fun n => decide (last < n)
      | _ => s.line.roundList.head? := by
  unfold State.nextInSweep
  cases s.line.sweep <;> rfl

/-- R46, R47: when a choice is due. -/
theorem choiceDue_iff (s : State) :
    s.choiceDue = true ↔ s.line.condition = .frames ∧ s.line.exchange = none ∧ s.line.nextSend = none := by
  simp [State.choiceDue, and_assoc]

variable (hstop : s.grid.stopLatch = false)
include hstop

theorem chooseNext_of_restart (hr : s.line.restart = true) : s.chooseNext = s.chooseSend .pollMeter := by
  unfold State.chooseNext State.stopInForce
  simp [hstop, hr]

variable (hr : s.line.restart = false)
include hr

theorem chooseNext_of_grant {n : Nat} (hcount : s.line.grantCount < 4) (hn : s.selectGrant = some n) :
    s.chooseNext = s.chooseSend (.grantTo n) := by
  unfold State.chooseNext State.stopInForce
  simp [hstop, hr, hcount, hn]

theorem chooseNext_of_no_grant (h : 4 ≤ s.line.grantCount ∨ s.selectGrant = none) : s.chooseNext = s.pollStep := by
  unfold State.chooseNext State.stopInForce
  by_cases hcount : s.line.grantCount < 4
  · simp [hstop, hr, hcount, h.resolve_left (by omega)]
  · simp [hstop, hr, hcount]

omit hstop hr in
theorem pollStep_of_closed (ho : s.line.roundOpen = false) : s.pollStep = s.chooseSend .pollMeter := by
  unfold State.pollStep
  simp [ho]

omit hstop in
theorem pollStep_of_next {n : Nat} (ho : s.line.roundOpen = true) (hn : s.nextInSweep = some n) :
    s.pollStep = s.chooseSend (.pollBerth n) := by
  unfold State.pollStep
  simp [hr, ho, hn]

omit hstop in
theorem pollStep_of_last (ho : s.line.roundOpen = true) (hn : s.nextInSweep = none) :
    s.pollStep = s.roundCompleted.chooseSend .pollMeter := by
  unfold State.pollStep
  simp [hr, ho, hn, completeRound_eq]

end

/-- A choice that is due settles what R47 chooses. -/
theorem exec_choice {s post : State} (hp : s.powered = true) (hdue : s.choiceDue = true) (hpost : s.chooseNext = post) :
    ∃ t, exec .nextExchangeChoice s = .next t ∧ Settles s post t := by
  refine ⟨s.chooseNext.closeEvent s, ?_, hpost ▸ closeEvent_settles s s.chooseNext⟩
  rw [exec_event hp (c := .nextExchangeChoice) rfl]
  unfold State.takeChoice
  rw [if_pos hdue]

/-- Settles O42: each branch of the choice (`chooseNext`) is the step of R47 that its conditions name. -/
theorem nextExchangeFollowsTheSteps : Obligations.NextExchangeFollowsTheSteps := by
  intro s hp due chosen chooses lowering next polls
  have hlowering (b : Berth) : lowering b ↔ b.isLowering = true := (isLowering_iff b).symm
  have hnext : s.nextInSweep = next := nextInSweep_eq s
  refine ⟨fun hno => ?_, fun hdue => ?_⟩
  · rw [exec_event hp (c := .nextExchangeChoice) rfl]
    unfold State.takeChoice
    rw [if_neg fun h => hno ((choiceDue_iff s).1 h)]
  · have hchosen {post : State} : s.chooseNext = post → chosen post := exec_choice hp ((choiceDue_iff s).2 hdue)
    refine ⟨fun hstop => hchosen (if_pos hstop), fun hstop hr => hchosen (chooseNext_of_restart hstop hr),
      fun hstop hr => ⟨fun hcount => ⟨fun b hb hgrant hlow hle => ?_, fun hno b hb hgrant hle => ?_⟩, fun hpoll => ?_⟩⟩
    · exact hchosen (chooseNext_of_grant hstop hr hcount (selectGrant_lowering hb hgrant ((hlowering b).1 hlow)
        fun c hc hcg hcl => hle c hc hcg ((hlowering c).2 hcl)))
    · exact hchosen (chooseNext_of_grant hstop hr hcount (selectGrant_raise
        (fun c hc hcg => Bool.eq_false_iff.2 fun hl => hno c hc hcg ((hlowering c).2 hl)) hb hgrant hle))
    · have hstep := chooseNext_of_no_grant hstop hr (hpoll.imp_right selectGrant_none)
      refine ⟨fun ho => hchosen (hstep.trans (pollStep_of_closed ho)), fun ho => ⟨fun n hn => ?_, fun hn => ?_⟩⟩
      · exact hchosen (hstep.trans (pollStep_of_next hr ho (hnext.trans hn)))
      · exact hchosen (hstep.trans (pollStep_of_last hr ho (hnext.trans hn)))

end Sys2Proof.Machine
end

section
/-! PROOFS. The frames of the berth link (R42, R43, R46, R49, R54, R55, R60, 11.2; O43, O44). -/

namespace Sys2Proof.Machine

/-! ## Frames sent -/

section
variable {s : State}

theorem sendPoll_of_unchosen (hberth : ∀ n, s.line.nextSend ≠ some (.pollBerth n)) (hmeter : s.line.nextSend ≠ some .pollMeter) :
    s.sendPoll = s := by
  unfold State.sendPoll
  split
  · rename_i h
    exact absurd h hmeter
  · rename_i n h
    exact absurd h (hberth n)
  · rfl
  · rfl

theorem sendPoll_of_meter (h : s.line.nextSend = some .pollMeter) : s.sendPoll = s.sendMeterPoll := by
  unfold State.sendPoll
  rw [h]

theorem sendPoll_of_berth {n : Nat} (h : s.line.nextSend = some (.pollBerth n)) : s.sendPoll = s.sendBerthPoll n := by
  unfold State.sendPoll
  rw [h]

theorem endPreamble_of_ne (h : s.line.condition ≠ .preamble) : s.endPreamble = s := by
  unfold State.endPreamble
  split
  · rename_i h'
    exact absurd h' h
  · rfl
  · rfl

theorem endPreamble_of_stop (h : s.line.condition = .preamble) (hstop : s.grid.stopLatch = true) :
    s.endPreamble = s.beginBreak := by
  unfold State.endPreamble
  rw [h]
  exact if_pos hstop

theorem endPreamble_of_release (h : s.line.condition = .preamble) (hstop : s.grid.stopLatch = false) :
    s.endPreamble = ({ s with line := { s.line with condition := .frames } } : State).sendMeterPoll := by
  unfold State.endPreamble
  rw [h]
  exact if_neg (by simp [State.stopInForce, hstop])

theorem sendChosenGrant_of_unchosen (h : ∀ n, s.line.nextSend ≠ some (.grantTo n)) : s.sendChosenGrant = s := by
  unfold State.sendChosenGrant
  split
  · rename_i n h'
    exact absurd h' (h n)
  · rfl
  · rfl
  · rfl

theorem sendChosenGrant_of_chosen {n : Nat} {b : Berth} (h : s.line.nextSend = some (.grantTo n)) (hb : s.berth? n = some b) :
    s.sendChosenGrant =
      if b.grantDue then s.sendGrant n b.decided else { s with line := { s.line with nextSend := none } } := by
  unfold State.sendChosenGrant
  rw [h]
  dsimp only
  rw [hb]

end

/-! ## Characters (R42) -/

/-- R42: a character whose stop bit is at space is read as it was sent, with a framing error. -/
theorem readChar_stop_at_space (c : TxChar) :
    readChar ((charLevels c).take 10 ++ [.space]) = some { byte := c.byte, mark := c.mark, framingError := true } := by
  have hread := readChar_charLevels c
  simp only [charLevels, List.range, List.range.loop, List.map, List.cons_append, List.nil_append, readChar, Option.some.injEq,
    RxChar.mk.injEq, List.take_succ_cons, List.take_zero] at hread ⊢
  exact ⟨hread.1, hread.2.1, rfl⟩

/-- R54, 11.2: a target in two bytes, the more significant first, is read back. -/
theorem toInt_grantBytes {target : Int} (hlo : -100 ≤ target) (hhi : target ≤ 150) :
    (hiByte (BitVec.ofInt 16 target) ++ loByte (BitVec.ofInt 16 target) : Half).toInt = target := by
  have hjoin : (hiByte (BitVec.ofInt 16 target) ++ loByte (BitVec.ofInt 16 target) : Half) = BitVec.ofInt 16 target := by
    unfold hiByte loByte
    exact BitVec.extractLsb'_append_extractLsb'_eq_extractLsb' (by rfl) |>.trans (BitVec.extractLsb'_eq_self)
  rw [hjoin, BitVec.toInt_ofInt]
  exact Int.bmod_eq_of_le (by omega) (by omega)

/-- Settles O43: POLL and PREAMBLE_END by what was chosen and by the line's condition; the characters by `charLevels`. -/
theorem pollSendsChosenFrame : Obligations.PollSendsChosenFrame := by
  refine ⟨fun s hp => ⟨fun hmeter => ?_, fun n hberth => ?_, fun hberth hmeter => ?_⟩,
    fun s hp => ⟨fun hc => ?_, fun hc hstop => ?_, fun hc hstop => ?_⟩,
    fun n _ => ⟨_, rfl, rfl⟩, fun s c => ⟨rfl, rfl, readChar_charLevels c, readChar_stop_at_space c⟩⟩
  · rw [exec_event hp (c := .poll) rfl, sendPoll_of_meter hmeter]
    rfl
  · rw [exec_event hp (c := .poll) rfl, sendPoll_of_berth hberth]
    rfl
  · rw [exec_event hp (c := .poll) rfl, sendPoll_of_unchosen hberth hmeter]
  · rw [exec_event hp (c := .preambleEnd) rfl, endPreamble_of_ne hc]
  · rw [exec_event hp (c := .preambleEnd) rfl, endPreamble_of_stop hc hstop]
    rfl
  · rw [exec_event hp (c := .preambleEnd) rfl, endPreamble_of_release hc hstop]
    rfl

/-- Settles O44: a chosen GRANT is sent while it is due, with the decided target in two bytes that are read back as it. -/
theorem grantCarriesDecidedTarget : Obligations.GrantCarriesDecidedTarget := by
  refine ⟨fun s hp => ⟨fun n b hchosen hb => ⟨fun hdue => ?_, fun hdue => ?_⟩, fun hno => ?_⟩,
    fun n target _ hlo hhi => ⟨_, _, _, rfl, toInt_grantBytes hlo hhi, rfl⟩⟩
  · rw [exec_event hp (c := .grant) rfl, sendChosenGrant_of_chosen hchosen hb, if_pos hdue]
    unfold State.sendGrant State.updBerth
    rw [updateKey_eq_map]
  · rw [exec_event hp (c := .grant) rfl, sendChosenGrant_of_chosen hchosen hb, hdue]
    rfl
  · rw [exec_event hp (c := .grant) rfl, sendChosenGrant_of_unchosen hno]

end Sys2Proof.Machine
end

section
/-! PROOFS. The end of an exchange (R42 to R45, R52, R53, R56, R58): which outcome a reply, a miss and a void exchange have (O49),
and a valid CONFIRM to the grant in flight (R30, R38, R39, R56; O47). -/

namespace Sys2Proof.Machine

/-! ## Replies and misses by the exchange in flight -/

section
variable {s : State}

theorem takeReply_of_none (h : s.line.exchange = none) (r : Reply) : s.takeReply r = s := by
  unfold State.takeReply
  rw [h]

theorem takeMiss_of_none (h : s.line.exchange = none) : s.takeMiss = s := by
  unfold State.takeMiss
  rw [h]

variable {e : Exchange} (he : s.line.exchange = some e)
include he

theorem takeReply_of_some (r : Reply) :
    s.takeReply r = (if e.void then s.exchangeVoid e else s.exchangeReply e r).closeEvent s := by
  unfold State.takeReply
  rw [he]

theorem takeMiss_of_some : s.takeMiss = (if e.void then s.exchangeVoid e else s.exchangeMissed e).closeEvent s := by
  unfold State.takeMiss
  rw [he]

theorem takeReply_of_live (hv : e.void = false) (r : Reply) : s.takeReply r = (s.exchangeReply e r).closeEvent s := by
  rw [takeReply_of_some he, if_neg (by simp [hv])]

theorem takeMiss_of_live (hv : e.void = false) : s.takeMiss = (s.exchangeMissed e).closeEvent s := by
  rw [takeMiss_of_some he, if_neg (by simp [hv])]

theorem takeMiss_of_void (hv : e.void = true) : s.takeMiss = (s.exchangeVoid e).closeEvent s := by
  rw [takeMiss_of_some he, if_pos hv]

/-- R44: a reply that is none to the exchange in flight is a miss, or the discarded outcome of a void exchange. -/
theorem takeReply_eq_takeMiss {r : Reply} (h : s.exchangeReply e r = s.exchangeMissed e) : s.takeReply r = s.takeMiss := by
  rw [takeReply_of_some he, takeMiss_of_some he, h]

/-- R58: every reply to a void exchange is discarded. -/
theorem takeReply_of_void (hv : e.void = true) (r : Reply) : s.takeReply r = s.takeMiss := by
  rw [takeReply_of_some he, takeMiss_of_some he, if_pos hv, if_pos hv]

end

section
variable (s : State)

theorem takeChars_of_some {chars : List RxChar} {r : Reply} (h : parseReply chars = some r) :
    s.takeChars chars = s.takeReply r := by
  unfold State.takeChars
  rw [h]

theorem takeChars_of_none {chars : List RxChar} (h : parseReply chars = none) : s.takeChars chars = s.takeMiss := by
  unfold State.takeChars
  rw [h]

/-! ## Replies that do not fit the exchange (R44) -/

variable (e : Exchange)

theorem exchangeReply_status_unfit {a : Byte} (h : e.kind ≠ .poll ∨ a.toNat ≠ e.address ∨ e.address = 0) (body : StatusBody) :
    s.exchangeReply e (.status a body) = s.exchangeMissed e := by
  unfold State.exchangeReply
  cases hk : e.kind with
  | poll => exact if_neg fun ⟨hne, ha⟩ => h.elim (fun h => h hk) fun h => h.elim (fun h => h ha) hne
  | grant target => rfl

theorem exchangeReply_meter_unfit {a : Byte} (h : e.kind ≠ .poll ∨ e.address ≠ 0 ∨ a ≠ 0#8) (body : MeterBody) :
    s.exchangeReply e (.meter a body) = s.exchangeMissed e := by
  unfold State.exchangeReply
  cases hk : e.kind with
  | poll =>
    refine if_neg fun ⟨he, ha⟩ => h.elim (fun h => h hk) fun h => h.elim (fun h => h he) fun h => h ?_
    exact BitVec.eq_of_toNat_eq ha
  | grant target => rfl

theorem exchangeReply_confirm_unfit {a : Byte} (h : e.kind = .poll ∨ a.toNat ≠ e.address) (body : ConfirmBody) :
    s.exchangeReply e (.confirm a body) = s.exchangeMissed e := by
  unfold State.exchangeReply
  cases hk : e.kind with
  | poll => rfl
  | grant target => exact if_neg (h.resolve_left (by simp [hk]))

end

/-! ## Void exchanges (R58) -/

theorem exchangeVoid_eq (s : State) (e : Exchange) :
    s.exchangeVoid e = if e.kind = .poll then s.endExchange.roundEnded e.address else s.endExchange := by
  unfold State.exchangeVoid
  cases e.kind with
  | poll => exact pollEnded_eq e.address s.endExchange
  | grant target => rfl

/-- Settles O49: a void exchange ends in the same way whatever its outcome, and a poll with the round that it ends. -/
theorem voidOutcomeDiscarded : Obligations.VoidOutcomeDiscarded := by
  intro e s hp he hv
  have hreply := takeReply_of_void he hv
  have hsettles := closeEvent_settles s (s.exchangeVoid e)
  rw [← takeMiss_of_void he hv] at hsettles
  refine ⟨fun c hc => ?_, s.takeMiss, exec_event hp rfl, fun hk => ?_, fun hk => ?_⟩
  · rw [exec_event (c := .replyTimeout) hp rfl]
    rcases hc with rfl | ⟨a, body, rfl⟩ | ⟨body, rfl⟩ | ⟨a, body, rfl⟩ | ⟨chars, rfl⟩
    · rw [exec_event hp rfl]
    · rw [exec_event hp rfl, hreply]
    · rw [exec_event hp rfl, hreply]
    · rw [exec_event hp rfl, hreply]
    · rw [exec_event hp rfl]
      cases hr : parseReply chars with
      | none => rw [takeChars_of_none s hr]
      | some r => rw [takeChars_of_some s hr, hreply]
  · rwa [exchangeVoid_eq, if_neg hk] at hsettles
  · rwa [exchangeVoid_eq, if_pos hk] at hsettles

/-! ## A valid CONFIRM (R30, R38, R39, R56) -/

/-- A further change at the place where a berth has been replaced. -/
theorem map_replaced {n : Nat} {b₁ : Berth} (hn : b₁.number = n) (g : Berth → Berth) (l : List Berth) :
    ((l.map fun r => if r.number = n then b₁ else r).map fun r => if r.number = n then g r else r) =
      l.map fun r => if r.number = n then g b₁ else r := by
  rw [List.map_map]
  refine List.map_congr_left fun r _ => ?_
  simp only [Function.comp]
  by_cases h : r.number = n
  · rw [if_pos h, if_pos hn, if_pos h]
  · rw [if_neg h, if_neg h, if_neg h]

theorem updBerth_const_updBerth {n : Nat} {b₁ : Berth} (hn : b₁.number = n) (g : Berth → Berth) (s : State) :
    (s.updBerth n fun _ => b₁).updBerth n g = s.updBerth n fun _ => g b₁ := by
  unfold State.updBerth
  rw [updateKey_eq_map, updateKey_eq_map, updateKey_eq_map, map_replaced hn]

/-- R30, R52, R56: a berth whose reply has been heard. -/
def Berth.heardOutput (present : Half) (b : Berth) : Berth :=
  { b with reported := correctedOutput present.toInt b.correction, missCount := 0 }

section
variable {s : State} {n : Nat} {b : Berth} (ht : s.tablesOk = true) (hb : s.berth? n = some b)
include ht hb

/-- One change of a berth that the table holds. -/
theorem updBerth_eq (f : Berth → Berth) : s.updBerth n f = s.updBerth n fun _ => f b := by
  obtain rfl := number_of_berth? hb
  exact updBerth_const ht (mem_of_berth? hb) f

/-- R36 to R39: a berth that has been changed becomes FAULTED. -/
theorem fault_updBerth {b₁ : Berth} (hn : b₁.number = n) (cause : FaultCause) (code : Option Nat) :
    (s.updBerth n fun _ => b₁).fault n cause code =
      (s.updBerth n fun _ => b₁.faultedBy (s.grantInFlight n) cause code).withAttention
        (s.attention.faultEntered (b₁.state != .faulted)) := by
  have htables : (s.updBerth n fun _ => b₁).tablesOk = true := (tablesOk_of_keys (updBerth_const_keys hn s)).trans ht
  rw [fault_eq htables (berth?_updBerth_const hb hn), updBerth_const_updBerth hn]
  rfl

/-- R30, R56: the berth of the grant, its output stored and its grant ended. -/
theorem grantConfirm_eq (target : Int) (body : ConfirmBody) :
    s.grantConfirm n target body =
      (s.endExchange.updBerth n fun _ =>
        (if acceptedYes body then Berth.acceptGrant target else Berth.holdBack) (b.heardOutput body.output)).confirmPlug n
          (acceptedYes body) := by
  have hstored : s.endExchange.storeOutput n body.output = s.endExchange.updBerth n fun _ => b.heardOutput body.output :=
    updBerth_eq (s := s.endExchange) ht hb (Berth.heardOutput body.output)
  have hn : b.number = n := number_of_berth? hb
  unfold State.grantConfirm
  rw [hstored]
  exact congrArg (fun u => State.confirmPlug n (acceptedYes body) u)
    (updBerth_const_updBerth (b₁ := b.heardOutput body.output) hn _ _)

/-- R38, R56: an accepted grant. -/
theorem grantConfirm_accepted (target : Int) {body : ConfirmBody} (h : body.accepted = 1#8) :
    s.grantConfirm n target body =
      s.endExchange.updBerth n fun _ => ((b.heardOutput body.output).acceptGrant target).heard := by
  have hn : b.number = n := number_of_berth? hb
  have hyes : acceptedYes body = true := beq_iff_eq.2 h
  rw [grantConfirm_eq ht hb, hyes]
  exact updBerth_const_updBerth (b₁ := (b.heardOutput body.output).acceptGrant target) hn Berth.heard _

/-- R38, R39, R56: a refused grant. -/
theorem grantConfirm_refused (target : Int) {body : ConfirmBody} (h : body.accepted ≠ 1#8) :
    s.grantConfirm n target body =
      (s.endExchange.updBerth n fun _ => (b.heardOutput body.output).holdBack.faultedBy false .refused none).withAttention
        (s.attention.faultEntered (b.state != .faulted)) := by
  have hn : b.number = n := number_of_berth? hb
  have hno : acceptedYes body = false := beq_eq_false_iff_ne.2 h
  rw [grantConfirm_eq ht hb, hno]
  exact fault_updBerth (s := s.endExchange) ht hb (b₁ := (b.heardOutput body.output).holdBack) hn .refused none

end

/-- R38: a SILENT berth that has been heard, written out. -/
theorem heard_eq (b : Berth) :
    b.heard =
      if b.state = .faulted ∧ b.faultCause = some .silent then
        { b with
          state := if b.occupant.isSome then .occupied else .awaitingId
          foreignReason := none, faultCause := none, dispenserCode := none }
      else b := by
  unfold Berth.heard
  simp only [Berth.faultedSilent, Bool.and_eq_true, beq_iff_eq]
  rfl

/-- R39: an entry into FAULTED, written out. -/
theorem faultEntered_eq (s : State) (b : Berth) :
    s.attention.faultEntered (b.state != .faulted) =
      if b.state ≠ .faulted ∧ s.attention.armed = true then
        { flags := s.attention.flags ||| causeBit Cause.berthFault.number, armed := false }
      else s.attention := by
  unfold Attention.faultEntered
  simp only [Bool.and_eq_true, bne_iff_ne]

/-- R38, R56: the berth of a refused grant, written out. -/
theorem holdBack_faultedBy (b : Berth) (cause : FaultCause) :
    b.holdBack.faultedBy false cause none =
      { b with
        state := .faulted, occupant := b.busOccupant, foreignReason := none, faultCause := some cause
        dispenserCode := none, wanted := 0, decided := 0, retryWait := true, grantDue := false } := by
  simp [Berth.faultedBy, Berth.holdBack, Berth.setTarget]
  rfl

/-- Settles O47: an accepted grant sets the sent target and ends a silence, a refused one is a fault and a retry wait. -/
theorem confirmEndsGrant : Obligations.ConfirmEndsGrant := by
  intro n target a body s b hp he ha hb ht heard ended
  have hreply : s.takeReply (.confirm a body) = (s.grantConfirm n target body).closeEvent s := by
    rw [takeReply_of_live he rfl]
    exact congrArg (fun u => State.closeEvent u s) (if_pos ha)
  have hexec := exec_event (c := .confirm a body) hp rfl
  have hended (b' : Berth) : s.endExchange.updBerth n (fun _ => b') = ended b' := by
    unfold State.updBerth
    rw [updateKey_eq_map]
    rfl
  refine ⟨fun hacc => ⟨_, hexec, ?_⟩, fun hacc => ⟨_, hexec, ?_⟩⟩
  · have hsettles := closeEvent_settles s (s.grantConfirm n target body)
    rw [← hreply, grantConfirm_accepted ht hb target hacc, hended, heard_eq] at hsettles
    exact hsettles
  · have hsettles := closeEvent_settles s (s.grantConfirm n target body)
    rw [← hreply, grantConfirm_refused ht hb target hacc, hended, faultEntered_eq, holdBack_faultedBy] at hsettles
    exact hsettles

end Sys2Proof.Machine
end

section
/-! PROOFS. The event that ends the poll of the meter node (R49 to R51, R53, R63, R66, R79, R142): what run control, the grid line
monitor and the allocator leave of the records, and what the end of the event makes of it. -/

namespace Sys2Proof.Machine

/-! ## Targets set to 0 -/

@[simp] theorem retargeted_false (b : Berth) : b.retargeted false = b := rfl

@[simp] theorem retargeted_number (zeroed : Bool) (b : Berth) : (b.retargeted zeroed).number = b.number := by
  cases zeroed <;> rfl

theorem retargeted_retargeted (x y : Bool) (b : Berth) : (b.retargeted x).retargeted y = b.retargeted (x || y) := by
  cases x <;> cases y <;> simp [Berth.retargeted, Berth.setTarget]

theorem map_retargeted_false (l : List Berth) : l.map (Berth.retargeted false) = l := List.map_id l

theorem map_map_retargeted (x y : Bool) (l : List Berth) :
    (l.map (Berth.retargeted x)).map (Berth.retargeted y) = l.map (Berth.retargeted (x || y)) := by
  rw [List.map_map]
  exact List.map_congr_left fun b _ => retargeted_retargeted x y b

/-! ## What the end of the poll of the meter node changes -/

/-- R79: the run leaves RUNNING, or a sag begins. -/
def State.zeroesTargets (run : RunControl) (grid : GridMonitor) (s : State) : Bool :=
  (s.run.state == .running && run.state != .running) || (!s.grid.sag && grid.sag)

/-- The end of the poll of the meter node gives the blocks new values; a change of run state (R63) or of sag (R142) raises a pass,
and every target becomes 0 where the run leaves RUNNING or a sag begins (R79). -/
def State.nodeTaken (line : BerthLine) (run : RunControl) (grid : GridMonitor) (flags : BitVec 14) (base : Nat) (s : State) :
    State :=
  { s with
    line := line
    run := run
    grid := grid
    alloc :=
      { s.alloc with
        baseLoad := base
        passRequested := s.alloc.passRequested || decide (run.state ≠ s.run.state) || decide (grid.sag ≠ s.grid.sag) }
    berths := s.berths.map (Berth.retargeted (s.zeroesTargets run grid))
    attention := { s.attention with flags := flags } }

/-- The same of run control alone, which raises RUN_ABORTED where the run is aborted. -/
def State.runTaken (run : RunControl) (aborted : Bool) (s : State) : State :=
  s.nodeTaken s.line run s.grid
    (if aborted then s.attention.flags ||| causeBit Cause.runAborted.number else s.attention.flags) s.alloc.baseLoad

section
variable (s : State)

@[simp] theorem zeroesTargets_self {run : RunControl} {grid : GridMonitor} (hr : run.state = s.run.state)
    (hg : grid.sag = s.grid.sag) : s.zeroesTargets run grid = false := by
  unfold State.zeroesTargets
  rw [hr, hg]
  cases s.grid.sag <;> simp

/-- What changes neither run state nor sag raises no pass and leaves the targets. -/
theorem nodeTaken_quiet (line : BerthLine) {run : RunControl} {grid : GridMonitor} (flags : BitVec 14) (base : Nat)
    (hr : run.state = s.run.state) (hg : grid.sag = s.grid.sag) :
    s.nodeTaken line run grid flags base =
      { s with
        line := line, run := run, grid := grid, alloc := { s.alloc with baseLoad := base }
        attention := { s.attention with flags := flags } } := by
  unfold State.nodeTaken
  rw [zeroesTargets_self s hr hg, map_retargeted_false, decide_eq_false (not_not.2 hr), decide_eq_false (not_not.2 hg),
    Bool.or_false, Bool.or_false]

/-- Two such changes are one, where at most one of them changes the run state and at most one the sag. -/
theorem nodeTaken_nodeTaken {line line' : BerthLine} {run run' : RunControl} {grid grid' : GridMonitor} {flags flags' : BitVec 14}
    {base base' : Nat} (hr : run.state = s.run.state ∨ run'.state = run.state)
    (hg : grid.sag = s.grid.sag ∨ grid'.sag = grid.sag) :
    (s.nodeTaken line run grid flags base).nodeTaken line' run' grid' flags' base' =
      s.nodeTaken line' run' grid' flags' base' := by
  have hmoved : (decide (run.state ≠ s.run.state) || decide (run'.state ≠ run.state)) = decide (run'.state ≠ s.run.state) := by
    rcases hr with hr | hr <;> simp [hr]
  have hturned : (decide (grid.sag ≠ s.grid.sag) || decide (grid'.sag ≠ grid.sag)) = decide (grid'.sag ≠ s.grid.sag) := by
    rcases hg with hg | hg <;> simp [hg]
  have hleft : ((s.run.state == .running && run.state != .running) || (run.state == .running && run'.state != .running)) =
      (s.run.state == .running && run'.state != .running) := by
    rcases hr with hr | hr <;> cases h : s.run.state == .running <;> simp [bne, hr, h]
  have hbegun : ((!s.grid.sag && grid.sag) || (!grid.sag && grid'.sag)) = (!s.grid.sag && grid'.sag) := by
    rcases hg with hg | hg <;> simp [hg]
  have hzero : (s.zeroesTargets run grid || (s.nodeTaken line run grid flags base).zeroesTargets run' grid') =
      s.zeroesTargets run' grid' := by
    have hnext : (s.nodeTaken line run grid flags base).zeroesTargets run' grid' =
        ((run.state == .running && run'.state != .running) || (!grid.sag && grid'.sag)) := rfl
    rw [hnext]
    unfold State.zeroesTargets
    rw [← hleft, ← hbegun]
    ac_rfl
  have hpass : (s.alloc.passRequested || decide (run.state ≠ s.run.state) || decide (grid.sag ≠ s.grid.sag)
      || decide (run'.state ≠ run.state) || decide (grid'.sag ≠ grid.sag)) =
      (s.alloc.passRequested || decide (run'.state ≠ s.run.state) || decide (grid'.sag ≠ s.grid.sag)) := by
    rw [← hmoved, ← hturned]
    ac_rfl
  have hberths := map_map_retargeted (s.zeroesTargets run grid)
    ((s.nodeTaken line run grid flags base).zeroesTargets run' grid') s.berths
  rw [hzero] at hberths
  unfold State.nodeTaken at hberths ⊢
  rw [hberths, hpass]

/-- A change of run control alone comes before or after a change of everything but the run state. -/
theorem runTaken_nodeTaken {line : BerthLine} {run run' : RunControl} {grid : GridMonitor} {flags : BitVec 14} {base : Nat}
    (aborted : Bool) (hr : run.state = s.run.state ∨ run'.state = run.state) :
    (s.nodeTaken line run grid flags base).runTaken run' aborted =
      s.nodeTaken line run' grid (if aborted then flags ||| causeBit Cause.runAborted.number else flags) base :=
  nodeTaken_nodeTaken s hr (.inr rfl)


/-! ## Run control (R63, R68 to R71) -/

/-- R71: a run that has been aborted. -/
def RunControl.aborted (c : AbortCause) (r : RunControl) : RunControl :=
  { r with state := .idle, holdTimer := none, abortCause := some c }

variable {s} (he : s.line.exchange = none)
include he

theorem grantInFlight_of_none (n : Nat) : s.grantInFlight n = false := by
  unfold State.grantInFlight
  rw [he]

/-- R79: every target set to 0. -/
theorem zeroTargets_eq : s.zeroTargets = { s with berths := s.berths.map (Berth.retargeted true) } := by
  unfold State.zeroTargets
  congr 1
  exact List.map_congr_left fun b _ => by rw [grantInFlight_of_none he]; rfl

/-- R63, R79: every change of run state. -/
theorem setRun_eq (r : RunState) : s.setRun r = s.runTaken { s.run with state := r } false := by
  by_cases h : s.run.state = r
  · subst h
    rw [setRun_same]
    exact (nodeTaken_quiet s s.line s.attention.flags s.alloc.baseLoad rfl rfl).symm
  · have hzero : s.zeroesTargets { s.run with state := r } s.grid = (s.run.state == .running) := by
      unfold State.zeroesTargets
      cases hs : s.run.state == .running
      · simp
      · rw [beq_iff_eq] at hs
        simp [bne_iff_ne.2 fun e => h (hs.trans e.symm)]
    have hberths : (if s.run.state = .running then s.berths.map fun b => b.setTarget (s.grantInFlight b.number) 0 0
        else s.berths) = s.berths.map (Berth.retargeted (s.run.state == .running)) := by
      by_cases hs : s.run.state = .running
      · rw [if_pos hs, beq_iff_eq.2 hs]
        exact congrArg State.berths (zeroTargets_eq he)
      · rw [if_neg hs, beq_eq_false_iff_ne.2 hs, map_retargeted_false]
    rw [setRun_of_ne h, hberths, ← hzero]
    unfold State.runTaken State.nodeTaken
    simp [Ne.symm h]

/-- R71: an abort. -/
theorem abortRun_eq (c : AbortCause) : s.abortRun c = s.runTaken (s.run.aborted c) true := by
  have hrun := setRun_eq he .idle
  have hquiet := nodeTaken_quiet (s.setRun .idle) (run := s.run.aborted c) (grid := s.grid) s.line
    (s.attention.flags ||| causeBit Cause.runAborted.number) s.alloc.baseLoad (setRun_state .idle s).symm (by rw [hrun]; rfl)
  have habort : s.abortRun c = (s.setRun .idle).nodeTaken s.line (s.run.aborted c) s.grid
      (s.attention.flags ||| causeBit Cause.runAborted.number) s.alloc.baseLoad := by
    rw [hquiet]
    unfold State.abortRun
    rw [hrun]
    rfl
  rw [habort, hrun]
  exact nodeTaken_nodeTaken s (.inr rfl) (.inr rfl)

/-- R71: a cause that arises. -/
theorem causeArises_eq (c : AbortCause) :
    s.causeArises c =
      if (s.run.state = .starting ∨ s.run.state = .running) ∧ s.causeEnabled c = true then s.runTaken (s.run.aborted c) true
      else s := by
  unfold State.causeArises
  rw [abortRun_eq he]

omit he in
/-- A change of run control that keeps the run state. -/
theorem with_run_eq {run : RunControl} (hr : run.state = s.run.state) : { s with run := run } = s.runTaken run false :=
  (nodeTaken_quiet s s.line s.attention.flags s.alloc.baseLoad hr rfl).symm

omit he in
theorem runTaken_runTaken {run run' : RunControl} (aborted : Bool) (hr : run.state = s.run.state) :
    (s.runTaken run false).runTaken run' aborted = s.runTaken run' aborted :=
  runTaken_nodeTaken s aborted (.inl hr)

end

/-! ## METER at run control (R68, R70) -/

/-- R70: the overdraw count after a METER. -/
def State.overdrawCounted (measured : Nat) (s : State) : RunControl :=
  { s.run with overdraw := if s.showsOverdraw measured then min 3 (s.run.overdraw + 1) else 0 }

/-- R70, R71: OVERDRAW arises and aborts the run. -/
def State.overdrawArises (measured : Nat) (s : State) : Bool :=
  decide (s.showsOverdraw measured = true ∧ s.run.overdraw = 2 ∧ s.profile.overdrawAbort = true
    ∧ (s.run.state = .starting ∨ s.run.state = .running))

/-- R71: OVERDRAW is present and enabled. -/
def State.overdrawPresent (s : State) : Bool := decide (s.run.overdraw = 3 ∧ s.profile.overdrawAbort = true)

/-- R67: the transformer state pauses the run. -/
def RunControl.pausedBy (warn : Bool) (r : RunControl) : Bool :=
  decide (r.state = .running ∧ warn = true ∧ r.thermalPause = false)

/-- R68: the transformer state clears the last pause source. -/
def RunControl.resumedBy (warn : Bool) (r : RunControl) : Bool :=
  decide (r.state = .paused ∧ r.hostPause = false ∧ r.thermalPause = true ∧ warn = false)

/-- R67, R68: the run once the transformer state has been taken. -/
def RunControl.warned (warn present : Bool) (r : RunControl) : RunControl :=
  { (if r.pausedBy warn then { r with state := .paused }
    else if r.resumedBy warn then if present then r.aborted .overdraw else { r with state := .running }
    else r) with thermalPause := warn }

section
variable {s : State} (he : s.line.exchange = none)
include he

/-- R70: the overdraw count, and the abort. -/
theorem countOverdraw_eq (measured : Nat) :
    s.countOverdraw measured =
      s.runTaken
        (if s.overdrawArises measured then (s.overdrawCounted measured).aborted .overdraw else s.overdrawCounted measured)
        (s.overdrawArises measured) := by
  have hcounted : { s with run := s.overdrawCounted measured } = s.runTaken (s.overdrawCounted measured) false := with_run_eq rfl
  by_cases hshows : s.showsOverdraw measured = true
  · have hcount : s.countOverdraw measured =
        if s.run.overdraw = 2 then (s.runTaken (s.overdrawCounted measured) false).causeArises .overdraw
        else s.runTaken (s.overdrawCounted measured) false := by
      rw [← hcounted]
      unfold State.countOverdraw State.overdrawCounted
      rw [if_pos hshows, if_pos hshows]
    rw [hcount, causeArises_eq (s := s.runTaken (s.overdrawCounted measured) false) he]
    by_cases harises : s.overdrawArises measured = true
    · obtain ⟨_, htwo, henabled, hstate⟩ := of_decide_eq_true harises
      rw [harises, if_pos rfl, if_pos htwo, if_pos ⟨hstate, henabled⟩]
      exact runTaken_runTaken true rfl
    · rw [Bool.eq_false_iff.2 harises, if_neg Bool.false_ne_true]
      split
      · rename_i htwo
        exact if_neg fun ⟨hstate, henabled⟩ => harises (decide_eq_true ⟨hshows, htwo, henabled, hstate⟩)
      · rfl
  · have harises : s.overdrawArises measured = false := decide_eq_false fun h => hshows h.1
    have hcount : s.countOverdraw measured = { s with run := s.overdrawCounted measured } := by
      unfold State.countOverdraw State.overdrawCounted
      rw [if_neg hshows, if_neg hshows]
    rw [hcount, harises, hcounted, if_neg Bool.false_ne_true]

omit he in
theorem presentCause_of_heard (hm : s.line.meterMiss ≠ 3) :
    s.presentCause = if s.overdrawPresent then some .overdraw else none := by
  unfold State.presentCause State.overdrawPresent State.causePresent State.causeEnabled State.meterSilent
  simp [hm]

omit he in
theorem setSources_of_paused (hs : s.run.state = .paused) (host thermal : Bool) :
    s.setSources host thermal =
      if (s.run.hostPause || s.run.thermalPause) && !(host || thermal) then
        match ({ s with run := { s.run with hostPause := host, thermalPause := thermal } } : State).presentCause with
        | some c => ({ s with run := { s.run with hostPause := host, thermalPause := thermal } } : State).abortRun c
        | none => ({ s with run := { s.run with hostPause := host, thermalPause := thermal } } : State).setRun .running
      else { s with run := { s.run with hostPause := host, thermalPause := thermal } } := by
  unfold State.setSources
  split
  · rename_i h
    rw [hs] at h
    cases h
  · rfl
  · rename_i h
    rw [hs] at h
    cases h
  · rename_i h
    rw [hs] at h
    cases h

omit he in
/-- R67: the transformer state sets a pause source. -/
theorem setSources_of_pausedBy {warn : Bool} (h : s.run.pausedBy warn = true) :
    s.setSources s.run.hostPause warn = ({ s with run := { s.run with thermalPause := warn } } : State).setRun .paused := by
  obtain ⟨hs, rfl, ht⟩ := of_decide_eq_true h
  unfold State.setSources
  rw [hs, ht]
  simp

omit he in
/-- R68: the transformer state clears the last pause source. -/
theorem setSources_of_resumedBy {warn : Bool} (h : s.run.resumedBy warn = true) (hm : s.line.meterMiss ≠ 3) :
    s.setSources s.run.hostPause warn =
      if s.overdrawPresent then ({ s with run := { s.run with thermalPause := warn } } : State).abortRun .overdraw
      else ({ s with run := { s.run with thermalPause := warn } } : State).setRun .running := by
  obtain ⟨hs, hh, ht, rfl⟩ := of_decide_eq_true h
  have hcleared : ((s.run.hostPause || s.run.thermalPause) && !(s.run.hostPause || false)) = true := by rw [hh, ht]; rfl
  have hcause : ({ s with run := { s.run with thermalPause := false } } : State).presentCause =
      if s.overdrawPresent then some .overdraw else none := presentCause_of_heard hm
  rw [setSources_of_paused hs, if_pos hcleared, hcause]
  cases s.overdrawPresent <;> rfl

omit he in
/-- R67, R68: the transformer state otherwise. -/
theorem setSources_of_neither {warn : Bool} (hp : s.run.pausedBy warn = false) (hr : s.run.resumedBy warn = false) :
    s.setSources s.run.hostPause warn = { s with run := { s.run with thermalPause := warn } } := by
  have hp := of_decide_eq_false hp
  have hr := of_decide_eq_false hr
  by_cases hs : s.run.state = .paused
  · rw [setSources_of_paused hs]
    refine if_neg fun h => hr ?_
    cases hh : s.run.hostPause <;> simp_all
  · unfold State.setSources
    split
    · refine if_neg fun h => hp ?_
      simp_all
    · rename_i h
      exact absurd h hs
    · rfl
    · rfl

/-- R67, R68: the transformer state at run control. -/
theorem setSources_eq (hm : s.line.meterMiss ≠ 3) (warn : Bool) :
    s.setSources s.run.hostPause warn =
      s.runTaken (s.run.warned warn s.overdrawPresent) (s.run.resumedBy warn && s.overdrawPresent) := by
  have hmoved : ({ s with run := { s.run with thermalPause := warn } } : State) =
      s.runTaken { s.run with thermalPause := warn } false := with_run_eq rfl
  have hidle : (s.runTaken { s.run with thermalPause := warn } false).line.exchange = none := he
  unfold RunControl.warned
  cases hp : s.run.pausedBy warn with
  | true =>
    have hr : s.run.resumedBy warn = false := decide_eq_false fun h => by simp [(of_decide_eq_true hp).1] at h
    rw [setSources_of_pausedBy hp, hmoved, setRun_eq hidle, hr]
    exact runTaken_runTaken false rfl
  | false =>
    cases hr : s.run.resumedBy warn with
    | true =>
      rw [setSources_of_resumedBy hr hm, hmoved, setRun_eq hidle, abortRun_eq hidle]
      cases s.overdrawPresent with
      | true => exact runTaken_runTaken true rfl
      | false => exact runTaken_runTaken false rfl
    | false =>
      rw [setSources_of_neither hp hr, hmoved]
      rfl

/-- R70: a METER at run control leaves the run, and aborts it where OVERDRAW arises, or is present at a resume. -/
def State.meterRun (measured : Nat) (warn : Bool) (s : State) : RunControl :=
  (if s.overdrawArises measured then (s.overdrawCounted measured).aborted .overdraw else s.overdrawCounted measured).warned warn
    (decide ((s.overdrawCounted measured).overdraw = 3 ∧ s.profile.overdrawAbort = true))

def State.meterAborts (measured : Nat) (warn : Bool) (s : State) : Bool :=
  s.overdrawArises measured
    || ((s.overdrawCounted measured).resumedBy warn
      && decide ((s.overdrawCounted measured).overdraw = 3 ∧ s.profile.overdrawAbort = true))

omit he in
/-- R71: an aborted run neither pauses nor resumes. -/
theorem warned_aborted (c : AbortCause) (warn present : Bool) (r : RunControl) :
    (r.aborted c).warned warn present = { r.aborted c with thermalPause := warn } ∧ (r.aborted c).resumedBy warn = false := by
  have hp : (r.aborted c).pausedBy warn = false := decide_eq_false fun h => by cases h.1
  have hr : (r.aborted c).resumedBy warn = false := decide_eq_false fun h => by cases h.1
  unfold RunControl.warned
  rw [hp, hr]
  exact ⟨rfl, rfl⟩

/-- R70: a METER at run control. -/
theorem meterToRun_eq (hm : s.line.meterMiss ≠ 3) (measured : Nat) (warn : Bool) :
    s.meterToRun measured warn = s.runTaken (s.meterRun measured warn) (s.meterAborts measured warn) := by
  have hcounted := countOverdraw_eq he measured
  unfold State.meterToRun State.meterRun State.meterAborts
  rw [hcounted]
  dsimp only
  rw [setSources_eq (s := s.runTaken _ _) he hm]
  cases harises : s.overdrawArises measured with
  | true =>
    obtain ⟨hwarned, hresumed⟩ := warned_aborted .overdraw warn
      (decide ((s.overdrawCounted measured).overdraw = 3 ∧ s.profile.overdrawAbort = true)) (s.overdrawCounted measured)
    show (s.runTaken ((s.overdrawCounted measured).aborted .overdraw) true).runTaken
        (((s.overdrawCounted measured).aborted .overdraw).warned warn _)
        (((s.overdrawCounted measured).aborted .overdraw).resumedBy warn && _) =
      s.runTaken (((s.overdrawCounted measured).aborted .overdraw).warned warn _) true
    rw [hwarned, hresumed, Bool.false_and]
    exact runTaken_nodeTaken s false (.inr rfl)
  | false => exact runTaken_runTaken _ rfl

/-! ## The feeder voltage (R141, R142) -/

omit he in
/-- R141, R142: the low count and the sag after a METER. -/
def State.gridHeard (voltage : Nat) (s : State) : GridMonitor :=
  { s.grid with
    lowCount := if voltage < s.profile.sagTripLevel then min 8 (s.grid.lowCount + 1) else 0
    sag :=
      if voltage < s.profile.sagTripLevel then s.grid.sag || decide (s.profile.sagCount ≤ min 8 (s.grid.lowCount + 1))
      else s.grid.sag && decide (voltage < s.profile.sagTripLevel + s.profile.sagReleaseMargin) }

/-- R142: SAG is raised where a sag begins. -/
def State.sagFlags (voltage : Nat) (s : State) : BitVec 14 :=
  if !s.grid.sag && (s.gridHeard voltage).sag then s.attention.flags ||| causeBit Cause.sag.number else s.attention.flags

omit he in
/-- R141: a voltage that begins no sag and ends none. -/
theorem nodeTaken_gridHeard_of_same {voltage : Nat} (h : (s.gridHeard voltage).sag = s.grid.sag) :
    s.nodeTaken s.line s.run (s.gridHeard voltage) (s.sagFlags voltage) s.alloc.baseLoad =
      { s with grid := s.gridHeard voltage } := by
  have hflags : s.sagFlags voltage = s.attention.flags := by
    unfold State.sagFlags
    rw [h]
    simp
  rw [nodeTaken_quiet s _ _ _ rfl h, hflags]

/-- R142: a sag begins. -/
theorem beginSag_eq :
    s.beginSag =
      { s with
        grid := { s.grid with sag := true }
        berths := s.berths.map (Berth.retargeted true)
        alloc := { s.alloc with passRequested := true }
        attention := { s.attention with flags := s.attention.flags ||| causeBit Cause.sag.number } } := by
  unfold State.beginSag
  rw [zeroTargets_eq (s := { s with grid := { s.grid with sag := true } }) he]
  rfl

/-- R141, R142: the feeder voltage of a METER. -/
theorem takeVoltage_eq (voltage : Nat) :
    s.takeVoltage voltage = s.nodeTaken s.line s.run (s.gridHeard voltage) (s.sagFlags voltage) s.alloc.baseLoad := by
  by_cases hlow : voltage < s.profile.sagTripLevel
  · by_cases hbegins : s.grid.sag = false ∧ s.profile.sagCount ≤ min 8 (s.grid.lowCount + 1)
    · have hgrid : s.gridHeard voltage = { s.grid with lowCount := min 8 (s.grid.lowCount + 1), sag := true } := by
        unfold State.gridHeard
        rw [if_pos hlow, if_pos hlow, decide_eq_true hbegins.2, Bool.or_true]
      have hzero : s.zeroesTargets s.run { s.grid with lowCount := min 8 (s.grid.lowCount + 1), sag := true } = true := by
        unfold State.zeroesTargets
        simp [hbegins.1]
      unfold State.takeVoltage
      rw [if_pos hlow, if_pos hbegins]
      dsimp only
      rw [beginSag_eq (s := { s with grid := { s.grid with lowCount := min 8 (s.grid.lowCount + 1) } }) he]
      unfold State.nodeTaken State.sagFlags
      rw [hgrid, hzero]
      simp [hbegins.1]
    · have hgrid : s.gridHeard voltage = { s.grid with lowCount := min 8 (s.grid.lowCount + 1) } := by
        unfold State.gridHeard
        rw [if_pos hlow, if_pos hlow]
        cases h : s.grid.sag <;> simp_all
      rw [nodeTaken_gridHeard_of_same (by rw [hgrid]), hgrid]
      unfold State.takeVoltage
      rw [if_pos hlow]
      exact if_neg hbegins
  · by_cases hends : s.grid.sag = true ∧ s.profile.sagTripLevel + s.profile.sagReleaseMargin ≤ voltage
    · have hgrid : s.gridHeard voltage = { s.grid with lowCount := 0, sag := false } := by
        unfold State.gridHeard
        rw [if_neg hlow, if_neg hlow, decide_eq_false (not_lt.2 hends.2), Bool.and_false]
      have hzero : s.zeroesTargets s.run { s.grid with lowCount := 0, sag := false } = false := by
        unfold State.zeroesTargets
        simp
      unfold State.takeVoltage
      rw [if_neg hlow, if_pos hends]
      unfold State.nodeTaken State.sagFlags
      rw [hgrid, hzero, map_retargeted_false]
      simp [State.requestPass, hends.1]
    · have hgrid : s.gridHeard voltage = { s.grid with lowCount := 0 } := by
        unfold State.gridHeard
        rw [if_neg hlow, if_neg hlow]
        cases h : s.grid.sag <;> simp_all
      rw [nodeTaken_gridHeard_of_same (by rw [hgrid]), hgrid]
      unfold State.takeVoltage
      rw [if_neg hlow]
      exact if_neg hends

/-! ## METER handed on (R53, R70, R76, R141) -/

omit he in
/-- R76: the targets and the pass do not change the base load of a measured import. -/
theorem baseLoadFor_nodeTaken (measured : Nat) (line : BerthLine) (run : RunControl) (grid : GridMonitor) (flags : BitVec 14)
    (base : Nat) : (s.nodeTaken line run grid flags base).baseLoadFor measured = s.baseLoadFor measured := by
  have hsum : sumOf (fun b => importPart b.reported) (s.nodeTaken line run grid flags base).berths =
      sumOf (fun b => importPart b.reported) s.berths := by
    refine congrArg List.sum (map_view_map (fun b => ?_) s.berths)
    cases s.zeroesTargets run grid <;> rfl
  unfold State.baseLoadFor
  rw [hsum]
  rfl

/-- R53: a valid METER handed on. -/
theorem takeMeter_eq (body : MeterBody) :
    s.takeMeter body =
      s.nodeTaken { s.line with meterMiss := 0 } (s.meterRun (measuredImport body) (body.transformer != 0#8))
        (s.gridHeard (feederVoltage body))
        (if s.meterAborts (measuredImport body) (body.transformer != 0#8) then
          s.sagFlags (feederVoltage body) ||| causeBit Cause.runAborted.number
        else s.sagFlags (feederVoltage body))
        (s.baseLoadFor (measuredImport body)) := by
  have hvoltage : ({ s with line := { s.line with meterMiss := 0 } } : State).takeVoltage (feederVoltage body) =
      s.nodeTaken { s.line with meterMiss := 0 } s.run (s.gridHeard (feederVoltage body)) (s.sagFlags (feederVoltage body))
        s.alloc.baseLoad := takeVoltage_eq (s := { s with line := { s.line with meterMiss := 0 } }) he (feederVoltage body)
  unfold State.takeMeter
  rw [hvoltage, meterToRun_eq (s := s.nodeTaken { s.line with meterMiss := 0 } _ _ _ _) he (by decide : 0 ≠ 3),
    runTaken_nodeTaken s _ (.inl rfl)]
  unfold State.takeBaseLoad
  rw [baseLoadFor_nodeTaken]
  rfl

end

/-! ## The end of the round (R49 to R51, R66) -/

/-- R66: the test leaves the state, or takes the run out of STARTING and raises a pass. -/
theorem startingTested_cases (s : State) :
    s.startingTested = s
      ∨ (s.run.state = .starting ∧ s.startingTested.run.state ≠ .starting ∧ s.startingTested.alloc.passRequested = true) := by
  unfold State.startingTested
  by_cases hdue : s.run.state = .starting ∧ s.run.holdExpired = true ∧ s.line.firstRound = true
  · refine .inr ⟨hdue.1, ?_⟩
    dsimp only
    rw [if_pos hdue]
    split
    · simp
    · split
      · simp
      · split <;> simp
  · exact .inl (if_neg hdue)

/-- R49 to R51, R66: the end of a poll leaves run and allocator, or takes the run out of STARTING and raises a pass. -/
theorem roundEnded_cases (n : Nat) (s : State) :
    ((s.roundEnded n).run = s.run ∧ (s.roundEnded n).alloc = s.alloc)
      ∨ (s.run.state = .starting ∧ (s.roundEnded n).run.state ≠ .starting ∧ (s.roundEnded n).alloc.passRequested = true) := by
  by_cases hends : s.line.roundOpen = true ∧ (if n = 0 then s.line.roundList = [] else s.line.roundList.getLast? = some n)
  · have hcompleted : s.roundEnded n = State.startingTested { s with line := s.line.roundDone } := if_pos hends
    rw [hcompleted]
    rcases startingTested_cases { s with line := s.line.roundDone } with h | h
    · rw [h]
      exact .inl ⟨rfl, rfl⟩
    · exact .inr h
  · have hopen : s.roundEnded n = s := if_neg hends
    rw [hopen]
    exact .inl ⟨rfl, rfl⟩

/-- R49 to R51, R66: the end of a poll as a change of line and run. -/
theorem roundEnded_node (n : Nat) (u : State) :
    ∃ (line : BerthLine) (run : RunControl) (aborted : Bool), line.exchange = u.line.exchange
      ∧ (run.state = u.run.state ∨ u.run.state = .starting) ∧
      ∀ v : State, v.line = u.line → v.run = u.run → v.profile = u.profile →
        v.roundEnded n =
          v.nodeTaken line run v.grid
            (if aborted then v.attention.flags ||| causeBit Cause.runAborted.number else v.attention.flags) v.alloc.baseLoad := by
  obtain ⟨line, run, moved, aborted, hline, -, hreads⟩ := roundEnded_reads n u
  have hquiet := hreads { u with alloc := { u.alloc with passRequested := false } } rfl rfl rfl
  have hcases := roundEnded_cases n { u with alloc := { u.alloc with passRequested := false } }
  rw [hquiet] at hcases
  have hmoved : moved = decide (run.state ≠ u.run.state) ∧ (run.state = u.run.state ∨ u.run.state = .starting) := by
    rcases hcases with ⟨hrun, halloc⟩ | ⟨hstarting, hne, hpass⟩
    · have hrun : run = u.run := hrun
      have hpass : (false || moved) = false := congrArg Allocator.passRequested halloc
      rw [Bool.false_or] at hpass
      rw [hrun, hpass]
      exact ⟨(decide_eq_false (not_not.2 rfl)).symm, .inl rfl⟩
    · have hne : run.state ≠ .starting := hne
      have hpass : (false || moved) = true := hpass
      rw [Bool.false_or] at hpass
      have hstarting : u.run.state = .starting := hstarting
      rw [hstarting, hpass]
      exact ⟨(decide_eq_true hne).symm, .inr rfl⟩
  obtain ⟨rfl, hstate⟩ := hmoved
  refine ⟨line, run, aborted, hline, hstate, fun v hl hr hp => ?_⟩
  have hzero : v.zeroesTargets run v.grid = false := by
    unfold State.zeroesTargets
    rw [hr]
    rcases hstate with hs | hs
    · rw [hs]
      simp
    · rw [hs]
      simp
  rw [hreads v hl hr hp]
  unfold State.roundTaken State.nodeTaken
  rw [hzero, map_retargeted_false, hr]
  simp

/-- R49 to R51, R66: the round that the poll of the meter node ends, after the changes of its outcome. -/
theorem nodeTaken_roundEnded (s : State) (n : Nat) {line : BerthLine} {run : RunControl} (grid : GridMonitor) (flags : BitVec 14)
    (base : Nat) (hr : run.state = .starting → s.run.state = .starting) :
    ∃ (line' : BerthLine) (run' : RunControl) (aborted : Bool), line'.exchange = line.exchange
      ∧ (run'.state = run.state ∨ run.state = .starting)
      ∧ (s.nodeTaken line run grid flags base).roundEnded n =
        s.nodeTaken line' run' grid (if aborted then flags ||| causeBit Cause.runAborted.number else flags) base
      ∧ (State.roundEnded n { s with line := line, run := run }).line = line'
      ∧ (State.roundEnded n { s with line := line, run := run }).run = run'
      ∧ (State.roundEnded n { s with line := line, run := run }).attention.flags =
        if aborted then s.attention.flags ||| causeBit Cause.runAborted.number else s.attention.flags := by
  obtain ⟨line', run', aborted, hline, hstate, hreads⟩ := roundEnded_node n { s with line := line, run := run }
  have hended := hreads { s with line := line, run := run } rfl rfl rfl
  refine ⟨line', run', aborted, hline, hstate, ?_, ?_, ?_, ?_⟩
  · rw [hreads (s.nodeTaken line run grid flags base) rfl rfl rfl]
    refine nodeTaken_nodeTaken s ?_ (.inr rfl)
    rcases hstate with hs | hs
    · exact .inr hs
    · exact .inl (hs.trans (hr hs).symm)
  · rw [hended]
    rfl
  · rw [hended]
    rfl
  · rw [hended]
    rfl

end Sys2Proof.Machine
end

section
/-! PROOFS. The end of the event that ends the poll of the meter node (R17, R20, R40, R63, R76 to R80, R93, R108, R109, R142), and a
valid METER (O46). -/

namespace Sys2Proof.Machine

/-- The meter node's poll has ended: its owners have left `nodeTaken` of `s`, and `t` is the state after the end of the event. -/
structure NodeEvent (s t : State) (line : BerthLine) (run : RunControl) (grid : GridMonitor) (flags : BitVec 14) (base : Nat) :
    Prop where
  settles : Settles s (s.nodeTaken line run grid flags base) t
  idle : line.exchange = none

theorem nodeTaken_changed {s : State} {line : BerthLine} {run : RunControl} {grid : GridMonitor} {flags : BitVec 14} {base : Nat} :
    ChangedInPlace s (s.nodeTaken line run grid flags base) id (Berth.retargeted (s.zeroesTargets run grid)) where
  buses := (List.map_id s.buses).symm
  berths := rfl
  fleet _ := rfl
  demand _ := rfl
  number := retargeted_number _

namespace NodeEvent

variable {s t : State} {line : BerthLine} {run : RunControl} {grid : GridMonitor} {flags : BitVec 14} {base : Nat}
  (h : NodeEvent s t line run grid flags base)
include h

/-- What the end of the event leaves of the blocks as they were given. -/
theorem given : t.line = line ∧ t.run = run ∧ t.grid = grid ∧ t.alloc.baseLoad = base := by
  obtain ⟨⟨_, _, hline, hrun, _, _, hgrid, _, _, _, _, _, hbase⟩, _⟩ := h.settles
  exact ⟨hline, hrun, hgrid, hbase⟩

/-- What the poll of the meter node does not touch. -/
theorem rest : t.profile = s.profile ∧ t.clock = s.clock ∧ t.pledges = s.pledges ∧ t.store = s.store
    ∧ t.supervision = s.supervision ∧ t.depot = s.depot := by
  obtain ⟨⟨_, hdepot, _, _, hclock, hpledges, _, hsupervision, hprofile, hstore, _⟩, _⟩ := h.settles
  exact ⟨hprofile, hclock, hpledges, hstore, hsupervision, hdepot⟩

/-- R63, R142: a change of run state, or of sag, raises a pass. -/
theorem passRequested (hmoved : t.run.state ≠ s.run.state ∨ t.grid.sag ≠ s.grid.sag) : t.alloc.passRequested = true := by
  obtain ⟨_, hrun, hgrid, _⟩ := h.given
  rw [hrun, hgrid] at hmoved
  refine h.settles.pass_requested_iff.2 (.inl ?_)
  show (s.alloc.passRequested || decide (run.state ≠ s.run.state) || decide (grid.sag ≠ s.grid.sag)) = true
  rcases hmoved with hmoved | hmoved
  · rw [decide_eq_true hmoved, Bool.or_true, Bool.true_or]
  · rw [decide_eq_true hmoved, Bool.or_true]

/-- R76: a changed base load raises a pass. -/
theorem passRequested_of_base (hbase : t.alloc.baseLoad ≠ s.alloc.baseLoad) : t.alloc.passRequested = true :=
  h.settles.requests_pass (.inr (.inr (.inr (.inl hbase))))

theorem handsOn
    (hflag : hasCause flags Cause.ticketAtRisk.number = hasCause s.attention.flags Cause.ticketAtRisk.number) :
    s.handsOn t t.gradeTicket := by
  have hgrade : s.ticketUnplugged t none = t.gradeTicket := funext fun x => ticketUnplugged_none s t x
  have htickets : (s.nodeTaken line run grid flags base).tickets = s.tickets.map (s.ticketReleased none) :=
    ((List.map_congr_left fun x _ => ticketReleased_none s x).trans (List.map_id' _)).symm
  obtain ⟨_, hrun, hgrid, _⟩ := h.given
  rw [← hgrade]
  refine handsOn_of_settles h.settles htickets rfl hflag fun ht hreq => ?_
  rw [hrun, hgrid]
  rcases hreq with hreq | hdemand
  · have hreq : (s.alloc.passRequested || decide (run.state ≠ s.run.state) || decide (grid.sag ≠ s.grid.sag)) = true := hreq
    rw [Bool.or_eq_true, Bool.or_eq_true, decide_eq_true_eq, decide_eq_true_eq] at hreq
    rcases hreq with (hreq | hreq) | hreq
    · exact .inl hreq
    · exact .inr (.inr (.inl hreq))
    · exact .inr (.inr (.inr hreq))
  · exact .inr (.inl (nodeTaken_changed.raisesPass_of_demand h.settles ht hdemand))

theorem hasCause_eq {c : Cause} (hc : c ≠ .ticketAtRisk) : hasCause t.attention.flags c.number = hasCause flags c.number :=
  h.settles.hasCause hc

theorem buses_eq : t.buses = s.buses.map t.deriveBus := nodeTaken_changed.settled_buses h.settles

/-! ## The berths -/

theorem berths_eq :
    t.berths = s.berths.map fun b =>
      (s.nodeTaken line run grid flags base).withdrawn (b.retargeted (s.zeroesTargets run grid)) :=
  nodeTaken_changed.settled_berths h.settles

theorem grantInFlight (n : Nat) : (s.nodeTaken line run grid flags base).grantInFlight n = false :=
  grantInFlight_of_none (s := s.nodeTaken line run grid flags base) h.idle n

/-- R54: nothing of a berth changes but its targets, with the grant due mark. -/
theorem berths_setTarget : List.Forall₂ (fun b b' => b' = b.setTarget false b'.wanted b'.decided) s.berths t.berths := by
  rw [h.berths_eq, List.forall₂_map_right_iff, List.forall₂_same]
  intro b _
  cases s.zeroesTargets run grid with
  | false =>
    have := withdrawn_eq_setTarget (s.nodeTaken line run grid flags base) b
    rwa [h.grantInFlight] at this
  | true =>
    have hsame : (s.nodeTaken line run grid flags base).withdrawn (b.retargeted true) = b.retargeted true :=
      if_neg fun hneg => absurd hneg.1 (lt_irrefl 0)
    rw [hsame]
    rfl

/-- R79: the run leaves RUNNING, or a sag begins. -/
theorem zero_targets (hz : s.zeroesTargets run grid = true) : ∀ b ∈ t.berths, b.wanted = 0 ∧ b.decided = 0 := by
  intro b hb
  rw [h.berths_eq, hz] at hb
  obtain ⟨r, -, rfl⟩ := List.mem_map.1 hb
  have hsame : (s.nodeTaken line run grid flags base).withdrawn (r.retargeted true) = r.retargeted true :=
    if_neg fun hneg => absurd hneg.1 (lt_irrefl 0)
  rw [hsame]
  exact ⟨rfl, rfl⟩

/-- R93: targets that are not set to 0 are kept, but for a withdrawal (R20). -/
theorem kept_targets (ht : s.tablesOk = true) (hz : s.zeroesTargets run grid = false) :
    List.Forall₂ (s.keepsTargets t) s.berths t.berths := by
  rw [h.berths_eq, List.forall₂_map_right_iff, List.forall₂_same, hz]
  exact fun b _ => nodeTaken_changed.keepsTargets h.settles ht rfl rfl

/-- R39: no berth enters or leaves FAULTED, so the fault episode stands. -/
theorem armed : t.attention.armed = s.attention.armed := by
  have hstate : t.berths.map Berth.state = s.berths.map Berth.state := by
    rw [h.berths_eq]
    refine map_view_map (fun b => ?_) s.berths
    have : ((s.nodeTaken line run grid flags base).withdrawn (b.retargeted (s.zeroesTargets run grid))).state =
      (b.retargeted (s.zeroesTargets run grid)).state := congrArg (fun l => l.2.1) (withdrawn_limits _ _)
    rw [this]
    cases s.zeroesTargets run grid <;> rfl
  have hcount : t.faultedCount = s.faultedCount := by
    unfold State.faultedCount countOf
    have count (l : List Berth) : (l.filter fun b => b.state == .faulted).length =
        ((l.map Berth.state).filter (· == .faulted)).length := by
      rw [List.filter_map, List.length_map]
      rfl
    rw [count, count, hstate]
  obtain ⟨_, _, _, _, _, _, _, ⟨_, harmed⟩, _⟩ := h.settles
  rw [harmed, hcount]
  show (s.attention.armed || (s.faultedCount != 0 && s.faultedCount == 0)) = s.attention.armed
  cases hz : s.faultedCount == 0 <;> simp [bne, hz]

end NodeEvent

/-- R77, R78: the ceilings while they are held. -/
theorem ceilings_of_held {t : State} (hc : t.ceilingsCurrent) (hheld : t.heldAtZero = true) :
    t.alloc.importCeiling = 0 ∧ t.alloc.exportCeiling = 0 ∧ t.alloc.binding = .held := by
  obtain ⟨himport, hbinding, hexport⟩ := hc
  rw [State.importCeilingNow, if_pos hheld] at himport hbinding
  rw [State.exportCeilingNow, if_pos hheld] at hexport
  exact ⟨himport, hexport, hbinding⟩

/-! ## A valid METER -/

section
variable {s : State} {measured : Nat} {warn : Bool}

theorem meterRun_of_arises (h : s.overdrawArises measured = true) :
    s.meterRun measured warn = { (s.overdrawCounted measured).aborted .overdraw with thermalPause := warn } := by
  unfold State.meterRun
  rw [if_pos h]
  exact (warned_aborted ..).1

variable (h : s.overdrawArises measured = false)
include h

theorem meterRun_of_pause (hp : (s.overdrawCounted measured).pausedBy warn = true) :
    s.meterRun measured warn = { s.overdrawCounted measured with state := .paused, thermalPause := warn } := by
  unfold State.meterRun RunControl.warned
  rw [h, if_neg Bool.false_ne_true, if_pos hp]

variable (hp : (s.overdrawCounted measured).pausedBy warn = false)
include hp

theorem meterRun_of_resume (hr : (s.overdrawCounted measured).resumedBy warn = true) :
    s.meterRun measured warn =
      if (s.overdrawCounted measured).overdraw = 3 ∧ s.profile.overdrawAbort = true then
        { (s.overdrawCounted measured).aborted .overdraw with thermalPause := warn }
      else { s.overdrawCounted measured with state := .running, thermalPause := warn } := by
  unfold State.meterRun RunControl.warned
  rw [h, if_neg Bool.false_ne_true, hp, if_neg Bool.false_ne_true, if_pos hr]
  simp only [decide_eq_true_eq]
  split <;> rfl

theorem meterRun_of_neither (hr : (s.overdrawCounted measured).resumedBy warn = false) :
    s.meterRun measured warn = { s.overdrawCounted measured with thermalPause := warn } := by
  unfold State.meterRun RunControl.warned
  rw [h, if_neg Bool.false_ne_true, hp, if_neg Bool.false_ne_true, hr, if_neg Bool.false_ne_true]

end

/-- R70: a METER does not take the run into STARTING. -/
theorem meterRun_starting {s : State} {measured : Nat} {warn : Bool} (hs : (s.meterRun measured warn).state = .starting) :
    s.run.state = .starting := by
  cases h : s.overdrawArises measured with
  | true =>
    rw [meterRun_of_arises h] at hs
    cases hs
  | false =>
    cases hp : (s.overdrawCounted measured).pausedBy warn with
    | true =>
      rw [meterRun_of_pause h hp] at hs
      cases hs
    | false =>
      cases hr : (s.overdrawCounted measured).resumedBy warn with
      | true =>
        rw [meterRun_of_resume h hp hr] at hs
        split at hs <;> cases hs
      | false =>
        rw [meterRun_of_neither h hp hr] at hs
        exact hs

/-- The flags that a METER raises: SAG, and RUN_ABORTED by its own abort or by the end of its round. -/
def State.meterFlags (body : MeterBody) (aborted : Bool) (s : State) : BitVec 14 :=
  if aborted then
    (if s.meterAborts (measuredImport body) (body.transformer != 0#8) then
      s.sagFlags (feederVoltage body) ||| causeBit Cause.runAborted.number
    else s.sagFlags (feederVoltage body)) ||| causeBit Cause.runAborted.number
  else if s.meterAborts (measuredImport body) (body.transformer != 0#8) then
    s.sagFlags (feederVoltage body) ||| causeBit Cause.runAborted.number
  else s.sagFlags (feederVoltage body)

theorem hasCause_meterFlags (body : MeterBody) (aborted : Bool) (s : State) (c : Cause) :
    hasCause (s.meterFlags body aborted) c.number =
      (hasCause s.attention.flags c.number
        || (!s.grid.sag && (s.gridHeard (feederVoltage body)).sag && decide (c = .sag))
        || (s.meterAborts (measuredImport body) (body.transformer != 0#8) && decide (c = .runAborted))
        || (aborted && decide (c = .runAborted))) := by
  unfold State.meterFlags State.sagFlags
  rw [hasCause_raised, hasCause_raised, hasCause_raised]

/-- A valid METER to the poll of the meter node is the end of that poll. -/
theorem exec_meter {body : MeterBody} {s : State} (hp : s.powered = true)
    (he : s.line.exchange = some { address := 0, kind := .poll, void := false }) :
    ∃ t line run aborted, exec (.meter body) s = .next t
      ∧ NodeEvent s t line run (s.gridHeard (feederVoltage body)) (s.meterFlags body aborted) (s.baseLoadFor (measuredImport body))
      ∧ (let ended : State :=
          State.roundEnded 0
            { s with
              line := { s.line with exchange := none, meterMiss := 0 }
              run := s.meterRun (measuredImport body) (body.transformer != 0#8) }
        ended.line = line ∧ ended.run = run
          ∧ hasCause ended.attention.flags Cause.runAborted.number =
            (hasCause s.attention.flags Cause.runAborted.number || aborted)) := by
  have hmeter : s.endExchange.takeMeter body =
      s.nodeTaken { s.line with exchange := none, meterMiss := 0 }
        (s.meterRun (measuredImport body) (body.transformer != 0#8)) (s.gridHeard (feederVoltage body)) (s.meterFlags body false)
        (s.baseLoadFor (measuredImport body)) := takeMeter_eq (s := s.endExchange) rfl body
  obtain ⟨line, run, aborted, hline, -, hround, hline', hrun', hflags'⟩ :=
    nodeTaken_roundEnded s 0 (s.gridHeard (feederVoltage body)) (line := { s.line with exchange := none, meterMiss := 0 })
    (s.meterFlags body false) (s.baseLoadFor (measuredImport body)) meterRun_starting
  have hpoll : s.pollMeter body = s.nodeTaken line run (s.gridHeard (feederVoltage body)) (s.meterFlags body aborted)
      (s.baseLoadFor (measuredImport body)) := by
    unfold State.pollMeter
    rw [pollEnded_eq, hmeter, hround]
    rfl
  have hreply : s.takeReply (.meter 0#8 body) = (s.pollMeter body).closeEvent s := by
    rw [takeReply_of_live he rfl]
    rfl
  have hsettles := closeEvent_settles s (s.pollMeter body)
  rw [← hreply, hpoll] at hsettles
  refine ⟨_, line, run, aborted, exec_event hp rfl, ⟨hsettles, hline⟩, hline', hrun', ?_⟩
  rw [hflags', hasCause_raised]
  simp

/-- Settles O46: METER by what it shows at run control (`meterRun`) and at the grid line monitor (`gridHeard`), then the end of its
round; the end of the event settles the rest. -/
theorem meterHandsOnItsContents : Obligations.MeterHandsOnItsContents := by
  intro body s hp he measured voltage low count warn shows counted aborted arises pauses resumes overdrawn
  obtain ⟨t, line, run, abortedByRound, hexec, h, hline, hrun, hflags⟩ := exec_meter (body := body) hp he
  obtain ⟨htline, htrun, htgrid, htbase⟩ := h.given
  have harises : s.overdrawArises measured = true ↔ arises := decide_eq_true_iff
  have hpaused : counted.pausedBy warn = true ↔ s.run.state = .running ∧ warn = true ∧ s.run.thermalPause = false :=
    decide_eq_true_iff
  have hresumed : counted.resumedBy warn = true ↔ resumes := decide_eq_true_iff
  have habort : s.meterAborts measured warn = true ↔ arises ∨ (resumes ∧ overdrawn) := by
    unfold State.meterAborts
    rw [Bool.or_eq_true, Bool.and_eq_true, decide_eq_true_eq]
    exact or_congr harises (and_congr_left' hresumed)
  have hpausesOnly (hr : resumes) : s.overdrawArises measured = false ∧ counted.pausedBy warn = false := by
    refine ⟨Bool.eq_false_iff.2 fun ha => ?_, Bool.eq_false_iff.2 fun hp => ?_⟩
    · obtain ⟨_, _, _, hs⟩ := harises.1 ha
      simp [hr.1] at hs
    · obtain ⟨hs, _⟩ := hpaused.1 hp
      cases hr.1.symm.trans hs
  have hzero : s.zeroesTargets run t.grid = true ↔
      (s.run.state = .running ∧ t.run.state ≠ .running) ∨ (s.grid.sag = false ∧ t.grid.sag = true) := by
    rw [htrun]
    simp [State.zeroesTargets]
  rw [htgrid] at hzero
  have hcause (c : Cause) (hc : c ≠ .ticketAtRisk) : hasCause t.attention.flags c.number = _ :=
    (h.hasCause_eq hc).trans (hasCause_meterFlags body abortedByRound s c)
  refine ⟨t, s.meterRun measured warn, hexec, fun ha => meterRun_of_arises (harises.2 ha), fun ⟨hs, hna, hw, ht⟩ => ?_,
    fun hr ho => ?_, fun hr ho => ?_, fun hna hnp hnr => ?_,
    ⟨htline.trans hline.symm, htrun.trans hrun.symm, fun hmoved => h.passRequested (.inl hmoved), ?_⟩, ?_, htgrid, ?_,
    fun c hsag hrisk hab => ?_, fun hsag hlow hcount => ?_, fun hmoved => h.passRequested (.inr hmoved),
    fun hne hs => h.zero_targets (hzero.2 (.inl ⟨hs, hne⟩)), h.handsOn ?_, h.passRequested_of_base, h.buses_eq,
    h.berths_setTarget, fun ht hsag hs => h.kept_targets ht ?_, ?_⟩
  · exact meterRun_of_pause (Bool.eq_false_iff.2 fun ha => hna (harises.1 ha)) (hpaused.2 ⟨hs, hw, ht⟩)
  · obtain ⟨ha, hp⟩ := hpausesOnly hr
    exact (meterRun_of_resume ha hp (hresumed.2 hr)).trans (if_pos ho)
  · obtain ⟨ha, hp⟩ := hpausesOnly hr
    exact (meterRun_of_resume ha hp (hresumed.2 hr)).trans (if_neg ho)
  · refine meterRun_of_neither (Bool.eq_false_iff.2 fun ha => hna (harises.1 ha)) (Bool.eq_false_iff.2 fun hp => hnp ?_)
      (Bool.eq_false_iff.2 fun hr => hnr (hresumed.1 hr))
    obtain ⟨hs, hw, ht⟩ := hpaused.1 hp
    exact ⟨hs, hna, hw, ht⟩
  · rw [hcause .runAborted (by decide)]
    refine Iff.trans ?_ (or_congr (Bool.eq_iff_iff.1 hflags).symm habort)
    simp only [Bool.or_eq_true, reduceCtorEq, decide_false, Bool.and_false, decide_true, Bool.and_true, Bool.false_eq_true,
      or_false]
    exact or_right_comm
  · have hpart (x : Int) : (max x 0).toNat = importPart x := by
      unfold importPart
      omega
    simp only [hpart]
    exact htbase
  · rw [hcause .sag (by decide), htgrid]
    simp
  · rw [hcause c hrisk]
    simp [hsag, hab]
  · have hsagged : (s.gridHeard voltage).sag = true := by
      unfold State.gridHeard
      rw [if_pos hlow, decide_eq_true hcount, Bool.or_true]
    have hinForce : t.grid.sag = true := (congrArg GridMonitor.sag htgrid).trans hsagged
    obtain ⟨_, _, _, _, _, _, hceilings, _⟩ := h.settles
    exact ⟨h.zero_targets (hzero.2 (.inr ⟨hsag, hsagged⟩)), ceilings_of_held hceilings (by simp [State.heldAtZero, hinForce])⟩
  · rw [hasCause_meterFlags]
    simp
  · refine Bool.eq_false_iff.2 fun hz => ?_
    rcases hzero.1 hz with ⟨hrunning, hleft⟩ | ⟨hbegan, hsagged⟩
    · exact hs.elim (fun h => h hrunning) hleft
    · rw [htgrid, hbegan, hsagged] at hsag
      simp at hsag
  · obtain ⟨hprofile, hclock, hpledges, hstore, hsupervision, hdepot⟩ := h.rest
    exact ⟨hprofile, hclock, hpledges, hstore, hsupervision, hdepot, h.armed⟩

end Sys2Proof.Machine
end

section
/-! PROOFS. A miss (R37, R39, R45, R52, R56, R57): what it leaves of the berth polled or granted and of its bus. -/

namespace Sys2Proof.Machine

/-! ## The fault episode (R39) -/

theorem faultEntered_hasCause (entered : Bool) (a : Attention) (c : Cause) :
    hasCause (a.faultEntered entered).flags c.number =
      (hasCause a.flags c.number || (decide (c = .berthFault) && (a.armed && entered))) := by
  unfold Attention.faultEntered
  cases h : entered && a.armed with
  | false => simp [Bool.and_comm a.armed, h]
  | true =>
    rw [if_pos rfl, Bool.and_comm a.armed, h, Bool.and_true]
    exact (hasCause_or ..).trans (congrArg _ (hasCause_causeBit ..))

theorem faultEntered_armed (entered : Bool) (a : Attention) : (a.faultEntered entered).armed = (a.armed && !entered) := by
  unfold Attention.faultEntered
  cases entered <;> cases ha : a.armed <;> simp [ha]

/-! ## The berth of a miss (R37, R52, R56, R57) -/

/-- R52, R56: the miss is a third one. -/
def Berth.missedThrice (b : Berth) : Bool := decide (b.missCount = 2 ∨ (b.missCount = 3 ∧ b.state ≠ .faulted))

/-- R37: the miss makes the berth FAULTED with cause SILENT. -/
def Berth.silenced (b : Berth) : Bool := b.missedThrice && !b.faultedWith .refused

theorem missedThrice_iff (b : Berth) :
    b.missedThrice = true ↔ b.missCount = 2 ∨ (b.missCount = 3 ∧ b.state ≠ .faulted) := decide_eq_true_iff

theorem silenced_iff (b : Berth) :
    b.silenced = true ↔ b.missedThrice = true ∧ ¬ (b.state = .faulted ∧ b.faultCause = some .refused) := by
  unfold Berth.silenced Berth.faultedWith
  rw [Bool.and_eq_true, Bool.not_eq_true', ← Bool.not_eq_true, Bool.and_eq_true, beq_iff_eq, beq_iff_eq]

/-- R52, R56: a berth whose miss has been counted. -/
def Berth.missCounted (b : Berth) : Berth := { b with missCount := min 3 (b.missCount + 1) }

/-- R37, R52, R56: a berth after a miss. -/
def Berth.missed (b : Berth) : Berth := if b.silenced then b.missCounted.faultedBy false .silent none else b.missCounted

/-- R13, R37: a bus after a miss of berth `b`. -/
def Bus.missedAt (b : Berth) (x : Bus) : Bus := if b.missedThrice = true ∧ b.busOccupant = some x.fleet then x.goStale else x

@[simp] theorem missed_number (b : Berth) : b.missed.number = b.number := by
  unfold Berth.missed
  split <;> rfl

@[simp] theorem missedAt_fleet (b : Berth) (x : Bus) : (x.missedAt b).fleet = x.fleet := by
  unfold Bus.missedAt
  split <;> rfl

theorem missedAt_demand (b : Berth) (x : Bus) : (x.missedAt b).demandView = x.demandView := by
  unfold Bus.missedAt
  split <;> rfl

theorem goStale_eq (x : Bus) : x.goStale = if x.freshness = .fresh then { x with freshness := .stale } else x := by
  obtain ⟨_, _, _, _, _, _, _, _, _, _, _, _, _, freshness, _, _, _, _⟩ := x
  cases freshness <;> rfl

/-- R37: what a miss changes of a berth besides the count: plug state, fault and targets where it is silenced. -/
theorem missed_eq (b : Berth) : b.missed = (b.missCounted.retargeted b.silenced).takesPlug b.missed := by
  unfold Berth.missed
  cases b.silenced <;> rfl

theorem missed_of_not_silenced {b : Berth} (h : b.silenced = false) : b.missed = b.missCounted := by
  unfold Berth.missed
  rw [h, if_neg Bool.false_ne_true]

theorem missed_of_silenced {b : Berth} (h : b.silenced = true) : b.missed = b.missCounted.faultedBy false .silent none :=
  if_pos h

/-- R39: a miss enters FAULTED where it silences a berth in another state. -/
theorem missed_enters (b : Berth) :
    (b.state != .faulted && b.missed.state == .faulted) = (b.silenced && b.state != .faulted) := by
  cases h : b.silenced with
  | true =>
    rw [missed_of_silenced h, faultedBy_state]
    exact Bool.and_comm ..
  | false =>
    rw [missed_of_not_silenced h]
    show (b.state != .faulted && b.state == .faulted) = false
    unfold bne
    cases b.state == .faulted <;> rfl

/-! ## The records that a miss leaves -/

/-- The records once a miss has made berth `b` into `b'`. -/
def State.missTaken (b b' : Berth) (s : State) : State :=
  { s with
    berths := s.berths.map fun r => if r.number = b.number then b' else r
    buses := s.buses.map (Bus.missedAt b)
    line := { s.line with exchange := none }
    attention := s.attention.faultEntered (b.state != .faulted && b'.state == .faulted) }

section
variable {s : State} {n : Nat} {b : Berth}

theorem staleOccupant_eq (hb : s.berth? n = some b) :
    s.staleOccupant n = { s with buses := s.buses.map fun x => if b.busOccupant = some x.fleet then x.goStale else x } := by
  unfold State.staleOccupant
  rw [hb, Option.bind_some]
  cases ho : b.busOccupant with
  | none => simp
  | some k =>
    dsimp only
    unfold State.updBus
    rw [updateKey_eq_map]
    simp only [Option.some.injEq, eq_comm]

variable (ht : s.tablesOk = true) (hb : s.berth? n = some b) (he : s.line.exchange = none)
include ht hb he

/-- R37: a third miss of a berth whose count has been taken. -/
theorem thirdMiss_eq {c : Berth} (hn : c.number = n) :
    (s.updBerth n fun _ => c).thirdMiss n =
      { (s.updBerth n fun _ => if c.faultedWith .refused then c else c.faultedBy false .silent none) with
        buses := s.buses.map fun x => if c.busOccupant = some x.fleet then x.goStale else x
        attention := s.attention.faultEntered (!c.faultedWith .refused && c.state != .faulted) } := by
  have hfound := berth?_updBerth_const hb hn
  unfold State.thirdMiss
  rw [hfound]
  dsimp only
  cases hr : c.faultedWith .refused with
  | true =>
    rw [if_pos rfl, if_pos rfl, staleOccupant_eq hfound]
    simp
  | false =>
    have hsilent := fault_updBerth ht hb hn .silent none
    rw [grantInFlight_of_none he] at hsilent
    have hfaulted : ((s.updBerth n fun _ => c.faultedBy false .silent none).withAttention
        (s.attention.faultEntered (c.state != .faulted))).berth? n = some (c.faultedBy false .silent none) :=
      berth?_updBerth_const hb hn
    rw [if_neg Bool.false_ne_true, if_neg Bool.false_ne_true, hsilent, staleOccupant_eq hfaulted]
    rfl

/-- R37, R52, R56: a miss counted at a berth. -/
theorem countMiss_eq : s.countMiss n = s.missTaken b b.missed := by
  have hn : b.number = n := number_of_berth? hb
  have hcount : s.updBerth n (fun b => { b with missCount := min 3 (b.missCount + 1) }) = s.updBerth n fun _ => b.missCounted :=
    updBerth_eq ht hb Berth.missCounted
  have hline : { s.line with exchange := none } = s.line := by rw [← he]
  have hthird := thirdMiss_eq ht hb he (c := b.missCounted) hn
  unfold State.countMiss State.missTaken Bus.missedAt
  rw [hb, missed_enters, hline]
  dsimp only
  rw [hcount, hthird]
  cases h : b.missedThrice with
  | false =>
    have hnot : ¬ (b.missCount = 2 ∨ (b.missCount = 3 ∧ b.state ≠ .faulted)) := of_decide_eq_false h
    have hheard : b.silenced = false := by
      unfold Berth.silenced
      rw [h, Bool.false_and]
    rw [if_neg hnot, missed_of_not_silenced hheard, hheard]
    unfold State.updBerth
    rw [updateKey_eq_map, hn]
    simp [Attention.faultEntered]
  | true =>
    have hsilenced : b.silenced = !b.missCounted.faultedWith .refused := by
      unfold Berth.silenced
      rw [h, Bool.true_and]
      rfl
    have hmissed : b.missed =
        if b.missCounted.faultedWith .refused then b.missCounted else b.missCounted.faultedBy false .silent none := by
      unfold Berth.missed
      rw [hsilenced]
      cases b.missCounted.faultedWith .refused <;> rfl
    rw [if_pos (of_decide_eq_true h), hmissed, hsilenced]
    unfold State.updBerth
    rw [updateKey_eq_map, hn]
    simp only [true_and]
    rfl

end

end Sys2Proof.Machine
end

section
/-! PROOFS. A miss of a dispenser's poll or grant (R37, R39, R45, R49 to R52, R56, R57, R66, R93), to the end of its event. -/

namespace Sys2Proof.Machine

/-! ## The berth at the end of the exchange (R56, R57) -/

/-- R52, R56, R57: the berth of a missed exchange: the end of a poll ends its retry wait, and a grant is held back. -/
def Berth.missEnded (kind : ExchangeKind) (b : Berth) : Berth :=
  match kind with
  | .poll => b.missed.endRetry
  | .grant _ => b.missed.holdBack

section
variable (kind : ExchangeKind) (b : Berth)

/-- R56, R57: what the end of the exchange changes of a berth after a miss. -/
theorem missEnded_eq :
    b.missEnded kind =
      { b.missed with retryWait := decide (kind ≠ .poll), grantDue := (b.missEnded kind).grantDue } := by
  cases kind with
  | poll =>
    unfold Berth.missEnded
    rw [endRetry_eq]
    rfl
  | grant target => rfl

@[simp] theorem missEnded_number : (b.missEnded kind).number = b.number := by
  rw [missEnded_eq]
  exact missed_number b

@[simp] theorem missEnded_state : (b.missEnded kind).state = b.missed.state := by rw [missEnded_eq]

/-- R56: a miss of a grant held back is the miss of the berth, held back. -/
theorem missed_holdBack : b.holdBack.missed = b.missed.holdBack := by
  have hsame : b.holdBack.silenced = b.silenced := rfl
  unfold Berth.missed
  rw [hsame]
  cases b.silenced with
  | false => rfl
  | true =>
    simp [Berth.holdBack, Berth.missCounted, Berth.faultedBy, Berth.setTarget]
    rfl

end

/-! ## The records at the end of the exchange -/

section
variable {s : State} {n : Nat} {b : Berth}

/-- A further change of the berth that a miss has made, in the same plug state. -/
theorem missTaken_updBerth {b' : Berth} (hn : b.number = n) (hn' : b'.number = n) {g : Berth → Berth}
    (hs : (g b').state = b'.state) : (s.missTaken b b').updBerth n g = s.missTaken b (g b') := by
  unfold State.missTaken State.updBerth
  rw [updateKey_eq_map, hn, hs, map_replaced hn']

variable (ht : s.tablesOk = true) (hb : s.berth? n = some b)
include ht hb

/-- R52, R57: a missed poll of a dispenser. -/
theorem exchangeMissed_poll (hn : n ≠ 0) :
    s.exchangeMissed { address := n, kind := .poll, void := false } =
      (s.missTaken b (b.missEnded .poll)).roundEnded n := by
  have hnumber : b.number = n := number_of_berth? hb
  have hcount : s.endExchange.countMiss n = s.missTaken b b.missed := countMiss_eq (s := s.endExchange) ht hb rfl
  have hmissed : s.exchangeMissed { address := n, kind := .poll, void := false } =
      (s.endExchange.countMiss n).berthPollEnded n := if_neg hn
  rw [hmissed, hcount]
  unfold State.berthPollEnded
  rw [pollEnded_eq, missTaken_updBerth hnumber ((missed_number b).trans hnumber) (endRetry_state _)]
  rfl

/-- R56: a missed grant. -/
theorem exchangeMissed_grant (target : Int) :
    s.exchangeMissed { address := n, kind := .grant target, void := false } =
      s.missTaken b (b.missEnded (.grant target)) := by
  have hnumber : b.number = n := number_of_berth? hb
  have hheld : s.endExchange.updBerth n Berth.holdBack = s.endExchange.updBerth n fun _ => b.holdBack :=
    updBerth_eq (s := s.endExchange) ht hb Berth.holdBack
  have htables : (s.endExchange.updBerth n fun _ => b.holdBack).tablesOk = true :=
    (tablesOk_of_keys (updBerth_const_keys (b' := b.holdBack) hnumber s.endExchange)).trans ht
  have hfound : (s.endExchange.updBerth n fun _ => b.holdBack).berth? n = some b.holdBack :=
    berth?_updBerth_const (s := s.endExchange) hb hnumber
  have hcount := countMiss_eq htables hfound rfl
  rw [missed_holdBack] at hcount
  show (s.endExchange.updBerth n Berth.holdBack).countMiss n = s.missTaken b b.missed.holdBack
  rw [hheld, hcount]
  unfold State.missTaken State.updBerth
  rw [updateKey_eq_map]
  dsimp only
  rw [show b.holdBack.number = n from hnumber, hnumber, map_replaced (b₁ := b.holdBack) hnumber]
  rfl

end

/-! ## The event -/

/-- A miss in the exchange with berth `n`: `b` is the berth before, `post` the state that the owners have left and `t` the state
after the end of the event. -/
structure MissEvent (n : Nat) (kind : ExchangeKind) (s : State) (b : Berth) (post t : State) : Prop where
  tables : s.tablesOk = true
  found : s.berth? n = some b
  left : ∃ line run moved aborted, line.exchange = none ∧ (moved = true → run.state ≠ s.run.state)
    ∧ post = (s.missTaken b (b.missEnded kind)).roundTaken line run moved aborted
  settles : Settles s post t

/-- R43, R45: REPLY_TIMEOUT, and characters that are no reply, are a miss. -/
theorem exec_miss {s : State} (hp : s.powered = true) :
    exec .replyTimeout s = .next s.takeMiss
      ∧ ∀ chars, parseReply chars = none → exec (.invalidReply chars) s = .next s.takeMiss :=
  ⟨exec_event hp rfl, fun chars h => by rw [exec_event hp rfl, takeChars_of_none s h]⟩

section
variable {n : Nat} {s : State} {b : Berth} (ht : s.tablesOk = true) (hb : s.berth? n = some b)
include ht hb

/-- A missed poll of a dispenser is such an event, and it ends as a round's poll does. -/
theorem takeMiss_poll (he : s.line.exchange = some { address := n, kind := .poll, void := false }) (hn : n ≠ 0) :
    ∃ post, MissEvent n .poll s b post s.takeMiss
      ∧ s.takeMiss.takesRoundOf (State.roundEnded n { s with line := { s.line with exchange := none } }) := by
  obtain ⟨line, run, moved, aborted, hline, hmoved, hreads⟩ := roundEnded_reads n s.endExchange
  have hpost := hreads (s.missTaken b (b.missEnded .poll)) rfl rfl rfl
  have hended := hreads s.endExchange rfl rfl rfl
  have hset := closeEvent_settles s (s.exchangeMissed { address := n, kind := .poll, void := false })
  rw [← takeMiss_of_live he rfl, exchangeMissed_poll ht hb hn, hpost] at hset
  obtain ⟨⟨_, _, hsline, hsrun, _⟩, _⟩ := id hset
  refine ⟨_, ⟨ht, hb, ⟨line, run, moved, aborted, hline, hmoved, rfl⟩, hset⟩, ?_⟩
  show State.takesRoundOf _ (s.endExchange.roundEnded n)
  rw [hended]
  refine ⟨hsline, hsrun, fun hreq => hset.pass_requested_iff.2 (.inl hreq), ?_⟩
  have hquiet := faultEntered_hasCause (b.state != .faulted && (b.missEnded .poll).state == .faulted) s.attention .runAborted
  rw [decide_eq_false (by decide), Bool.false_and, Bool.or_false] at hquiet
  rw [hset.hasCause (by decide)]
  exact (hasCause_raised aborted _ .runAborted .runAborted).trans
    ((congrArg (· || _) hquiet).trans (hasCause_raised aborted _ .runAborted .runAborted).symm)

/-- A missed grant is such an event, and leaves line and run. -/
theorem takeMiss_grant {target : Int} (he : s.line.exchange = some { address := n, kind := .grant target, void := false }) :
    ∃ post, MissEvent n (.grant target) s b post s.takeMiss
      ∧ s.takeMiss.line = { s.line with exchange := none } ∧ s.takeMiss.run = s.run := by
  have hset := closeEvent_settles s (s.exchangeMissed { address := n, kind := .grant target, void := false })
  rw [← takeMiss_of_live he rfl, exchangeMissed_grant ht hb] at hset
  obtain ⟨⟨_, _, hsline, hsrun, _⟩, _⟩ := id hset
  exact ⟨_, ⟨ht, hb, ⟨_, _, false, false, rfl, nofun, (roundTaken_self _).symm⟩, hset⟩, hsline, hsrun⟩

end

/-- A miss in the exchange with a berth, whatever its kind. -/
theorem takeMiss_berth {n : Nat} {kind : ExchangeKind} {s : State} {b : Berth} (ht : s.tablesOk = true)
    (hb : s.berth? n = some b) (he : s.line.exchange = some { address := n, kind := kind, void := false })
    (hk : kind ≠ .poll ∨ n ≠ 0) :
    ∃ post, MissEvent n kind s b post s.takeMiss
      ∧ (kind = .poll → s.takeMiss.takesRoundOf (State.roundEnded n { s with line := { s.line with exchange := none } }))
      ∧ (kind ≠ .poll → s.takeMiss.line = { s.line with exchange := none } ∧ s.takeMiss.run = s.run) := by
  cases kind with
  | poll =>
    obtain ⟨post, h, hround⟩ := takeMiss_poll ht hb he (hk.resolve_left fun hne => hne rfl)
    exact ⟨post, h, fun _ => hround, fun hne => absurd rfl hne⟩
  | grant target =>
    obtain ⟨post, h, hkept⟩ := takeMiss_grant ht hb he
    exact ⟨post, h, nofun, fun _ => hkept⟩

namespace MissEvent

variable {n : Nat} {kind : ExchangeKind} {s post t : State} {b : Berth} (h : MissEvent n kind s b post t)
include h

theorem number : b.number = n := number_of_berth? h.found

/-- The event in terms of the berths and buses that its owners have changed. -/
theorem changed : ChangedInPlace s post (Bus.missedAt b) fun r => if r.number = b.number then b.missEnded kind else r := by
  obtain ⟨line, run, moved, aborted, _, _, rfl⟩ := h.left
  refine ⟨rfl, rfl, missedAt_fleet b, missedAt_demand b, fun r => ?_⟩
  split
  · rename_i hr
    exact (missEnded_number kind b).trans hr.symm
  · rfl

theorem grantInFlight (m : Nat) : post.grantInFlight m = false := by
  obtain ⟨line, run, moved, aborted, hline, _, rfl⟩ := h.left
  unfold State.grantInFlight State.roundTaken
  rw [hline]

/-! ### The berth -/

theorem berth?_self : t.berth? n = some (post.withdrawn (b.missEnded kind)) := by
  rw [h.changed.settled_berth? h.settles, h.found, Option.map_some, if_pos rfl]

omit h in
/-- What the end of the event leaves of plug state, occupant and fault. -/
theorem fields : (post.withdrawn (b.missEnded kind)).state = b.missed.state
    ∧ (post.withdrawn (b.missEnded kind)).occupant = b.missed.occupant
    ∧ (post.withdrawn (b.missEnded kind)).foreignReason = b.missed.foreignReason
    ∧ (post.withdrawn (b.missEnded kind)).faultCause = b.missed.faultCause
    ∧ (post.withdrawn (b.missEnded kind)).dispenserCode = b.missed.dispenserCode := by
  rw [withdrawn_eq_setTarget, missEnded_eq]
  exact ⟨rfl, rfl, rfl, rfl, rfl⟩

omit h in
/-- R52, R54, R56, R57: the fields that a miss leaves. -/
theorem berth_eq :
    post.withdrawn (b.missEnded kind) =
      { b with
        state := (post.withdrawn (b.missEnded kind)).state, occupant := (post.withdrawn (b.missEnded kind)).occupant
        foreignReason := (post.withdrawn (b.missEnded kind)).foreignReason
        faultCause := (post.withdrawn (b.missEnded kind)).faultCause
        dispenserCode := (post.withdrawn (b.missEnded kind)).dispenserCode
        wanted := (post.withdrawn (b.missEnded kind)).wanted, decided := (post.withdrawn (b.missEnded kind)).decided
        grantDue := (post.withdrawn (b.missEnded kind)).grantDue
        missCount := min 3 (b.missCount + 1), retryWait := decide (kind ≠ .poll) } := by
  obtain ⟨w, d, g, htargets⟩ := retargeted_eq b.silenced b.missCounted
  have hset := withdrawn_eq_setTarget post (b.missEnded kind)
  rw [missEnded_eq, missed_eq, htargets] at hset ⊢
  rw [hset]
  rfl

omit h in
/-- R56: no grant is due to a berth held back. -/
theorem grantDue_of_grant (hk : kind ≠ .poll) : (post.withdrawn (b.missEnded kind)).grantDue = false := by
  cases kind with
  | poll => exact absurd rfl hk
  | grant target =>
    show (post.withdrawn b.missed.holdBack).grantDue = false
    unfold State.withdrawn
    split
    · simp [Berth.setTarget, Berth.holdBack]
    · rfl

/-- R54, R57: the grant due mark after a poll. -/
theorem grantDue_of_poll (hk : kind = .poll) :
    (post.withdrawn (b.missEnded kind)).grantDue =
      if b.retryWait = false ∧ (post.withdrawn (b.missEnded kind)).decided = b.decided then b.grantDue
      else decide ((post.withdrawn (b.missEnded kind)).decided ≠ (post.withdrawn (b.missEnded kind)).sent) := by
  subst hk
  have hgrant := settledPlug_grantDue (p := b.missed) (zeroed := b.silenced) (h.grantInFlight b.missCounted.number)
  rw [← missed_eq] at hgrant
  have hsent : (post.withdrawn (b.missEnded .poll)).sent = b.sent := by rw [berth_eq]
  rw [hsent]
  exact hgrant

omit h in
/-- R37, R54: the targets of a silenced berth are 0. -/
theorem zeroed_targets (hz : b.silenced = true) :
    (post.withdrawn (b.missEnded kind)).wanted = 0 ∧ (post.withdrawn (b.missEnded kind)).decided = 0 := by
  have hmissed : (b.missEnded kind).wanted = 0 ∧ (b.missEnded kind).decided = 0 := by
    rw [missEnded_eq, missed_of_silenced hz]
    exact ⟨rfl, rfl⟩
  unfold State.withdrawn
  rw [hmissed.2, if_neg fun hneg => absurd hneg.1 (lt_irrefl 0)]
  exact hmissed

/-- R93: the targets of a berth that is not silenced are kept, but for a withdrawal (R20). -/
theorem kept_targets (hz : b.silenced = false) : s.keepsTargets t b (post.withdrawn (b.missEnded kind)) := by
  have hkept : (b.missEnded kind).wanted = b.wanted ∧ (b.missEnded kind).decided = b.decided := by
    rw [missEnded_eq, missed_of_not_silenced hz]
    exact ⟨rfl, rfl⟩
  exact h.changed.keepsTargets h.settles h.tables hkept.1 hkept.2

/-! ### The buses and the other berths -/

/-- R13, R37: the bus at the berth becomes STALE at a third miss. -/
theorem buses_eq :
    t.buses = s.buses.map fun x => t.deriveBus
      (if b.missedThrice = true ∧ b.busOccupant = some x.fleet ∧ x.freshness = .fresh then { x with freshness := .stale }
      else x) := by
  refine (h.changed.settled_buses h.settles).trans (List.map_congr_left fun x _ => congrArg t.deriveBus ?_)
  unfold Bus.missedAt
  rw [goStale_eq, ← ite_and]
  simp only [and_assoc]

/-- R93: another berth keeps all but targets withdrawn. -/
theorem other {m : Nat} {r : Berth} (hm : m ≠ n) (hr : s.berth? m = some r) :
    ∃ r', t.berth? m = some r' ∧ s.keepsTargets t r r' ∧ r' = r.setTarget false r'.wanted r'.decided := by
  have hne : ¬ r.number = b.number := by rwa [h.number, number_of_berth? hr]
  have hset := withdrawn_eq_setTarget post r
  rw [h.grantInFlight] at hset
  refine ⟨post.withdrawn r, ?_, h.changed.keepsTargets h.settles h.tables rfl rfl, hset⟩
  rw [h.changed.settled_berth? h.settles, hr, Option.map_some, if_neg hne]

/-! ### What is handed on -/

/-- R39: every flag but those of the tickets and of the run. -/
theorem flags {c : Cause} (hx : c ≠ .ticketAtRisk) (hrun : c ≠ .runAborted) :
    hasCause t.attention.flags c.number =
      (hasCause s.attention.flags c.number
        || (decide (c = .berthFault) && (s.attention.armed && (b.state != .faulted && b.missed.state == .faulted)))) := by
  rw [h.settles.hasCause hx]
  obtain ⟨line, run, moved, aborted, _, _, rfl⟩ := h.left
  refine (hasCause_raised aborted _ .runAborted c).trans ?_
  rw [decide_eq_false hrun, Bool.and_false, Bool.or_false, ← missEnded_state kind b]
  exact faultEntered_hasCause ..

/-- R39: the fault episode. -/
theorem armed : t.attention.armed =
    ((s.attention.armed && !(b.state != .faulted && b.missed.state == .faulted))
      || (s.faultedCount != 0 && t.faultedCount == 0)) := by
  obtain ⟨_, _, _, _, _, _, _, ⟨_, harmed⟩, _⟩ := id h.settles
  rw [harmed, ← missEnded_state kind b]
  obtain ⟨line, run, moved, aborted, _, _, rfl⟩ := h.left
  exact congrArg (· || _) (faultEntered_armed ..)

theorem handsOn : s.handsOn t t.gradeTicket := by
  have hchanged := h.changed
  have hgrade : s.ticketUnplugged t none = t.gradeTicket := funext fun x => ticketUnplugged_none s t x
  obtain ⟨⟨_, _, _, hrun, _⟩, _⟩ := id h.settles
  obtain ⟨line, run, moved, aborted, _, hmoved, rfl⟩ := h.left
  have htickets : ((s.missTaken b (b.missEnded kind)).roundTaken line run moved aborted).tickets =
      s.tickets.map (s.ticketReleased none) :=
    ((List.map_congr_left fun x _ => ticketReleased_none s x).trans (List.map_id' _)).symm
  rw [← hgrade]
  refine handsOn_of_settles h.settles htickets rfl ?_ fun _ hreq => ?_
  · refine (hasCause_raised aborted _ .runAborted .ticketAtRisk).trans ?_
    rw [decide_eq_false (by decide), Bool.and_false, Bool.or_false]
    refine (faultEntered_hasCause ..).trans ?_
    rw [decide_eq_false (by decide), Bool.false_and, Bool.or_false]
  · rcases hreq with hreq | hdemand
    · rcases Bool.or_eq_true_iff.1 hreq with hreq | hreq
      · exact .inl hreq
      · refine .inr (.inr (.inl ?_))
        rw [hrun]
        exact hmoved hreq
    · exact .inr (.inl (hchanged.raisesPass_of_demand h.settles h.tables hdemand))

/-- What a miss of a berth does not touch. -/
theorem rest : t.clock = s.clock ∧ t.pledges = s.pledges ∧ t.grid = s.grid ∧ t.supervision = s.supervision
    ∧ t.profile = s.profile ∧ t.store = s.store ∧ t.depot = s.depot ∧ t.alloc.baseLoad = s.alloc.baseLoad := by
  obtain ⟨⟨_, hdepot, _, _, hclock, hpledges, hgrid, hsupervision, hprofile, hstore, _, _, hbase⟩, _⟩ := h.settles
  obtain ⟨line, run, moved, aborted, _, _, rfl⟩ := h.left
  exact ⟨hclock, hpledges, hgrid, hsupervision, hprofile, hstore, hdepot, hbase⟩

end MissEvent

end Sys2Proof.Machine
end

section
/-! PROOFS. A miss of the meter node (R49 to R51, R53, R66, R69, R71, R79), to the end of its event. -/

namespace Sys2Proof.Machine

/-- R69, R71: the third miss of the meter node aborts the run. -/
def State.silenceAborts (s : State) : Bool :=
  decide (s.line.meterMiss = 2 ∧ (s.run.state = .starting ∨ s.run.state = .running) ∧ s.profile.meterSilentAbort = true)

/-- R69: the run after a miss of the meter node. -/
def State.missRun (s : State) : RunControl := if s.silenceAborts then s.run.aborted .meterSilent else s.run

/-- R53: the line after a miss of the meter node. -/
def State.missLine (s : State) : BerthLine :=
  { s.line with exchange := none, meterMiss := min 3 (s.line.meterMiss + 1) }

/-- R69: METER_SILENT is raised by the third miss. -/
def State.silenceFlags (s : State) : BitVec 14 :=
  if s.line.meterMiss == 2 then s.attention.flags ||| causeBit Cause.meterSilent.number else s.attention.flags

/-- R71: RUN_ABORTED is raised by the abort. -/
def State.missFlags (s : State) : BitVec 14 :=
  if s.silenceAborts then s.silenceFlags ||| causeBit Cause.runAborted.number else s.silenceFlags

theorem hasCause_missFlags (s : State) (c : Cause) :
    hasCause s.missFlags c.number =
      (hasCause s.attention.flags c.number || (s.line.meterMiss == 2 && decide (c = .meterSilent))
        || (s.silenceAborts && decide (c = .runAborted))) := by
  unfold State.missFlags State.silenceFlags
  rw [hasCause_raised, hasCause_raised]

section
variable {s : State}

theorem missRun_of_abort (h : s.silenceAborts = true) :
    s.missRun = { s.run with state := .idle, holdTimer := none, abortCause := some .meterSilent } := if_pos h

theorem missRun_of_no_abort (h : s.silenceAborts = false) : s.missRun = s.run := if_neg (by rw [h]; exact Bool.false_ne_true)

/-- R69: a miss does not take the run into STARTING. -/
theorem missRun_starting (h : s.missRun.state = .starting) : s.run.state = .starting := by
  cases ha : s.silenceAborts with
  | true =>
    rw [missRun_of_abort ha] at h
    cases h
  | false => rwa [missRun_of_no_abort ha] at h

/-- R53, R69: a miss of the meter node. -/
theorem meterMissed_eq :
    s.endExchange.meterMissed = s.nodeTaken s.missLine s.missRun s.grid s.missFlags s.alloc.baseLoad := by
  have hquiet (flags : BitVec 14) := nodeTaken_quiet s s.missLine (run := s.run) (grid := s.grid) flags s.alloc.baseLoad rfl rfl
  by_cases hthird : s.line.meterMiss = 2
  · have hflags : s.silenceFlags = s.attention.flags ||| causeBit Cause.meterSilent.number := if_pos (beq_iff_eq.2 hthird)
    have hraised : s.endExchange.meterMissed =
        (s.nodeTaken s.missLine s.run s.grid s.silenceFlags s.alloc.baseLoad).causeArises .meterSilent := by
      rw [hquiet, hflags]
      exact if_pos hthird
    rw [hraised, causeArises_eq (s := s.nodeTaken s.missLine s.run s.grid s.silenceFlags s.alloc.baseLoad) rfl]
    by_cases ha : (s.run.state = .starting ∨ s.run.state = .running) ∧ s.profile.meterSilentAbort = true
    · have haborts : s.silenceAborts = true := decide_eq_true ⟨hthird, ha⟩
      rw [missRun_of_abort haborts]
      unfold State.missFlags
      rw [haborts]
      exact (if_pos ha).trans (runTaken_nodeTaken s true (.inl rfl))
    · have haborts : s.silenceAborts = false := decide_eq_false fun h => ha h.2
      rw [missRun_of_no_abort haborts]
      unfold State.missFlags
      rw [haborts]
      exact if_neg ha
  · have haborts : s.silenceAborts = false := decide_eq_false fun h => hthird h.1
    have hflags : s.silenceFlags = s.attention.flags := if_neg fun h => hthird (beq_iff_eq.1 h)
    unfold State.missFlags
    rw [missRun_of_no_abort haborts, haborts, if_neg Bool.false_ne_true, hflags, hquiet]
    exact if_neg hthird

/-- A miss of the meter node is the end of its poll. -/
theorem takeMiss_meter (he : s.line.exchange = some { address := 0, kind := .poll, void := false }) :
    ∃ line run aborted,
      NodeEvent s s.takeMiss line run s.grid
        (if aborted then s.missFlags ||| causeBit Cause.runAborted.number else s.missFlags) s.alloc.baseLoad
      ∧ (run.state = s.missRun.state ∨ s.missRun.state = .starting)
      ∧ (State.roundEnded 0 { s with line := s.missLine, run := s.missRun }).line = line
      ∧ (State.roundEnded 0 { s with line := s.missLine, run := s.missRun }).run = run
      ∧ hasCause (State.roundEnded 0 { s with line := s.missLine, run := s.missRun }).attention.flags Cause.runAborted.number =
        (hasCause s.attention.flags Cause.runAborted.number || aborted) := by
  obtain ⟨line, run, aborted, hline, hstate, hround, hline', hrun', hflags'⟩ :=
    nodeTaken_roundEnded s 0 s.grid (line := s.missLine) s.missFlags s.alloc.baseLoad missRun_starting
  have hmissed : s.exchangeMissed { address := 0, kind := .poll, void := false } = s.endExchange.meterMissed.pollEnded 0 := rfl
  have hset := closeEvent_settles s (s.exchangeMissed { address := 0, kind := .poll, void := false })
  rw [← takeMiss_of_live he rfl, hmissed, pollEnded_eq, meterMissed_eq, hround] at hset
  refine ⟨line, run, aborted, ⟨hset, hline⟩, hstate, hline', hrun', ?_⟩
  rw [hflags', hasCause_raised, decide_eq_true rfl, Bool.and_true]

end

/-- R44: a METER of a foreign address is a miss. -/
theorem takeReply_misaddressed_meter {s : State} {a : Byte} (ha : a ≠ 0#8) (body : MeterBody) :
    s.takeReply (.meter a body) = s.takeMiss := by
  cases he : s.line.exchange with
  | none => rw [takeReply_of_none he, takeMiss_of_none he]
  | some e => exact takeReply_eq_takeMiss he (exchangeReply_meter_unfit s e (.inr (.inr ha)) body)

/-! ## The obligation -/

/-- Settles O48: a miss counts at its berth or at the meter node, a third one is handed on, and the end of the poll and of the event
settle the rest; what does not fit the exchange in flight is a miss. -/
theorem missesAreCounted : Obligations.MissesAreCounted := by
  intro s hp missed idle
  have hmiss : missed s.takeMiss := exec_miss hp
  refine ⟨fun chars a body h => ?_, fun chars a body h => ?_, fun chars a body h => ?_,
    fun he => ⟨?_, fun a body => ?_, fun body => ?_, fun a body => ?_⟩, fun e a body he h => ?_, fun e body he h => ?_,
    fun e a body he h => ?_, ?_, ?_⟩
  · rw [exec_event hp rfl, exec_event hp rfl, takeChars_of_some s h]
  · rw [exec_event hp rfl, exec_event hp rfl, takeChars_of_some s h]
  · rw [exec_event hp rfl, takeChars_of_some s h]
    split
    · rename_i ha
      rw [exec_event hp rfl, ha]
    · rename_i ha
      rw [hmiss.1, takeReply_misaddressed_meter ha]
  · rwa [takeMiss_of_none he] at hmiss
  · rw [exec_event hp rfl, takeReply_of_none he]
  · rw [exec_event hp rfl, takeReply_of_none he]
  · rw [exec_event hp rfl, takeReply_of_none he]
  · rw [exec_event hp rfl, takeReply_eq_takeMiss he (exchangeReply_status_unfit s e h body), hmiss.1]
  · rw [exec_event hp rfl, takeReply_eq_takeMiss he (exchangeReply_meter_unfit s e (h.imp_right .inl) body), hmiss.1]
  · rw [exec_event hp rfl, takeReply_eq_takeMiss he (exchangeReply_confirm_unfit s e h body), hmiss.1]
  · intro n kind b he hk hb ht _
    obtain ⟨post, h, hround, hgrant⟩ := takeMiss_berth ht hb he hk
    obtain ⟨hstate, hoccupant, hreason, hcause, hcode⟩ := MissEvent.fields (post := post) (kind := kind) (b := b)
    refine ⟨s.takeMiss, post.withdrawn (b.missEnded kind), hmiss, h.berth?_self, hround, hgrant, MissEvent.berth_eq,
      MissEvent.grantDue_of_grant, h.grantDue_of_poll, ?_, h.handsOn, h.changed.settled_numbers h.settles, fun m r => h.other,
      ?_, ?_, ?_, h.rest⟩
    · intro third refused
      have hthird : b.missedThrice = true ↔ third := missedThrice_iff b
      have hsilenced : b.silenced = true ↔ third ∧ ¬ refused := (silenced_iff b).trans (and_congr_left' hthird)
      have hheard (hno : ¬ third ∨ refused) : b.silenced = false := Bool.eq_false_iff.2 fun hz => by
        obtain ⟨h3, hr⟩ := hsilenced.1 hz
        exact hno.elim (fun hno => hno h3) hr
      rw [hstate, hoccupant, hreason, hcause, hcode]
      refine ⟨fun hno => ?_, fun _ hr => ?_, fun h3 hr => ?_, fun hno => h.kept_targets (hheard hno), ?_⟩
      · rw [missed_of_not_silenced (hheard (.inl hno))]
        exact ⟨rfl, rfl, rfl, rfl, rfl⟩
      · rw [missed_of_not_silenced (hheard (.inr hr))]
        exact ⟨hr.1, rfl, rfl, hr.2, rfl⟩
      · have hz := hsilenced.2 ⟨h3, hr⟩
        rw [missed_of_silenced hz]
        exact ⟨rfl, rfl, rfl, rfl, rfl, MissEvent.zeroed_targets hz⟩
      · simpa only [hthird] using h.buses_eq
    · rw [hstate]
      simpa [Bool.and_assoc] using h.flags (c := .berthFault) (by decide) (by decide)
    · rw [hstate]
      exact h.armed
    · intro c hfault hrisk haborted
      simpa [hfault] using h.flags hrisk haborted
  · intro he third aborts ended
    obtain ⟨line, run, abortedByRound, h, hstate, hline, hrun, hflags⟩ := takeMiss_meter he
    obtain ⟨htline, htrun, htgrid, htbase⟩ := h.given
    obtain ⟨hprofile, hclock, hpledges, hstore, hsupervision, hdepot⟩ := h.rest
    have haborts : s.silenceAborts = true ↔ aborts := decide_eq_true_iff
    have hcause (c : Cause) (hc : c ≠ .ticketAtRisk) : hasCause s.takeMiss.attention.flags c.number =
        (hasCause s.attention.flags c.number || (s.line.meterMiss == 2 && decide (c = .meterSilent))
          || (s.silenceAborts && decide (c = .runAborted)) || (abortedByRound && decide (c = .runAborted))) := by
      rw [h.hasCause_eq hc, hasCause_raised, hasCause_missFlags]
    have hzero : s.zeroesTargets run s.grid = true ↔ s.run.state = .running ∧ run.state ≠ .running := by
      simp [State.zeroesTargets]
    refine ⟨s.takeMiss, s.missRun, hmiss, fun ha => missRun_of_abort (haborts.2 ha),
      fun ha => missRun_of_no_abort (Bool.eq_false_iff.2 fun e => ha (haborts.1 e)), htline.trans hline.symm,
      htrun.trans hrun.symm, fun hmoved => h.passRequested (.inl hmoved), ?_, ?_, fun ha hs => h.zero_targets ?_,
      fun c hsilent hrisk habort => ?_, h.handsOn ?_, h.buses_eq, h.berths_setTarget,
      fun ht hs => h.kept_targets ht (Bool.eq_false_iff.2 fun hz => ?_), h.armed, htbase, htgrid, hclock, hpledges,
      hsupervision, hprofile, hstore, hdepot⟩
    · rw [hcause .meterSilent (by decide)]
      simp [third]
    · rw [hcause .runAborted (by decide)]
      refine Iff.trans ?_ (or_congr (Bool.eq_iff_iff.1 hflags).symm haborts)
      simp only [Bool.or_eq_true, reduceCtorEq, decide_false, Bool.and_false, decide_true, Bool.and_true, Bool.false_eq_true,
        or_false]
      exact or_right_comm
    · have hidle : s.missRun.state = .idle := by rw [missRun_of_abort (haborts.2 ha)]
      rw [hidle] at hstate
      have hended : run.state = .idle := hstate.resolve_right (by decide)
      exact hzero.2 ⟨hs, by simp [hended]⟩
    · rw [hcause c hrisk]
      simp [hsilent, habort]
    · rw [hasCause_raised, hasCause_missFlags]
      simp
    · obtain ⟨hrunning, hleft⟩ := hzero.1 hz
      rw [htrun] at hs
      exact hs.elim (fun hne => hne hrunning) hleft

end Sys2Proof.Machine
end

section
/-! PROOFS. The plan's validation (R65; O31). -/

namespace Sys2Proof.Machine

section
variable {s : State}

/-- R65, check 3: what makes a branch bad. -/
theorem badBranch_iff (n : Nat) :
    s.badBranch n = true ↔ (∃ b ∈ s.berths, b.branch = n)
      ∧ (s.profile.branchLimit n = 0 ∨ s.profile.feederLimit < s.profile.branchLimit n) := by
  simp [State.badBranch]

/-- R65, check 4: the numbers of the berths that share a place. -/
theorem mem_sharing_iff (n : Nat) :
    n ∈ (s.berths.filter s.sharesPlace).map Berth.number ↔ ∃ b ∈ s.berths, b.number = n
      ∧ ∃ c ∈ s.berths, c.number ≠ n ∧ c.trench = b.trench ∧ c.position = b.position := by
  simp only [List.mem_map, List.mem_filter, State.sharesPlace, List.any_eq_true, Bool.and_eq_true, bne_iff_ne, beq_iff_eq,
    and_assoc]
  constructor
  · rintro ⟨b, hb, ⟨c, hc, hne, hplace⟩, rfl⟩
    exact ⟨b, hb, rfl, c, hc, hne, hplace⟩
  · rintro ⟨b, hb, rfl, c, hc, hne, hplace⟩
    exact ⟨b, hb, ⟨c, hc, hne, hplace⟩, rfl⟩

/-! ## One equation for each check -/

theorem planFault_clockUnset (h : s.clock.time = none) : s.planFault = some (.clockUnset, none) :=
  if_pos (Option.isNone_iff_eq_none.2 h)

variable (hclock : s.clock.time ≠ none)
include hclock

theorem planFault_noBerth (h : ∀ b ∈ s.berths, b.outOfService = true) : s.planFault = some (.noBerth, none) := by
  have hset : ¬ s.clock.time.isNone = true := mt Option.isNone_iff_eq_none.1 hclock
  unfold State.planFault
  rw [if_neg hset, if_pos (by simpa using h)]

variable (hberth : ¬ ∀ b ∈ s.berths, b.outOfService = true)
include hberth

/-- Past the first two checks the branches decide, and then the places. -/
theorem planFault_past_berths :
    s.planFault =
      ([1, 2, 3, 4].find? s.badBranch).elim
        ((lowest ((s.berths.filter s.sharesPlace).map Berth.number)).map fun n => (.sharedPlace, some n))
        fun branch => some (.branchLimit, some branch) := by
  have hset : ¬ s.clock.time.isNone = true := mt Option.isNone_iff_eq_none.1 hclock
  unfold State.planFault
  rw [if_neg hset, if_neg (by simpa using hberth)]
  cases [1, 2, 3, 4].find? s.badBranch with
  | some branch => rfl
  | none => cases lowest ((s.berths.filter s.sharesPlace).map Berth.number) <;> rfl

end

/-- Settles O31: one equation for each check; the branches are searched upwards, and of the numbers that share a place the
lowest is taken. -/
theorem planChecksInOrder : Obligations.PlanChecksInOrder := by
  intro s unset noBerth bad shares
  have hbad (n : Nat) : bad n ↔ n ∈ List.range' 1 4 ∧ s.badBranch n = true := by
    rw [badBranch_iff, List.mem_range'_1]
    exact ⟨fun ⟨h1, h4, hb⟩ => ⟨⟨h1, by omega⟩, hb⟩, fun ⟨⟨h1, h4⟩, hb⟩ => ⟨h1, by omega, hb⟩⟩
  have hfind_none (hnone : ∀ m, ¬ bad m) : [1, 2, 3, 4].find? s.badBranch = none :=
    List.find?_eq_none.2 fun m hm hb => hnone m ((hbad m).2 ⟨hm, hb⟩)
  refine ⟨planFault_clockUnset, planFault_noBerth, fun hclock hberth n hn hle => ?_,
    fun hclock hberth hnone n hn hle => ?_, fun hclock hberth hnone hshares => ?_⟩
  · obtain ⟨hrange, hbranch⟩ := (hbad n).1 hn
    have hbelow (m : Nat) (h1 : 1 ≤ m) (hlt : m < n) : (!s.badBranch m) = true := by
      have hm : m ∈ List.range' 1 4 := by
        rw [List.mem_range'_1] at hrange ⊢
        omega
      have hnot : ¬ s.badBranch m = true := fun hb => absurd (hle m ((hbad m).2 ⟨hm, hb⟩)) (not_le.2 hlt)
      simpa using hnot
    have hfind : [1, 2, 3, 4].find? s.badBranch = some n := List.find?_range'_eq_some.2 ⟨hbranch, hrange, hbelow⟩
    rw [planFault_past_berths hclock hberth, hfind]
    rfl
  · rw [planFault_past_berths hclock hberth, hfind_none hnone,
      lowest_eq_of_le ((mem_sharing_iff n).2 hn) fun m hm => hle m ((mem_sharing_iff m).1 hm)]
    rfl
  · have hempty : (s.berths.filter s.sharesPlace).map Berth.number = [] :=
      List.eq_nil_iff_forall_not_mem.2 fun m hm => hshares m ((mem_sharing_iff m).1 hm)
    rw [planFault_past_berths hclock hberth, hfind_none hnone, hempty]
    rfl

end Sys2Proof.Machine
end

section
/-! PROOFS. The changes of run state and the pause sources (R63 to R68, R71, R72), the requests RUN_START, RUN_STOP, PAUSE and
RESUME (O32, O33), and the expiries of the start hold and of the supervision timer (R66, R73, R161; O34). -/

namespace Sys2Proof.Machine

/-! ## Changes of run state (R63, R66, R71, R72, R79) -/

section
variable {s : State}

/-- R79: a change out of RUNNING sets every target to 0. -/
theorem setRun_of_running {r : RunState} (hs : s.run.state = .running) (hr : r ≠ .running) :
    s.setRun r =
      { s with
        run := { s.run with state := r }
        berths := s.berths.map fun b => b.setTarget (s.grantInFlight b.number) 0 0
        alloc := { s.alloc with passRequested := true } } := by
  rw [setRun_of_ne fun h => hr (h.symm.trans hs), if_pos hs]

/-- R63: any other change leaves the targets. -/
theorem setRun_of_not_running {r : RunState} (hs : s.run.state ≠ .running) (hr : s.run.state ≠ r) :
    s.setRun r = { s with run := { s.run with state := r }, alloc := { s.alloc with passRequested := true } } := by
  rw [setRun_of_ne hr, if_neg hs]

theorem stopRun_of_idle (hs : s.run.state = .idle) : s.stopRun = s := if_pos hs

theorem stopRun_of_running (hs : s.run.state = .running) :
    s.stopRun =
      { s with
        run := { s.run with state := .idle, holdTimer := none }
        berths := s.berths.map fun b => b.setTarget (s.grantInFlight b.number) 0 0
        alloc := { s.alloc with passRequested := true } } := by
  unfold State.stopRun
  rw [if_neg (by simp [hs]), setRun_of_running hs (by decide)]

theorem stopRun_of_waiting (hs : s.run.state = .starting ∨ s.run.state = .paused) :
    s.stopRun =
      { s with
        run := { s.run with state := .idle, holdTimer := none }
        alloc := { s.alloc with passRequested := true } } := by
  have hidle : s.run.state ≠ .idle := by rcases hs with h | h <;> simp [h]
  have hrunning : s.run.state ≠ .running := by rcases hs with h | h <;> simp [h]
  unfold State.stopRun
  rw [if_neg hidle, setRun_of_not_running hrunning hidle]

theorem abortRun_of_paused (hs : s.run.state = .paused) (c : AbortCause) :
    s.abortRun c =
      { s with
        run := { s.run with state := .idle, holdTimer := none, abortCause := some c }
        alloc := { s.alloc with passRequested := true }
        attention := { s.attention with flags := s.attention.flags ||| causeBit Cause.runAborted.number } } := by
  unfold State.abortRun
  rw [setRun_of_not_running (by simp [hs]) (by simp [hs])]
  rfl

/-- R66, R68, R71: METER_SILENT ahead of OVERDRAW, each where it is present and enabled. -/
theorem presentCause_eq :
    s.presentCause =
      if s.line.meterMiss = 3 ∧ s.profile.meterSilentAbort = true then some .meterSilent
      else if s.run.overdraw = 3 ∧ s.profile.overdrawAbort = true then some .overdraw
      else none := by
  simp [State.presentCause, State.causePresent, State.causeEnabled, State.meterSilent]

/-! ## The host's pause source (R67, R68) -/

/-- The host's pause source set or cleared, and nothing else. -/
def State.hostPauseTaken (host : Bool) (s : State) : State := { s with run := { s.run with hostPause := host } }

theorem setSources_pauses (hs : s.run.state = .running) (hh : s.run.hostPause = false) :
    s.setSources true s.run.thermalPause = (s.hostPauseTaken true).setRun .paused := by
  unfold State.setSources
  rw [hs, hh]
  rfl

/-- A PAUSE with the run not RUNNING, or with the source set already. -/
theorem setSources_set_again (h : s.run.state ≠ .running ∨ s.run.hostPause = true) :
    s.setSources true s.run.thermalPause = s.hostPauseTaken true := by
  unfold State.setSources
  split
  · rename_i hs
    have hh : s.run.hostPause = true := h.resolve_left (not_not.2 hs)
    exact if_neg (by simp [hh])
  · exact if_neg (by simp)
  · rfl
  · rfl

/-- A RESUME with the run not PAUSED, with the thermal source still set, or with nothing of the host's to clear. -/
theorem setSources_clears_no_last (h : s.run.state ≠ .paused ∨ s.run.thermalPause = true ∨ s.run.hostPause = false) :
    s.setSources false s.run.thermalPause = s.hostPauseTaken false := by
  unfold State.setSources
  split
  · exact if_neg (by simp)
  · rename_i hs
    refine if_neg ?_
    rcases h.resolve_left (not_not.2 hs) with ht | hh
    · simp [ht]
    · simp [hh]
  · rfl
  · rfl

/-- R68, R71: a RESUME that clears the last source takes the run to RUNNING, or aborts it. -/
theorem setSources_clears_last (hs : s.run.state = .paused) (ht : s.run.thermalPause = false) (hh : s.run.hostPause = true) :
    s.setSources false s.run.thermalPause =
      s.presentCause.elim ((s.hostPauseTaken false).setRun .running) (s.hostPauseTaken false).abortRun := by
  have hcause : ({ s with run := { s.run with hostPause := false, thermalPause := s.run.thermalPause } } : State).presentCause
      = s.presentCause := rfl
  rw [setSources_of_paused hs, if_pos (by simp [ht, hh]), hcause]
  cases s.presentCause <;> rfl

/-! ## A start taken in IDLE (R64, R73) -/

theorem startRun_of_fault {reason : InvalidReason} {detail : Option Nat} (hf : s.planFault = some (reason, detail)) :
    s.startRun = { s with run := { s.run with invalidReason := some reason, invalidDetail := detail } } := by
  unfold State.startRun
  rw [hf]

theorem startRun_of_valid (hs : s.run.state = .idle) (hf : s.planFault = none) :
    s.startRun =
      { s with
        run :=
          { s.run with
            state := .starting, invalidReason := none, invalidDetail := none, abortCause := none
            holdTimer := if s.profile.startHold = 0 then none else some (5 * s.profile.startHold)
            holdExpired := decide (s.profile.startHold = 0) }
        alloc := { s.alloc with passRequested := true }
        line := { s.line with firstRound := false, qualifying := false } } := by
  unfold State.startRun State.enterStarting State.clearFirstRound
  rw [hf, setRun_of_not_running (by simp [hs]) (by simp [hs])]
  rfl

/-- R64: the status names an unset clock, and no other reason. -/
theorem startStatus_of_fault (reason : InvalidReason) (detail : Option Nat) :
    startStatus (some (reason, detail)) = if reason = .clockUnset then .clockUnset else .badState := by
  cases reason <;> rfl

end

/-! ## RUN_START (R63, R64) -/

/-- An owner that settles records and answers with a status of its own. -/
theorem exec_settled_status {c : Instr} {h : RequestHead} {r : Request} {s post : State} {n : Nat} {st : Status}
    {body : State → List Byte} (hc : asRequest c = some (h, r)) (ht : s.takesRequests) (hn : r.body.length = n)
    (hb : n ≤ 1024) (hf : r.formOk = true) (hs : r ≠ .control .saveProfile)
    (ho : s.begun.owner r = { State.settled s.begun post body with status := st }) (hd : post.depot = s.begun.depot)
    (hsv : post.supervision = s.restarted) (hbody : ∀ (u : State) (d : DepotLink), body { u with depot := d } = body u) :
    ∃ t, exec c s = .next t
      ∧ Settles s { post with depot := s.answered h n st 0 (body t), supervision := s.restarted } t := by
  have hdone := settled_answered s post h n body hd hsv hbody
  generalize ht₀ : ((State.settled s.begun post body).respond h).shifted ((if n ≤ 56 then s else s.midRequest).requestOut n)
    = t₀ at hdone
  have hdepot : t₀.depot = s.answered h n .done 0 (body t₀) := hdone.1.2.1
  have hread : body t₀ = body (post.closeEvent s.begun) := by
    rw [← ht₀]
    exact hbody (post.closeEvent s.begun) _
  have hout : (({ State.settled s.begun post body with status := st } : Answer).respond h).shifted
      ((if n ≤ 56 then s else s.midRequest).requestOut n) = { t₀ with depot := s.answered h n st 0 (body t₀) } := by
    have hplaced : { t₀.depot with response := some { bytes := responseBytes st h 0 (body t₀), position := 0 } }
        = s.answered h n st 0 (body t₀) := by
      rw [hdepot]
      rfl
    rw [← hplaced, hread, ← ht₀]
    rfl
  refine ⟨{ t₀ with depot := s.answered h n st 0 (body t₀) }, ?_, ?_⟩
  · rw [exec_owner hc ht hn hb hf hs, ho, hout]
  · rw [hbody]
    exact hdone.withDepot _ rfl rfl rfl rfl rfl rfl

/-- Settles O32: outside IDLE the owner refuses; in IDLE it settles what `State.startRun` leaves, with `startStatus`. -/
theorem runStartEntersStarting : Obligations.RunStartEntersStarting := by
  intro s ht h items
  have hrow : asRequest .runStart = some (h, .control .runStart) := rfl
  have howner : s.begun.owner (.control .runStart) =
      if s.run.state ≠ .idle then { refuse .busy 0 s.begun with body := items s.begun }
      else { s.begun.settled s.begun.startRun items with status := startStatus s.planFault } := rfl
  refine ⟨fun hbusy => ?_, fun reason detail hidle hf => ?_, fun hidle hf => ?_⟩
  · rw [if_pos hbusy] at howner
    exact exec_replied hrow ht rfl (by decide) rfl (by simp) howner
  · rw [if_neg (not_not.2 hidle), startRun_of_fault (s := s.begun) hf, hf, startStatus_of_fault] at howner
    exact (exec_settled_status hrow ht rfl (by decide) rfl (by simp) howner rfl rfl fun _ _ => rfl :)
  · rw [if_neg (not_not.2 hidle), startRun_of_valid (s := s.begun) hidle hf, hf] at howner
    exact (exec_settled_status hrow ht rfl (by decide) rfl (by simp) howner rfl rfl fun _ _ => rfl :)

/-! ## RUN_STOP, PAUSE and RESUME (R67, R68, R72) -/

/-- `post` as an owner leaves it, which has the depot link and the timer of the request. -/
def State.asBegun (s post : State) : State := { post with depot := s.begun.depot, supervision := s.restarted }

/-- An owner that settles `post` but for the depot link and the timer makes the row an answer DONE. -/
theorem exec_answered_asBegun {c : Instr} {h : RequestHead} {r : Request} {s u post : State} {n : Nat}
    {body : State → List Byte} (hc : asRequest c = some (h, r)) (ht : s.takesRequests) (hn : r.body.length = n)
    (hb : n ≤ 1024) (hf : r.formOk = true) (hs : r ≠ .control .saveProfile)
    (ho : s.begun.owner r = State.settled s.begun u body) (hu : u = s.asBegun post)
    (hbody : ∀ (v : State) (d : DepotLink), body { v with depot := d } = body v) :
    ∃ t, exec c s = .next t ∧ AnsweredDone s h n post body t := by
  subst hu
  exact (exec_answered hc ht hn hb hf hs ho rfl rfl hbody :)

/-- Settles O33: each request's owner settles what `State.stopRun` or `State.setSources` leaves, run state by run state. -/
theorem stopPauseResume : Obligations.StopPauseResume := by
  intro s ht h item moved left
  have stopped {post : State} (hu : s.begun.stopRun = s.asBegun post) :
      ∃ t, exec .runStop s = .next t ∧ AnsweredDone s h 1 post item t :=
    exec_answered_asBegun rfl ht rfl (by decide) rfl (by simp) rfl hu fun _ _ => rfl
  have paused {post : State} (hu : s.begun.setSources true s.begun.run.thermalPause = s.asBegun post) :
      ∃ t, exec .pause s = .next t ∧ AnsweredDone s h 1 post item t :=
    exec_answered_asBegun rfl ht rfl (by decide) rfl (by simp) rfl hu fun _ _ => rfl
  have resumed {post : State} (hu : s.begun.setSources false s.begun.run.thermalPause = s.asBegun post) :
      ∃ t, exec .resume s = .next t ∧ AnsweredDone s h 1 post item t :=
    exec_answered_asBegun rfl ht rfl (by decide) rfl (by simp) rfl hu fun _ _ => rfl
  refine ⟨fun hs => stopped (stopRun_of_idle (s := s.begun) hs),
    fun hs => stopped (stopRun_of_running (s := s.begun) hs),
    fun hs => stopped (stopRun_of_waiting (s := s.begun) hs),
    fun hs hh => paused ?_,
    fun hs => paused (setSources_set_again (s := s.begun) hs),
    fun hs => resumed (setSources_clears_no_last (s := s.begun) hs),
    fun hs htherm hh => ⟨fun hsilent => resumed ?_, fun hheard hdrawn => resumed ?_,
      fun hheard hlow => resumed ?_⟩⟩
  · exact (setSources_pauses (s := s.begun) hs hh).trans
      (setRun_of_running (s := s.begun.hostPauseTaken true) hs (by decide))
  · have hc : s.begun.presentCause = some .meterSilent := presentCause_eq.trans (if_pos hsilent)
    rw [setSources_clears_last (s := s.begun) hs htherm hh, hc]
    exact abortRun_of_paused (s := s.begun.hostPauseTaken false) hs _
  · have hc : s.begun.presentCause = some .overdraw := presentCause_eq.trans ((if_neg hheard).trans (if_pos hdrawn))
    rw [setSources_clears_last (s := s.begun) hs htherm hh, hc]
    exact abortRun_of_paused (s := s.begun.hostPauseTaken false) hs _
  · have hc : s.begun.presentCause = none := presentCause_eq.trans ((if_neg hheard).trans (if_neg hlow))
    have hpaused : (s.begun.hostPauseTaken false).run.state = .paused := hs
    rw [setSources_clears_last (s := s.begun) hs htherm hh, hc]
    exact setRun_of_not_running (by simp [hpaused]) (by simp [hpaused])

/-! ## The expiries (R66, R73, R160, R161) -/

section
variable {s : State}

theorem expireHold_of_stopped (h : s.run.holdTimer = none) : s.expireHold = s :=
  if_neg (by simp [h])

theorem expireHold_of_running {r : Nat} (h : s.run.holdTimer = some r) :
    s.expireHold =
      (State.startingTested { s with run := { s.run with holdTimer := none, holdExpired := true } }).closeEvent s := by
  unfold State.expireHold
  rw [if_pos (by simp [h]), testStarting_eq]

/-- R161: the timer has expired, fallback is entered, and FALLBACK is raised. -/
def State.fallbackEntered (s : State) : State :=
  { s with
    supervision := { condition := .expired, remaining := 0, fallback := true }
    attention := { s.attention with flags := s.attention.flags ||| causeBit Cause.fallback.number } }

theorem expireSupervision_of_counting (h : s.supervision.condition = .counting) :
    s.expireSupervision = s.fallbackEntered.selfStart.closeEvent s :=
  if_pos h

theorem selfStart_of_barred (h : s.profile.fallbackRun = false ∨ s.run.state ≠ .idle) : s.selfStart = s := by
  refine if_neg fun ⟨hrun, hidle⟩ => ?_
  rcases h with h | h
  · exact absurd hrun (by simp [h])
  · exact h hidle

theorem selfStart_of_allowed (hrun : s.profile.fallbackRun = true) (hidle : s.run.state = .idle) : s.selfStart = s.startRun :=
  if_pos ⟨hrun, hidle⟩

end

/-- Settles O34: each row is its timer's event, and settles what the end of STARTING or the entry into fallback leaves. -/
theorem timerExpiries : Obligations.TimerExpiries := by
  intro s hp
  have hhold : exec .holdTimerExpiry s = .next s.expireHold := exec_event hp rfl
  have hsupervision : exec .supervisionExpiry s = .next s.expireSupervision := exec_event hp rfl
  refine ⟨fun hstopped => ?_, fun r hr => ⟨_, ?_, closeEvent_settles s _⟩, fun hnot => ?_, fun hcounting =>
    ⟨s.fallbackEntered.selfStart.closeEvent s, ?_, fun hbarred => ?_, fun hrun hidle =>
      ⟨fun reason detail hf => ?_, fun hf => ?_⟩⟩⟩
  · rw [hhold, expireHold_of_stopped hstopped]
  · rw [hhold, expireHold_of_running hr]
  · rw [hsupervision]
    exact congrArg _ (if_neg hnot)
  · rw [hsupervision, expireSupervision_of_counting hcounting]
  · rw [selfStart_of_barred (s := s.fallbackEntered) hbarred]
    exact closeEvent_settles s _
  · rw [selfStart_of_allowed (s := s.fallbackEntered) hrun hidle, startRun_of_fault (s := s.fallbackEntered) hf]
    exact closeEvent_settles s _
  · rw [selfStart_of_allowed (s := s.fallbackEntered) hrun hidle, startRun_of_valid (s := s.fallbackEntered) hidle hf]
    exact closeEvent_settles s _

end Sys2Proof.Machine
end

section
/-! PROOFS. The ceilings as the smallest of their terms (R77, R78; O51). -/

namespace Sys2Proof.Machine

theorem heldAtZero_iff (s : State) :
    s.heldAtZero = true ↔ s.grid.stopLatch = true ∨ s.grid.sag = true ∨ s.run.state ≠ .running := by
  simp [State.heldAtZero, State.stopInForce, or_assoc]

theorem any_isCurtailing_iff (s : State) :
    s.pledges.any Pledge.isCurtailing = true ↔
      ∃ p ∈ s.pledges, p.kind = .curtail ∧ (p.state = .armed ∨ p.state = .active) := by
  simp [Pledge.isCurtailing, Pledge.isActing]

theorem tripInForce_iff (s : State) :
    s.tripInForce = true ↔ s.grid.tripLatch = true ∧ s.profile.tripEnabled = true := by
  simp [State.tripInForce]

/-- R77: the FEEDER term of a base load within the feeder import limit. -/
theorem feederTerm_cast {s : State} (h : s.alloc.baseLoad ≤ s.profile.feederLimit) :
    (s.feederTerm : Int) = s.profile.feederLimit - s.alloc.baseLoad := by
  unfold State.feederTerm
  omega

theorem curtailTerm_cast (s : State) :
    (s.curtailTerm : Int) =
      max 0 ((s.profile.feederLimit : Int) - s.alloc.baseLoad - s.reserve.curtailCommitment + s.reserve.readinessYield) := by
  unfold State.curtailTerm
  rw [Int.toNat_eq_max, max_comm]

/-- R77: a term taken: it binds where it is in force and no larger than the smallest so far, which else stays. -/
theorem takeTerm_cases (inForce : Bool) (value : Nat) (term : BindingTerm) (best : Nat × BindingTerm) :
    ((inForce = true ∧ value ≤ best.1) ∧ takeTerm inForce value term best = (value, term))
      ∨ (¬ (inForce = true ∧ value ≤ best.1) ∧ takeTerm inForce value term best = best) := by
  unfold takeTerm
  split
  · exact .inl ⟨‹_›, rfl⟩
  · exact .inr ⟨‹_›, rfl⟩

/-- R77: the import ceiling while it is not held, and the term that binds. -/
theorem importCeiling_of_terms {held curtailing tripped : Prop} {s : State} (hh : s.heldAtZero = true ↔ held)
    (hc : s.pledges.any Pledge.isCurtailing = true ↔ curtailing) (ht : s.tripInForce = true ↔ tripped) (h : ¬ held) :
    s.importCeilingNow.1 ≤ s.feederTerm ∧ (curtailing → s.importCeilingNow.1 ≤ s.curtailTerm)
      ∧ (tripped → s.importCeilingNow.1 ≤ s.profile.tripAllowance)
      ∧ (s.importCeilingNow.2 = .trip ↔ tripped ∧ s.importCeilingNow.1 = s.profile.tripAllowance)
      ∧ (s.importCeilingNow.2 = .curtail ↔ curtailing ∧ s.importCeilingNow.1 = s.curtailTerm
          ∧ ¬ (tripped ∧ s.importCeilingNow.1 = s.profile.tripAllowance))
      ∧ (s.importCeilingNow.2 = .feeder ↔ s.importCeilingNow.1 = s.feederTerm
          ∧ ¬ (curtailing ∧ s.importCeilingNow.1 = s.curtailTerm)
          ∧ ¬ (tripped ∧ s.importCeilingNow.1 = s.profile.tripAllowance))
      ∧ s.importCeilingNow.2 ≠ .held := by
  have hfree : ¬ s.heldAtZero = true := hh.not.2 h
  unfold State.importCeilingNow
  rw [if_neg hfree]
  rcases takeTerm_cases (s.pledges.any Pledge.isCurtailing) s.curtailTerm .curtail (s.feederTerm, .feeder)
    with ⟨hcur, ec⟩ | ⟨hcur, ec⟩ <;> rw [ec] <;> rw [hc] at hcur
  · rcases takeTerm_cases s.tripInForce s.profile.tripAllowance .trip (s.curtailTerm, .curtail)
      with ⟨htrip, et⟩ | ⟨htrip, et⟩ <;> rw [et] <;> rw [ht] at htrip
    · grind
    · grind
  · rcases takeTerm_cases s.tripInForce s.profile.tripAllowance .trip (s.feederTerm, .feeder)
      with ⟨htrip, et⟩ | ⟨htrip, et⟩ <;> rw [et] <;> rw [ht] at htrip
    · grind
    · grind

/-- Settles O51: each term in force is taken in turn where it is no larger than the smallest so far, TRIP last. -/
theorem ceilingsAreSmallestTerms : Obligations.CeilingsAreSmallestTerms := by
  unfold Obligations.CeilingsAreSmallestTerms
  intro s held curtailing tripped feeder curtail trip c
  have hheld : s.heldAtZero = true ↔ held := heldAtZero_iff s
  refine ⟨fun h => ?_, fun h hbase => ?_⟩
  · have h := hheld.2 h
    exact ⟨if_pos h, if_pos h⟩
  · have hf : feeder = (s.feederTerm : Int) := (feederTerm_cast hbase).symm
    have hc : curtail = (s.curtailTerm : Int) := (curtailTerm_cast s).symm
    obtain ⟨leFeeder, leCurtail, leTrip, htrip, hcurtail, hfeeder, hbound⟩ :=
      importCeiling_of_terms hheld (any_isCurtailing_iff s) (tripInForce_iff s) h
    rw [hf, hc]
    simp only [c, trip, Nat.cast_le, Nat.cast_inj]
    exact ⟨leFeeder, leCurtail, leTrip, htrip, hcurtail, hfeeder, hbound, if_neg (hheld.not.2 h)⟩

end Sys2Proof.Machine
end

section
/-! PROOFS. The targets that an event leaves (R79, R82): outside the allocation pass each is 0 or what the berth had, a berth
that becomes no claimant goes to 0, and so does every berth where a stop, a sag or the end of RUNNING begins to hold them. -/

namespace Sys2Proof.Machine

/-! ## The relation -/

/-- Both targets of a berth are 0. -/
def Berth.atZero (b : Berth) : Prop := b.wanted = 0 ∧ b.decided = 0

/-- Berth `b'` is `b` with its targets kept or set to 0; they are 0 where `b` was a claimant and `b'` is none. -/
def Berth.keepsAim (b b' : Berth) : Prop :=
  b'.atZero ∨ (b'.wanted = b.wanted ∧ b'.decided = b.decided ∧ (b'.isClaimant = false → b.isClaimant = false))

/-- From `s` to `t` no target is given: every berth has its targets kept or at 0, and where the targets come to be held at 0
they are all 0. -/
structure Lowers (s t : State) : Prop where
  targets : ∀ b' ∈ t.berths, b'.atZero ∨ ∃ b ∈ s.berths, b.keepsAim b'
  held : t.heldAtZero = true → s.heldAtZero = true ∨ ∀ b ∈ t.berths, b.atZero

theorem Berth.keepsAim.refl (b : Berth) : b.keepsAim b := .inr ⟨rfl, rfl, id⟩

theorem Berth.keepsAim.of_atZero {b b' : Berth} (h : b.keepsAim b') (hb : b.atZero) : b'.atZero := by
  rcases h with h | ⟨hw, hd, _⟩
  · exact h
  · exact ⟨hw.trans hb.1, hd.trans hb.2⟩

theorem Berth.keepsAim.trans {a b c : Berth} (h : a.keepsAim b) (h' : b.keepsAim c) : a.keepsAim c := by
  rcases h' with h' | ⟨hw', hd', hc'⟩
  · exact .inl h'
  · rcases h with h | ⟨hw, hd, hc⟩
    · exact .inl ⟨hw'.trans h.1, hd'.trans h.2⟩
    · exact .inr ⟨hw'.trans hw, hd'.trans hd, hc ∘ hc'⟩

theorem setTarget_atZero (inFlight : Bool) (b : Berth) : (b.setTarget inFlight 0 0).atZero := ⟨rfl, rfl⟩

section
variable {s t u : State}

/-- Targets all at 0 stay so. -/
theorem Lowers.all_atZero (h : Lowers s t) (hs : ∀ b ∈ s.berths, b.atZero) : ∀ b ∈ t.berths, b.atZero := by
  intro b' hb'
  rcases h.targets b' hb' with hz | ⟨b, hb, hk⟩
  · exact hz
  · exact hk.of_atZero (hs b hb)

theorem Lowers.trans (h : Lowers s t) (h' : Lowers t u) : Lowers s u where
  targets c hc := by
    rcases h'.targets c hc with hz | ⟨b, hb, hk⟩
    · exact .inl hz
    · rcases h.targets b hb with hz | ⟨a, ha, hk'⟩
      · exact .inl (hk.of_atZero hz)
      · exact .inr ⟨a, ha, hk'.trans hk⟩
  held hu := by
    rcases h'.held hu with ht | hz
    · exact (h.held ht).imp id h'.all_atZero
    · exact .inr hz

theorem lowers_of_atZero (s : State) (h : ∀ b ∈ t.berths, b.atZero) : Lowers s t :=
  ⟨fun b hb => .inl (h b hb), fun _ => .inr h⟩

/-- The berths changed in their places, and nothing that holds the targets at 0. -/
theorem lowers_mapBerths {f : Berth → Berth} (hf : ∀ b : Berth, b.keepsAim (f b)) (hr : t.berths = s.berths.map f)
    (hh : t.heldAtZero = true → s.heldAtZero = true) : Lowers s t where
  targets b' hb' := by
    rw [hr] at hb'
    obtain ⟨b, hb, rfl⟩ := List.mem_map.1 hb'
    exact .inr ⟨b, hb, hf b⟩
  held ht := .inl (hh ht)

theorem lowers_of_berths (hr : t.berths = s.berths) (hh : t.heldAtZero = true → s.heldAtZero = true) : Lowers s t :=
  lowers_mapBerths (f := id) Berth.keepsAim.refl (by rw [hr, List.map_id]) hh

/-- What follows a change that touches no berth and nothing that holds the targets at 0. -/
theorem Lowers.of_moved (h : Lowers t u) (hr : t.berths = s.berths) (hh : t.heldAtZero = true → s.heldAtZero = true) :
    Lowers s u := (lowers_of_berths hr hh).trans h

theorem lowers_refl (s : State) : Lowers s s := lowers_of_berths rfl id

theorem lowers_updBerth (n : Nat) {f : Berth → Berth} (hf : ∀ b : Berth, b.keepsAim (f b)) (s : State) : Lowers s (s.updBerth n f) :=
  lowers_mapBerths (f := fun b => if b.number == n then f b else b) (fun b => by split <;> [exact hf b; exact .refl b]) rfl id

theorem lowers_updBerth_zero (n : Nat) {f : Berth → Berth} (hf : ∀ b : Berth, (f b).atZero) (s : State) : Lowers s (s.updBerth n f) :=
  lowers_updBerth n (fun b => .inl (hf b)) s

theorem SameRecords.lowers (h : SameRecords s t) : Lowers s t :=
  lowers_of_berths h.berths fun ht => by
    unfold State.heldAtZero State.stopInForce at ht ⊢
    rwa [h.run, h.grid] at ht

/-- Operations that give no target give none one after another. -/
theorem lowers_foldl {α : Type} {f : State → α → State} (hf : ∀ s x, Lowers s (f s x)) (l : List α) (s : State) :
    Lowers s (l.foldl f s) := by
  induction l generalizing s with
  | nil => exact lowers_refl s
  | cons x l ih => exact (hf s x).trans (ih _)

end

/-! ## Shared operations -/

theorem lowers_raiseIf (raised : Bool) (c : Cause) (s : State) : Lowers s (s.raiseIf raised c) := by
  cases raised <;> exact lowers_of_berths rfl id

theorem lowers_setTarget_zero (n : Nat) (s : State) : Lowers s (s.setTarget n 0 0) :=
  lowers_updBerth_zero n (setTarget_atZero _) s

theorem zeroTargets_atZero (s : State) : ∀ b ∈ s.zeroTargets.berths, b.atZero := by
  intro b' hb'
  obtain ⟨b, _, rfl⟩ := List.mem_map.1 hb'
  exact setTarget_atZero _ b

/-! ## The end of an event -/

theorem keepsAim_withdrawn (s : State) (b : Berth) : b.keepsAim (s.withdrawn b) := by
  unfold State.withdrawn
  split
  · exact .inl (setTarget_atZero _ b)
  · exact .refl b

theorem lowers_refreshBuses (s : State) : Lowers s s.refreshBuses := by
  rw [refreshBuses_spec]
  exact lowers_mapBerths (keepsAim_withdrawn s) rfl id

theorem lowers_finishEvent (s before : State) : Lowers s (s.finishEvent before) := by
  rw [finishEvent_spec]
  exact lowers_of_berths rfl id

theorem lowers_closeEvent (s before : State) : Lowers s (s.closeEvent before) := by
  have hsettled : Lowers s.refreshBuses (s.refreshBuses.settleTickets before) := by
    rw [settleTickets_spec]
    exact lowers_of_berths rfl id
  exact ((lowers_refreshBuses s).trans hsettled).trans (lowers_finishEvent _ before)

/-! ## Tickets and buses -/

theorem lowers_unlinkBus (k : Option Nat) (s : State) : Lowers s (s.unlinkBus k) := by
  cases k <;> exact lowers_of_berths rfl id

theorem lowers_releaseTicket (x : Ticket) (s : State) : Lowers s (s.releaseTicket x) :=
  Lowers.trans (t := s.updTicket x.id _) (lowers_of_berths rfl id) (lowers_unlinkBus x.bus _)

theorem lowers_missTicket (x : Ticket) (s : State) : Lowers s (s.missTicket x) :=
  Lowers.trans (t := (s.updTicket x.id _).unlinkBus x.bus)
    (Lowers.trans (t := s.updTicket x.id _) (lowers_of_berths rfl id) (lowers_unlinkBus x.bus _)) (lowers_of_berths rfl id)

theorem lowers_ticketMinute (now : Nat) (s : State) (x : Ticket) : Lowers s (s.ticketMinute now x) := by
  rcases ticketMinute_cases now s x with e | e | e <;> rw [e]
  exacts [lowers_refl s, lowers_missTicket x s, lowers_releaseTicket x s]

theorem lowers_ticketsMinute (s : State) : Lowers s s.ticketsMinute := by
  unfold State.ticketsMinute
  split
  · exact lowers_foldl (lowers_ticketMinute _) _ s
  · exact lowers_refl s

theorem lowers_detachBus (k : Nat) (s : State) : Lowers s (s.detachBus k) := by
  rw [detachBus_eq]
  exact lowers_of_berths rfl id

theorem lowers_ticketAmended (x : Ticket) (pairs : List Pair) (s : State) : Lowers s (s.ticketAmended x pairs) := by
  have taken (value : Nat) (u : State) : Lowers u (u.busTaken x value) := by
    unfold State.busTaken
    split
    · split
      · exact Lowers.trans (t := u.updTicket x.id _) (lowers_of_berths rfl id) (lowers_unlinkBus _ _)
      · exact lowers_refl u
    · split
      · exact lowers_refl u
      · exact (lowers_unlinkBus x.bus u).trans (lowers_of_berths rfl id)
  have amended : Lowers s (s.updTicket x.id (Ticket.amend pairs)) := lowers_of_berths rfl id
  unfold State.ticketAmended
  dsimp only
  split
  · exact amended.trans (taken _ _)
  · exact amended

/-! ## A minute event (R98) -/

theorem lowers_takeMinute (s before : State) : Lowers s (s.takeMinute before) := by
  unfold State.takeMinute
  dsimp only
  have ticketed : Lowers s s.refreshBuses.ticketsMinute.refreshBuses :=
    ((lowers_refreshBuses s).trans (lowers_ticketsMinute _)).trans (lowers_refreshBuses _)
  generalize s.refreshBuses.ticketsMinute.refreshBuses = u at ticketed
  have graded : Lowers u u.regrade := by
    unfold State.regrade
    exact Lowers.trans (t := { u with tickets := u.tickets.map u.gradeTicket }) (lowers_of_berths rfl id) (lowers_raiseIf ..)
  have pledged : Lowers u.regrade (u.regrade.pledgesMinute u.newlyAtRisk) := by
    obtain ⟨pledges, reserve, attention, -, h⟩ := pledgesMinute_moved u.newlyAtRisk u.regrade
    rw [h]
    exact lowers_of_berths rfl id
  refine ((ticketed.trans graded).trans pledged).trans ?_
  split
  · exact (lowers_finishEvent ..).of_moved rfl id
  · exact lowers_finishEvent ..

/-! ## Run control (R63 to R72, R79) -/

/-- R79: leaving RUNNING sets every target to 0; no other change of run state begins to hold them there. -/
theorem lowers_setRun (r : RunState) (s : State) : Lowers s (s.setRun r) := by
  by_cases hr : s.run.state = r
  · rw [← hr, setRun_same]
    exact lowers_refl s
  · by_cases hs : s.run.state = .running
    · refine lowers_of_atZero s fun b' hb' => ?_
      rw [setRun_of_ne hr, if_pos hs] at hb'
      obtain ⟨b, _, rfl⟩ := List.mem_map.1 hb'
      exact setTarget_atZero _ b
    · rw [setRun_of_ne hr, if_neg hs]
      exact lowers_of_berths rfl fun _ => by simp [State.heldAtZero, hs]

theorem lowers_abortRun (c : AbortCause) (s : State) : Lowers s (s.abortRun c) :=
  (lowers_setRun .idle s).trans (lowers_of_berths rfl id)

theorem lowers_causeArises (c : AbortCause) (s : State) : Lowers s (s.causeArises c) := by
  unfold State.causeArises
  split
  · exact lowers_abortRun c s
  · exact lowers_refl s

theorem lowers_startRun (s : State) : Lowers s s.startRun := by
  unfold State.startRun
  split
  · exact lowers_of_berths rfl id
  · exact (lowers_setRun .starting s).trans (lowers_of_berths rfl id)

theorem lowers_testStarting (s : State) : Lowers s s.testStarting := by
  unfold State.testStarting State.endStarting
  split
  · split
    · exact lowers_abortRun _ s
    · split <;> exact lowers_setRun _ s
  · exact lowers_refl s

theorem lowers_setSources (host thermal : Bool) (s : State) : Lowers s (s.setSources host thermal) := by
  have moved : Lowers s { s with run := { s.run with hostPause := host, thermalPause := thermal } } := lowers_of_berths rfl id
  unfold State.setSources
  dsimp only
  split
  · split
    · exact moved.trans (lowers_setRun _ _)
    · exact moved
  · split
    · split
      · exact moved.trans (lowers_abortRun _ _)
      · exact moved.trans (lowers_setRun _ _)
    · exact moved
  · exact moved
  · exact moved

theorem lowers_stopRun (s : State) : Lowers s s.stopRun := by
  unfold State.stopRun
  split
  · exact lowers_refl s
  · exact (lowers_setRun .idle s).trans (lowers_of_berths rfl id)

theorem lowers_meterToRun (measured : Nat) (warn : Bool) (s : State) : Lowers s (s.meterToRun measured warn) := by
  have counted : Lowers s (s.countOverdraw measured) := by
    unfold State.countOverdraw
    dsimp only
    split
    · split
      · exact (lowers_causeArises .overdraw _).of_moved rfl id
      · exact lowers_of_berths rfl id
    · exact lowers_of_berths rfl id
  exact counted.trans (lowers_setSources ..)

/-! ## The berth link controller -/

theorem lowers_completeRound (s : State) : Lowers s s.completeRound := (lowers_testStarting _).of_moved rfl id

theorem lowers_pollEnded (a : Nat) (s : State) : Lowers s (s.pollEnded a) := by
  unfold State.pollEnded
  split
  · exact lowers_completeRound s
  · exact lowers_refl s

theorem lowers_beginBreak (s : State) : Lowers s s.beginBreak :=
  lowers_mapBerths (f := Berth.atBreak) (fun _ => .inr ⟨rfl, rfl, id⟩) rfl id

theorem lowers_lineStopped (s : State) : Lowers s s.lineStopped := by
  unfold State.lineStopped
  split
  · exact lowers_beginBreak s
  · exact lowers_of_berths rfl id
  · exact lowers_refl s

theorem lowers_lineReleased (s : State) : Lowers s s.lineReleased := by
  unfold State.lineReleased
  split <;> exact lowers_of_berths rfl id

theorem lowers_chooseNext (s : State) : Lowers s s.chooseNext := by
  have chosen (n : NextSend) (u : State) : Lowers u (u.chooseSend n) := lowers_of_berths rfl id
  have poll : Lowers s s.pollStep := by
    unfold State.pollStep
    split
    · exact chosen _ s
    · split
      · exact chosen _ s
      · exact (lowers_completeRound s).trans (chosen _ _)
  unfold State.chooseNext
  split
  · exact lowers_beginBreak s
  · split
    · exact chosen _ s
    · split
      · split
        · exact chosen _ s
        · exact poll
      · exact poll

theorem lowers_endPreamble (s : State) : Lowers s s.endPreamble := by
  unfold State.endPreamble
  split
  · split
    · exact lowers_beginBreak s
    · exact lowers_of_berths rfl id
  · exact lowers_refl s
  · exact lowers_refl s

theorem lowers_sendPoll (s : State) : Lowers s s.sendPoll := by
  unfold State.sendPoll
  split <;> exact lowers_of_berths rfl id

theorem lowers_sendGrant (n : Nat) (target : Int) (s : State) : Lowers s (s.sendGrant n target) :=
  lowers_mapBerths (f := fun b => if b.number == n then { b with grantDue := false } else b)
    (fun b => by split <;> exact .inr ⟨rfl, rfl, id⟩) rfl id

theorem lowers_sendChosenGrant (s : State) : Lowers s s.sendChosenGrant := by
  unfold State.sendChosenGrant
  split
  · split
    · split
      · exact lowers_sendGrant _ _ s
      · exact lowers_of_berths rfl id
    · exact lowers_of_berths rfl id
  · exact lowers_refl s
  · exact lowers_refl s
  · exact lowers_refl s

/-! ## The grid line monitor (R134 to R142) -/

theorem lowers_releaseTrip (s : State) : Lowers s s.releaseTrip := by
  unfold State.releaseTrip
  dsimp only
  split <;> exact lowers_of_berths rfl id

theorem lowers_ackTrip (s : State) : Lowers s s.ackTrip := by
  unfold State.ackTrip
  split
  · split <;> exact lowers_of_berths rfl id
  · exact lowers_refl s

theorem lowers_tripModeTaken (s : State) : Lowers s s.tripModeTaken := by
  unfold State.tripModeTaken
  split <;> exact lowers_of_berths rfl id

/-- R140: a depot stop that comes into force sets every target to 0. -/
theorem lowers_latchStop (s : State) : Lowers s s.latchStop := by
  unfold State.latchStop
  dsimp only
  split
  · rename_i h
    exact lowers_of_berths rfl fun _ => by simp [State.heldAtZero, State.stopInForce, h]
  · exact (lowers_of_atZero s (zeroTargets_atZero _)).trans ((lowers_lineStopped _).of_moved rfl id)

theorem lowers_unlatchStop (s : State) : Lowers s s.unlatchStop := by
  refine (lowers_lineReleased _).of_moved rfl fun h => ?_
  have h : (false || s.grid.sag || s.run.state != .running) = true := h
  unfold State.heldAtZero
  rw [Bool.or_assoc, Bool.false_or] at h
  rw [Bool.or_assoc, h, Bool.or_true]

theorem lowers_assertStop (s : State) : Lowers s s.assertStop := by
  have latched : Lowers s (State.latchStop { s with grid := { s.grid with stopLevel := .asserted, stopCount := 0 } }) :=
    (lowers_latchStop _).of_moved rfl id
  exact latched.trans (lowers_of_berths rfl id)

theorem lowers_allStop (s : State) : Lowers s s.allStop := (lowers_latchStop s).trans (lowers_raiseIf ..)

theorem lowers_releaseStop (s : State) : Lowers s s.releaseStop := by
  unfold State.releaseStop
  dsimp only
  split
  · exact (lowers_unlatchStop _).of_moved rfl id
  · exact lowers_of_berths rfl id

theorem lowers_clearStop (s : State) : Lowers s s.clearStop := by
  unfold State.clearStop
  split
  · split
    · exact lowers_unlatchStop s
    · exact lowers_of_berths rfl id
  · exact lowers_refl s

theorem lowers_sampleTrip (level : Level) (s : State) : Lowers s (s.sampleTrip level) := by
  unfold State.sampleTrip
  split
  · exact lowers_of_berths rfl id
  · split
    · exact lowers_of_berths rfl id
    · split
      · exact lowers_of_berths rfl id
      · exact lowers_releaseTrip s

theorem lowers_sampleStop (level : Level) (s : State) : Lowers s (s.sampleStop level) := by
  unfold State.sampleStop
  split
  · exact lowers_of_berths rfl id
  · split
    · exact lowers_of_berths rfl id
    · split
      · exact lowers_assertStop s
      · exact lowers_releaseStop s

/-- R142: sag that comes into force sets every target to 0; its end gives none. -/
theorem lowers_takeVoltage (voltage : Nat) (s : State) : Lowers s (s.takeVoltage voltage) := by
  unfold State.takeVoltage
  dsimp only
  split
  · split
    · exact lowers_of_atZero s (zeroTargets_atZero _)
    · exact lowers_of_berths rfl id
  · split
    · rename_i h
      exact lowers_of_berths rfl fun _ => by simp [State.heldAtZero, h.1]
    · exact lowers_of_berths rfl id

end Sys2Proof.Machine
end

section
/-! PROOFS. The berth table gives no target (R28, R29, R31 to R39, R79), and neither does the end of an exchange. -/

namespace Sys2Proof.Machine

/-! ## One berth changed (R6, R28 to R39) -/

/-- A berth that becomes a claimant keeps its targets. -/
theorem keepsAim_of_claimant {b b' : Berth} (hw : b'.wanted = b.wanted) (hd : b'.decided = b.decided)
    (hc : b'.isClaimant = true) : b.keepsAim b' :=
  .inr ⟨hw, hd, fun h => Bool.noConfusion (hc.symm.trans h)⟩

theorem keepsAim_settle_occupied (occupant : Option Nat) (b : Berth) : b.keepsAim (b.settle .occupied occupant) :=
  keepsAim_of_claimant rfl rfl rfl

theorem keepsAim_heard (b : Berth) : b.keepsAim b.heard := by
  unfold Berth.heard
  split
  · rename_i h
    have hstate : b.state = .faulted := by
      unfold Berth.faultedSilent at h
      exact eq_of_beq (Bool.and_eq_true_iff.1 h).1
    exact .inr ⟨rfl, rfl, fun _ => by simp [Berth.isClaimant, hstate]⟩
  · exact .refl b

theorem keepsAim_restore (b : Berth) : b.keepsAim b.restore := by
  unfold Berth.restore
  split
  · rename_i h
    exact .inr ⟨rfl, rfl, fun _ => by simp [Berth.isClaimant, h]⟩
  · exact .refl b

theorem keepsAim_endRetry (b : Berth) : b.keepsAim b.endRetry := by
  unfold Berth.endRetry
  split
  · exact .inr ⟨rfl, rfl, id⟩
  · exact .refl b

/-- R54: targets set to 0 with a change of the berth's other fields. -/
theorem lowers_updBerth_setTarget (n : Nat) {f : Berth → Berth} (hf : ∀ b, (f b).number = b.number) (s : State) :
    Lowers s ((s.updBerth n f).setTarget n 0 0) := by
  rw [setTarget_updBerth hf]
  exact lowers_updBerth_zero n (fun b => setTarget_atZero _ (f b)) s

/-! ## The plug table (R31 to R36) -/

/-- A change of a berth's other fields. -/
theorem lowers_updBerth_same (n : Nat) {f : Berth → Berth} (s : State)
    (hw : ∀ b, (f b).wanted = b.wanted := by exact fun _ => rfl) (hd : ∀ b, (f b).decided = b.decided := by exact fun _ => rfl)
    (hs : ∀ b, (f b).state = b.state := by exact fun _ => rfl) : Lowers s (s.updBerth n f) :=
  lowers_updBerth n (fun b => .inr ⟨hw b, hd b, fun h => by unfold Berth.isClaimant at h ⊢; rwa [hs] at h⟩) s

theorem lowers_storeOutput (n : Nat) (present : Half) (s : State) : Lowers s (s.storeOutput n present) := by
  unfold State.storeOutput
  exact lowers_updBerth_same n s

theorem lowers_detachOccupant (n : Nat) (s : State) : Lowers s (s.detachOccupant n) := by
  unfold State.detachOccupant
  split
  · exact (lowers_updBerth_same n (f := Berth.unoccupied) s).trans
      (lowers_detachBus _ _)
  · exact lowers_refl s

theorem lowers_attachBus (n k : Nat) (s : State) : Lowers s (s.attachBus n k) :=
  (lowers_updBerth n (keepsAim_settle_occupied (some k)) s).trans (lowers_of_berths rfl id)

theorem lowers_moveBus (m n k : Nat) (s : State) : Lowers s (s.moveBus m n k) := by
  have left : Lowers s (s.updBerth m Berth.unoccupied) :=
    lowers_updBerth_same m s
  exact left.trans ((lowers_attachBus n k _).of_moved rfl id)

theorem lowers_unplugged (n : Nat) (state : BerthState) (s : State) : Lowers s (s.unplugged n state) :=
  (lowers_detachOccupant n s).trans (lowers_updBerth_setTarget n (settle_number state none) _)

theorem lowers_toForeign (n vehicle : Nat) (reason : ForeignReason) (s : State) :
    Lowers s (s.toForeign n vehicle reason) := by
  unfold State.toForeign
  split
  · refine Lowers.trans ?_ (lowers_raiseIf ..)
    split
    · exact lowers_updBerth_setTarget n (fun _ => by rfl) s
    · exact lowers_updBerth n (f := Berth.holdVehicle vehicle reason) (fun _ => keepsAim_of_claimant rfl rfl rfl) s
  · exact lowers_refl s

theorem lowers_takeVehicle (n vehicle : Nat) (s : State) : Lowers s (s.takeVehicle n vehicle) := by
  unfold State.takeVehicle
  split
  · exact lowers_toForeign ..
  · split
    · exact lowers_attachBus ..
    · split
      · exact lowers_moveBus ..
      · exact lowers_toForeign ..
    · exact lowers_toForeign ..

theorem lowers_plugged (n vehicle : Nat) (s : State) : Lowers s (s.plugged n vehicle) := by
  unfold State.plugged
  split
  · split
    · exact lowers_updBerth n (keepsAim_settle_occupied _) s
    · exact ((lowers_detachOccupant n s).trans (lowers_setTarget_zero n _)).trans (lowers_takeVehicle ..)
  · exact lowers_takeVehicle ..

theorem lowers_plugEvaluation (n : Nat) (body : StatusBody) (s : State) : Lowers s (s.plugEvaluation n body) := by
  unfold State.plugEvaluation
  split
  · split
    · exact lowers_unplugged ..
    · exact lowers_plugged ..
  · exact lowers_unplugged ..

theorem lowers_faultedPlugCheck (n : Nat) (body : StatusBody) (s : State) : Lowers s (s.faultedPlugCheck n body) := by
  unfold State.faultedPlugCheck
  split
  · split
    · exact lowers_refl s
    · exact lowers_detachOccupant n s
  · exact lowers_refl s

/-! ## Faults, STATUS, misses and CONFIRM (R31, R36 to R39) -/

theorem lowers_episode (entered : Bool) (s : State) : Lowers s (s.episode entered) := by
  unfold State.episode
  split <;> exact lowers_of_berths rfl id

/-- R39: an entry into FAULTED sets both targets to 0. -/
theorem lowers_fault (n : Nat) (cause : FaultCause) (code : Option Nat) (s : State) : Lowers s (s.fault n cause code) := by
  unfold State.fault
  split
  · exact (lowers_updBerth_setTarget n (fun _ => by rfl) s).trans (lowers_episode ..)
  · exact lowers_refl s

theorem lowers_takePlug (n : Nat) (body : StatusBody) (s : State) : Lowers s (s.takePlug n body) := by
  unfold State.takePlug
  split
  · split
    · exact lowers_faultedPlugCheck ..
    · split
      · exact (lowers_fault ..).trans (lowers_faultedPlugCheck ..)
      · exact lowers_plugEvaluation ..
  · exact lowers_refl s

theorem lowers_takePackData (n : Nat) (pack : Option PackData) (s : State) : Lowers s (s.takePackData n pack) := by
  unfold State.takePackData
  split
  · split <;> exact lowers_of_berths rfl id
  · exact lowers_refl s

theorem lowers_takeStatus (n : Nat) (body : StatusBody) (s : State) : Lowers s (s.takeStatus n body) :=
  ((lowers_storeOutput n body.output s).trans (lowers_takePlug n body _)).trans (lowers_takePackData ..)

theorem lowers_thirdMiss (n : Nat) (s : State) : Lowers s (s.thirdMiss n) := by
  have stale (u : State) : Lowers u (u.staleOccupant n) := by
    unfold State.staleOccupant
    split <;> exact lowers_of_berths rfl id
  unfold State.thirdMiss
  split
  · split
    · exact stale s
    · exact (lowers_fault ..).trans (stale _)
  · exact lowers_refl s

theorem lowers_confirmPlug (n : Nat) (accepted : Bool) (s : State) : Lowers s (s.confirmPlug n accepted) := by
  unfold State.confirmPlug
  split
  · exact lowers_updBerth n keepsAim_heard s
  · exact lowers_fault ..

/-! ## The out-of-service setting (R28, R29) -/

theorem lowers_setOutOfService (n : Nat) (s : State) : Lowers s (s.setOutOfService n) := by
  unfold State.setOutOfService
  split
  · split
    · exact lowers_refl s
    · have isolated (u : State) : Lowers u (u.updBerth n Berth.isolate) := lowers_updBerth_zero n (fun _ => ⟨rfl, rfl⟩) u
      exact ((lowers_detachOccupant n s).trans (isolated _)).trans (lowers_of_berths rfl id)
  · exact lowers_refl s

theorem lowers_berthAmended (key : Nat) (pairs : List Pair) (s : State) : Lowers s (s.berthAmended key pairs) := by
  have service (u : State) : Lowers u (u.serviceTaken key pairs) := by
    unfold State.serviceTaken
    split
    · exact lowers_refl u
    · split
      · exact lowers_setOutOfService ..
      · exact lowers_updBerth key keepsAim_restore u
  have amended : Lowers s ((s.updBerth key (Berth.amend pairs)).serviceTaken key pairs) :=
    (lowers_updBerth_same key (f := Berth.amend pairs) s).trans (service _)
  unfold State.berthAmended
  dsimp only
  split
  · exact amended.trans (lowers_of_berths rfl id)
  · exact amended

/-! ## The end of an exchange (R44, R45, R52, R53, R56, R58) -/

theorem lowers_berthPollEnded (n : Nat) (s : State) : Lowers s (s.berthPollEnded n) :=
  (lowers_updBerth n keepsAim_endRetry s).trans (lowers_pollEnded n _)

theorem lowers_takeMeter (body : MeterBody) (s : State) : Lowers s (s.takeMeter body) := by
  have heard : Lowers s (({ s with line := { s.line with meterMiss := 0 } } : State).takeVoltage (feederVoltage body)) :=
    (lowers_takeVoltage ..).of_moved rfl id
  exact (heard.trans (lowers_meterToRun ..)).trans (lowers_of_berths rfl id)

theorem lowers_meterMissed (s : State) : Lowers s s.meterMissed := by
  unfold State.meterMissed
  dsimp only
  split
  · exact (lowers_causeArises ..).of_moved rfl id
  · exact lowers_of_berths rfl id

theorem lowers_countMiss (n : Nat) (s : State) : Lowers s (s.countMiss n) := by
  unfold State.countMiss
  split
  · have counted : Lowers s (s.updBerth n fun b => { b with missCount := min 3 (b.missCount + 1) }) :=
      lowers_updBerth_same n s
    dsimp only
    split
    · exact counted.trans (lowers_thirdMiss ..)
    · exact counted
  · exact lowers_refl s

theorem lowers_endExchange (s : State) : Lowers s s.endExchange := lowers_of_berths rfl id

theorem lowers_grantConfirm (n : Nat) (target : Int) (body : ConfirmBody) (s : State) :
    Lowers s (s.grantConfirm n target body) := by
  have stored : Lowers s (s.endExchange.storeOutput n body.output) := (lowers_endExchange s).trans (lowers_storeOutput ..)
  refine (stored.trans (lowers_updBerth n (fun b => ?_) _)).trans (lowers_confirmPlug ..)
  split <;> exact .inr ⟨rfl, rfl, id⟩

theorem lowers_exchangeMissed (e : Exchange) (s : State) : Lowers s (s.exchangeMissed e) := by
  unfold State.exchangeMissed
  split
  · split
    · exact (lowers_endExchange s).trans ((lowers_meterMissed _).trans (lowers_pollEnded ..))
    · exact (lowers_endExchange s).trans ((lowers_countMiss ..).trans (lowers_berthPollEnded ..))
  · have held (u : State) : Lowers u (u.updBerth e.address Berth.holdBack) :=
      lowers_updBerth_same e.address (f := Berth.holdBack) u
    exact (lowers_endExchange s).trans ((held _).trans (lowers_countMiss ..))

theorem lowers_pollStatus (n : Nat) (body : StatusBody) (s : State) : Lowers s (s.pollStatus n body) :=
  (lowers_endExchange s).trans ((lowers_takeStatus ..).trans (lowers_berthPollEnded ..))

theorem lowers_pollMeter (body : MeterBody) (s : State) : Lowers s (s.pollMeter body) :=
  (lowers_endExchange s).trans ((lowers_takeMeter ..).trans (lowers_pollEnded ..))

theorem lowers_exchangeReply (e : Exchange) (r : Reply) (s : State) : Lowers s (s.exchangeReply e r) := by
  unfold State.exchangeReply
  split
  · split
    · exact lowers_pollStatus ..
    · exact lowers_exchangeMissed e s
  · split
    · exact lowers_pollMeter ..
    · exact lowers_exchangeMissed e s
  · split
    · exact lowers_grantConfirm ..
    · exact lowers_exchangeMissed e s
  · exact lowers_exchangeMissed e s
  · exact lowers_exchangeMissed e s
  · exact lowers_exchangeMissed e s

theorem lowers_exchangeVoid (e : Exchange) (s : State) : Lowers s (s.exchangeVoid e) := by
  unfold State.exchangeVoid
  split
  · exact (lowers_endExchange s).trans (lowers_pollEnded ..)
  · exact lowers_endExchange s

end Sys2Proof.Machine
end

section
/-! PROOFS. Every step keeps the ceilings current and the targets at 0 where they must be (O58): owners of requests, events, the
allocation pass and POWER_ON. -/

namespace Sys2Proof.Machine

/-! ## Ceilings that are current -/

/-- From `s` to `t` no target is given, and the ceilings are kept current. -/
structure KeepsCeilings (s t : State) : Prop where
  lowers : Lowers s t
  ceilings : s.ceilingsCurrent → t.ceilingsCurrent

section
variable {s t : State}

theorem ceilingsCurrent_congr (ha : t.alloc = s.alloc) (hr : t.run.state = s.run.state) (hg : t.grid = s.grid)
    (hp : t.profile = s.profile) (hl : t.pledges = s.pledges) (hv : t.reserve = s.reserve) (hs : s.ceilingsCurrent) :
    t.ceilingsCurrent := by
  unfold State.ceilingsCurrent
  rw [importCeilingNow_congr hr hg hp (by rw [ha]) hl hv, exportCeilingNow_congr hr hg hp hv, ha]
  exact hs

theorem closeEvent_ceilings (s before : State) : (s.closeEvent before).ceilingsCurrent := by
  obtain ⟨_, _, _, _, _, _, hceilings, _⟩ := closeEvent_settles before s
  exact hceilings

theorem finishEvent_ceilings (s before : State) : (s.finishEvent before).ceilingsCurrent := by
  rw [finishEvent_spec]
  exact ⟨rfl, rfl, rfl⟩

theorem takeMinute_ceilings (s before : State) : (s.takeMinute before).ceilingsCurrent := by
  unfold State.takeMinute
  exact finishEvent_ceilings _ before

theorem keepsCeilings_refl (s : State) : KeepsCeilings s s := ⟨lowers_refl s, id⟩

theorem SameRecords.keepsCeilings (h : SameRecords s t) : KeepsCeilings s t :=
  ⟨h.lowers, ceilingsCurrent_congr h.alloc (by rw [h.run]) h.grid h.profile h.pledges h.reserve⟩

/-- What an event's owners leave, with the end of the event. -/
theorem Lowers.closed (h : Lowers s t) (before : State) : KeepsCeilings s (t.closeEvent before) :=
  ⟨h.trans (lowers_closeEvent t before), fun _ => closeEvent_ceilings t before⟩

/-- What an event's owners leave, with a minute event. -/
theorem Lowers.minuteTaken (h : Lowers s t) (before : State) : KeepsCeilings s (t.takeMinute before) :=
  ⟨h.trans (lowers_takeMinute t before), fun _ => takeMinute_ceilings t before⟩

/-! ## Owners of requests (R151, R152) -/

theorem Lowers.settled (h : Lowers s t) (body : State → List Byte) : KeepsCeilings s (s.settled t body).state := h.closed s

/-- Records other than the berths changed, and settled. -/
theorem settled_of_berths (body : State → List Byte) (hr : t.berths = s.berths := by rfl)
    (hh : t.heldAtZero = true → s.heldAtZero = true := by exact id) : KeepsCeilings s (s.settled t body).state :=
  (lowers_of_berths hr hh).settled body

theorem keepsCeilings_withRecord {α : Type} {record : Option α} {answer : α → Answer}
    (ha : ∀ r, KeepsCeilings s (answer r).state) : KeepsCeilings s (withRecord record s answer).state := by
  cases record with
  | none => exact keepsCeilings_refl s
  | some r => exact ha r

theorem keepsCeilings_withPairs {check : Option (Status × Nat)} {answer : Answer} (ha : KeepsCeilings s answer.state) :
    KeepsCeilings s (withPairs check s answer).state := by
  cases check with
  | none => exact ha
  | some failure => exact keepsCeilings_refl s

theorem keepsCeilings_lookup (record : Option (List (Option Int))) (s : State) :
    KeepsCeilings s (lookupAnswer record s).state := by
  cases record <;> exact keepsCeilings_refl s

theorem keepsCeilings_enrolBus (key : Nat) (pairs : List Pair) (s : State) :
    KeepsCeilings s (s.enrolBus key pairs).state := by
  unfold State.enrolBus
  split
  · exact keepsCeilings_refl s
  · split
    · exact keepsCeilings_refl s
    · refine keepsCeilings_withPairs ?_
      split
      · exact keepsCeilings_refl s
      · exact settled_of_berths _

/-- R25: a berth enrolled has both its targets 0. -/
theorem lowers_insertBerth {b : Berth} (hb : b.atZero) (s : State) :
    Lowers s { s with berths := insertByKey Berth.number b s.berths } where
  targets b' hb' := by
    rcases (mem_insertByKey b b' s.berths).1 hb' with rfl | hb'
    · exact .inl hb
    · exact .inr ⟨b', hb', .refl b'⟩
  held h := .inl h

theorem keepsCeilings_enrolBerth (key : Nat) (pairs : List Pair) (s : State) :
    KeepsCeilings s (s.enrolBerth key pairs).state := by
  unfold State.enrolBerth
  split
  · exact keepsCeilings_refl s
  · split
    · exact keepsCeilings_refl s
    · split
      · exact keepsCeilings_refl s
      · refine keepsCeilings_withPairs (Lowers.settled ?_ _)
        exact (lowers_insertBerth (b := enrolledBerth key pairs) ⟨rfl, rfl⟩ s).trans (lowers_of_berths rfl id)

theorem keepsCeilings_enrolTicket (key : Nat) (pairs : List Pair) (s : State) :
    KeepsCeilings s (s.enrolTicket key pairs).state := by
  unfold State.enrolTicket
  split
  · exact keepsCeilings_refl s
  · split
    · exact keepsCeilings_refl s
    · split
      · exact keepsCeilings_refl s
      · refine keepsCeilings_withPairs ?_
        split
        · exact keepsCeilings_refl s
        · split
          · exact keepsCeilings_refl s
          · exact settled_of_berths _

theorem keepsCeilings_enrolPledge (key : Nat) (pairs : List Pair) (s : State) :
    KeepsCeilings s (s.enrolPledge key pairs).state := by
  unfold State.enrolPledge
  dsimp only
  split
  · exact keepsCeilings_refl s
  · split
    · exact keepsCeilings_refl s
    · split
      · exact keepsCeilings_refl s
      · refine keepsCeilings_withPairs ?_
        split
        · exact keepsCeilings_refl s
        · split
          · exact keepsCeilings_refl s
          · split
            · exact keepsCeilings_refl s
            · exact settled_of_berths _

theorem keepsCeilings_amendBerth (key : Nat) (pairs : List Pair) (s : State) :
    KeepsCeilings s (s.amendBerth key pairs).state := by
  refine keepsCeilings_withRecord fun b => ?_
  split
  · exact keepsCeilings_refl s
  · split
    · exact keepsCeilings_refl s
    · exact keepsCeilings_withPairs ((lowers_berthAmended key pairs s).settled _)

theorem keepsCeilings_amendTicket (key : Nat) (pairs : List Pair) (s : State) :
    KeepsCeilings s (s.amendTicket key pairs).state := by
  refine keepsCeilings_withRecord fun x => ?_
  split
  · exact keepsCeilings_refl s
  · exact keepsCeilings_withPairs (keepsCeilings_withPairs ((lowers_ticketAmended x pairs s).settled _))

theorem keepsCeilings_amendPledge (key : Nat) (pairs : List Pair) (s : State) :
    KeepsCeilings s (s.amendPledge key pairs).state := by
  refine keepsCeilings_withRecord fun p => ?_
  dsimp only
  split
  · exact keepsCeilings_refl s
  · refine keepsCeilings_withPairs ?_
    split
    · exact keepsCeilings_refl s
    · split
      · exact keepsCeilings_refl s
      · exact settled_of_berths _

theorem lowers_profileAmended (pairs : List Pair) (s : State) : Lowers s (s.profileAmended pairs) := by
  have carried {effect : State → State} (he : ∀ u, Lowers u (effect u)) (idents : List Nat) (u : State) :
      Lowers u (u.onCarried pairs idents effect) := by
    unfold State.onCarried
    split
    · exact he u
    · exact lowers_refl u
  have feeder (u : State) : Lowers u u.feederLimitTaken := lowers_of_berths rfl id
  have interval (u : State) : Lowers u u.intervalTaken := lowers_of_berths rfl id
  have pass (u : State) : Lowers u u.requestPass := lowers_of_berths rfl id
  have amended : Lowers s { s with profile := s.profile.amend pairs } := lowers_of_berths rfl id
  exact (((amended.trans (carried feeder _ _)).trans (carried lowers_tripModeTaken _ _)).trans
    (carried interval _ _)).trans (carried pass _ _)

theorem keepsCeilings_amendProfile (key : Nat) (pairs : List Pair) (s : State) :
    KeepsCeilings s (s.amendProfile key pairs).state := by
  unfold State.amendProfile
  dsimp only
  split
  · exact keepsCeilings_refl s
  · refine keepsCeilings_withPairs ?_
    split
    · exact keepsCeilings_refl s
    · split
      · exact keepsCeilings_refl s
      · exact (lowers_profileAmended pairs s).settled _

theorem keepsCeilings_retireBus (key : Nat) (s : State) : KeepsCeilings s (s.retireBus key).state := by
  refine keepsCeilings_withRecord fun b => ?_
  split
  · exact keepsCeilings_refl s
  · exact settled_of_berths _

theorem lowers_berthRetired (key : Nat) (s : State) : Lowers s (s.berthRetired key) where
  targets b hb := .inr ⟨b, List.mem_of_mem_filter hb, .refl b⟩
  held h := .inl h

theorem keepsCeilings_retireBerth (key : Nat) (s : State) : KeepsCeilings s (s.retireBerth key).state := by
  refine keepsCeilings_withRecord fun b => ?_
  split
  · exact keepsCeilings_refl s
  · split
    · exact keepsCeilings_refl s
    · exact (lowers_berthRetired key s).settled _

theorem keepsCeilings_retireTicket (key : Nat) (s : State) : KeepsCeilings s (s.retireTicket key).state :=
  keepsCeilings_withRecord fun x => by
    have erased : Lowers s { s with tickets := eraseKey Ticket.id key s.tickets } := lowers_of_berths rfl id
    exact (erased.trans (lowers_unlinkBus x.bus _)).settled _

theorem keepsCeilings_retirePledge (key : Nat) (s : State) : KeepsCeilings s (s.retirePledge key).state := by
  refine keepsCeilings_withRecord fun p => ?_
  split
  · exact keepsCeilings_refl s
  · exact settled_of_berths _

theorem keepsCeilings_withdraw (key : Nat) (s : State) : KeepsCeilings s (s.withdraw key).state := by
  refine keepsCeilings_withRecord fun p => ?_
  split
  · refine Lowers.settled ?_ _
    unfold State.pledgeWithdrawn
    dsimp only
    split <;> exact lowers_of_berths rfl id
  · exact keepsCeilings_refl s

/-- R41: a records reset leaves every target at 0. -/
theorem lowers_recordsCleared (s : State) : Lowers s s.recordsCleared :=
  lowers_of_atZero s fun b' hb' => by
    obtain ⟨b, _, rfl⟩ := List.mem_map.1 hb'
    exact ⟨rfl, rfl⟩

theorem keepsCeilings_control (f : Control) (s : State) : KeepsCeilings s (s.owner (.control f)).state := by
  cases f
  case runStart =>
    rcases runStart_state s with e | e <;> rw [Machine.State.owner, e]
    · exact keepsCeilings_refl s
    · exact (lowers_startRun s).closed s
  case runStop => exact (lowers_stopRun s).settled _
  case pause => exact (lowers_setSources _ _ s).settled _
  case resume => exact (lowers_setSources _ _ s).settled _
  case allStop => exact (lowers_allStop s).settled _
  case clearStop => exact (lowers_clearStop s).settled _
  case ackTrip => exact (lowers_ackTrip s).settled _
  case withdraw key => exact keepsCeilings_withdraw key s
  case setClock pairs =>
    rcases setClock_state pairs s with e | e <;> rw [Machine.State.owner, e]
    · exact keepsCeilings_refl s
    · have taken : Lowers s (s.clockTaken pairs) := lowers_of_berths rfl id
      exact taken.minuteTaken s
  case saveProfile => exact keepsCeilings_refl s
  case recordsReset => exact (lowers_recordsCleared s).settled _

/-- R151: whatever an owner answers, it gives no target and keeps the ceilings current. -/
theorem owner_keepsCeilings (s : State) (r : Request) : KeepsCeilings s (s.owner r).state := by
  cases r with
  | lookup table key =>
    cases table
    case profile =>
      show KeepsCeilings s (s.lookupProfile key).state
      unfold State.lookupProfile
      split
      · exact keepsCeilings_refl s
      · exact keepsCeilings_lookup _ s
    all_goals exact keepsCeilings_lookup _ s
  | list table key count => cases table <;> exact keepsCeilings_refl s
  | enrol table key pairs =>
    cases table
    case profile => exact keepsCeilings_refl s
    case bus => exact keepsCeilings_enrolBus key pairs s
    case berth => exact keepsCeilings_enrolBerth key pairs s
    case ticket => exact keepsCeilings_enrolTicket key pairs s
    case pledge => exact keepsCeilings_enrolPledge key pairs s
  | amend table key pairs =>
    cases table
    case profile => exact keepsCeilings_amendProfile key pairs s
    case bus => exact keepsCeilings_withRecord fun _ => keepsCeilings_withPairs (settled_of_berths _)
    case berth => exact keepsCeilings_amendBerth key pairs s
    case ticket => exact keepsCeilings_amendTicket key pairs s
    case pledge => exact keepsCeilings_amendPledge key pairs s
  | retire table key =>
    cases table
    case profile => exact keepsCeilings_refl s
    case bus => exact keepsCeilings_retireBus key s
    case berth => exact keepsCeilings_retireBerth key s
    case ticket => exact keepsCeilings_retireTicket key s
    case pledge => exact keepsCeilings_retirePledge key s
  | summary => exact keepsCeilings_refl s
  | attend causes => exact SameRecords.keepsCeilings (by constructor <;> rfl)
  | control f => exact keepsCeilings_control f s

/-! ## Events -/

theorem keepsCeilings_takeReply (r : Reply) (s : State) : KeepsCeilings s (s.takeReply r) := by
  unfold State.takeReply
  split
  · refine Lowers.closed ?_ s
    split
    · exact lowers_exchangeVoid _ s
    · exact lowers_exchangeReply _ r s
  · exact keepsCeilings_refl s

theorem keepsCeilings_takeMiss (s : State) : KeepsCeilings s s.takeMiss := by
  unfold State.takeMiss
  split
  · refine Lowers.closed ?_ s
    split
    · exact lowers_exchangeVoid _ s
    · exact lowers_exchangeMissed _ s
  · exact keepsCeilings_refl s

theorem lowers_selfStart (s : State) : Lowers s s.selfStart := by
  unfold State.selfStart
  split
  · exact lowers_startRun s
  · exact lowers_refl s

/-- Every event but the allocation pass gives no target and keeps the ceilings current. -/
theorem eventEffect_keepsCeilings {c : Instr} {f : State → State} (hc : eventEffect c = some f) (hpass : c ≠ .allocationPass)
    (s : State) : KeepsCeilings s (f s) := by
  have closed {due : Prop} [Decidable due] {post : State} (h : Lowers s post) :
      KeepsCeilings s (if due then post.closeEvent s else s) := by
    split
    · exact h.closed s
    · exact keepsCeilings_refl s
  cases c <;> cases hc
  case nextExchangeChoice => exact closed (lowers_chooseNext s)
  case preambleEnd =>
    refine ⟨lowers_endPreamble s, ?_⟩
    show s.ceilingsCurrent → s.endPreamble.ceilingsCurrent
    unfold State.endPreamble
    split
    · split <;> exact id
    · exact id
    · exact id
  case poll =>
    refine ⟨lowers_sendPoll s, ?_⟩
    show s.ceilingsCurrent → s.sendPoll.ceilingsCurrent
    unfold State.sendPoll
    split <;> exact id
  case grant =>
    refine ⟨lowers_sendChosenGrant s, ?_⟩
    show s.ceilingsCurrent → s.sendChosenGrant.ceilingsCurrent
    unfold State.sendChosenGrant
    split
    · split
      · split <;> exact id
      · exact id
    · exact id
    · exact id
    · exact id
  case status => exact keepsCeilings_takeReply _ s
  case meter => exact keepsCeilings_takeReply _ s
  case confirm => exact keepsCeilings_takeReply _ s
  case invalidReply chars =>
    show KeepsCeilings s (s.takeChars chars)
    unfold State.takeChars
    split
    · exact keepsCeilings_takeReply _ s
    · exact keepsCeilings_takeMiss s
  case replyTimeout => exact keepsCeilings_takeMiss s
  case allocationPass => exact absurd rfl hpass
  case holdTimerExpiry => exact closed ((lowers_testStarting _).of_moved rfl id)
  case supervisionExpiry => exact closed ((lowers_selfStart _).of_moved rfl id)
  case minuteEvent =>
    show KeepsCeilings s s.advanceMinute
    unfold State.advanceMinute
    split
    · rename_i x _
      have advanced : Lowers s { s with clock := { time := some x.next, seconds := 0 } } := lowers_of_berths rfl id
      exact advanced.minuteTaken s
    · exact keepsCeilings_refl s
  case tripAssertion =>
    have asserted : Lowers s s.assertTrip := lowers_of_berths rfl id
    exact asserted.closed s
  case tripRelease => exact (lowers_releaseTrip s).closed s
  case stopAssertion => exact (lowers_assertStop s).closed s
  case stopRelease => exact (lowers_releaseStop s).closed s
  case lineSample trip stop => exact ((lowers_sampleTrip trip s).trans (lowers_sampleStop stop _)).closed s

end

/-! ## What the allocation pass leaves (R82 to R92) -/

/-- `t` is `s` with other berths. -/
def OnlyBerths (s t : State) : Prop := ∃ berths : List Berth, t = { s with berths := berths }

theorem OnlyBerths.trans {s t u : State} (h : OnlyBerths s t) (h' : OnlyBerths t u) : OnlyBerths s u := by
  obtain ⟨_, rfl⟩ := h
  obtain ⟨r, rfl⟩ := h'
  exact ⟨r, rfl⟩

theorem onlyBerths_foldl {α : Type} {f : State → α → State} (hf : ∀ s x, OnlyBerths s (f s x)) (l : List α) (s : State) :
    OnlyBerths s (l.foldl f s) := by
  induction l generalizing s with
  | nil => exact ⟨s.berths, rfl⟩
  | cons x l ih => exact (hf s x).trans (ih _)

theorem onlyBerths_raiseImport (s : State) (n : Nat) : OnlyBerths s (s.raiseImport n) := by
  unfold State.raiseImport
  split
  · split
    · exact ⟨_, rfl⟩
    · exact ⟨s.berths, rfl⟩
  · exact ⟨s.berths, rfl⟩

theorem onlyBerths_raiseExport (s : State) (n : Nat) : OnlyBerths s (s.raiseExport n) := by
  unfold State.raiseExport
  split
  · split
    · exact ⟨_, rfl⟩
    · exact ⟨s.berths, rfl⟩
  · exact ⟨s.berths, rfl⟩

/-- A pass changes the berths and nothing else. -/
theorem onlyBerths_allocate (s : State) : OnlyBerths s s.allocate := by
  have decided (exporters : List (Nat × Nat)) (shares : List Share) :
      OnlyBerths s (s.zeroOthers.decideAtOnce exporters shares) := ⟨_, rfl⟩
  exact ((decided _ _).trans (onlyBerths_foldl onlyBerths_raiseImport _ _)).trans
    (onlyBerths_foldl onlyBerths_raiseExport _ _)

/-! ## The allocation pass under ceilings of 0 (R79, R83, R86) -/

theorem shareExport_zero (l : List Candidate) : shareExport 0 l = [] := by
  induction l with
  | nil => rfl
  | cons c l ih => simpa [shareExport] using ih

theorem addShare_given_zero (b : Berth) (l : List Share) (hl : ∀ x ∈ l, x.given = 0) :
    ∀ x ∈ addShare b 0 l, x.given = 0 := by
  induction l with
  | nil => simp [addShare]
  | cons y l ih =>
    obtain ⟨hy, hl⟩ := List.forall_mem_cons.1 hl
    unfold addShare
    split
    · exact List.forall_mem_cons.2 ⟨hy, hl⟩
    · exact List.forall_mem_cons.2 ⟨hy, ih hl⟩

theorem givenTo_zero {l : List Share} (hl : ∀ x ∈ l, x.given = 0) (n : Nat) : givenTo l n = 0 := by
  unfold givenTo
  cases h : l.find? fun x => x.berth.number == n with
  | none => rfl
  | some x => exact hl x (List.mem_of_find?_eq_some h)

section
variable {s : State}

theorem trenchAmount_le (s : State) (shares : List Share) (c : Claim) :
    s.trenchAmount shares c ≤ s.claimAmount shares c := by
  unfold State.trenchAmount
  dsimp only
  split
  · rename_i h
    have := h.1
    omega
  · exact le_rfl

/-- R86: without import room no claim is given anything. -/
theorem serveClaims_zero (hroom : s.importRoom = 0) (exporters : List (Nat × Nat)) :
    ∀ x ∈ s.serveClaims exporters, x.given = 0 := by
  have served (claims : List Claim) (shares : List Share) (hs : ∀ x ∈ shares, x.given = 0) :
      ∀ x ∈ claims.foldl s.serveClaim shares, x.given = 0 := by
    induction claims generalizing shares with
    | nil => exact hs
    | cons c claims ih =>
      have hamount : s.trenchAmount shares c = 0 := by
        have := trenchAmount_le s shares c
        unfold State.claimAmount at this
        omega
      refine ih _ ?_
      unfold State.serveClaim
      rw [hamount]
      exact addShare_given_zero _ _ hs
  exact served _ [] (by simp)

theorem decideBerth_atZero {shares : List Share} (hs : ∀ x ∈ shares, x.given = 0) {b : Berth}
    (hb : b.isClaimant = false → b.atZero) : (s.decideBerth [] shares b).atZero := by
  unfold State.decideBerth
  split
  · have hw : wantedLevel [] shares b.number = 0 := by simp [wantedLevel, givenTo_zero hs]
    rw [hw]
    exact ⟨rfl, by simp [Berth.decidedAtOnce, importPart, exportPart]⟩
  · rename_i h
    exact hb (by simpa using h)

theorem zeroOthers_atZero (s : State) : ∀ b ∈ s.zeroOthers.berths, b.isClaimant = false → b.atZero := by
  intro b' hb' hc
  obtain ⟨b, _, rfl⟩ := List.mem_map.1 hb'
  split
  · rename_i h
    rw [if_pos h] at hc
    exact absurd h (by simp [hc])
  · exact setTarget_atZero _ b

/-- R90: a berth whose wanted level is 0 is not raised. -/
theorem raiseImport_of_atZero (hs : ∀ b ∈ s.berths, b.atZero) (n : Nat) : s.raiseImport n = s := by
  unfold State.raiseImport
  split
  · rename_i b hb
    rw [(hs b (mem_of_berth? hb)).1]
    exact if_neg (by simp [importPart])
  · rfl

/-- R79: while both ceilings are 0 a pass decides every target at 0. -/
theorem allocate_atZero (himport : s.alloc.importCeiling = 0) (hexport : s.alloc.exportCeiling = 0) :
    ∀ b ∈ s.allocate.berths, b.atZero := by
  have hroom : s.zeroOthers.importRoom = 0 := by
    unfold State.importRoom
    rw [show s.zeroOthers.alloc.importCeiling = 0 from himport, Nat.zero_sub]
  have hexporters : s.zeroOthers.exporters = [] := by
    unfold State.exporters State.exportRoom
    rw [show s.zeroOthers.alloc.exportCeiling = 0 from hexport, Nat.zero_sub, shareExport_zero]
  have hdecided : ∀ b ∈ (s.zeroOthers.decideAtOnce [] (s.zeroOthers.serveClaims [])).berths, b.atZero := by
    intro b' hb'
    obtain ⟨b, hb, rfl⟩ := List.mem_map.1 hb'
    exact decideBerth_atZero (serveClaims_zero hroom []) (zeroOthers_atZero s b hb)
  have unraised (l : List Nat) (u : State) (hu : ∀ b ∈ u.berths, b.atZero) : l.foldl State.raiseImport u = u := by
    induction l with
    | nil => rfl
    | cons n l ih => rw [List.foldl_cons, raiseImport_of_atZero hu, ih]
  unfold State.allocate
  dsimp only
  rw [hexporters, unraised _ _ hdecided]
  exact hdecided

end

/-! ## The allocation pass at berths that are no claimants (R82) -/

section
variable {s : State}

theorem mem_updBerth_berths {n : Nat} {f : Berth → Berth} {r' : Berth} :
    r' ∈ (s.updBerth n f).berths ↔ ∃ r ∈ s.berths, r' = if r.number = n then f r else r := by
  simp only [updBerth_berths, updateKey_eq_map, List.mem_map, eq_comm]

theorem decideBerth_isClaimant (exporters : List (Nat × Nat)) (shares : List Share) (b : Berth) :
    (s.decideBerth exporters shares b).isClaimant = b.isClaimant := by
  unfold State.decideBerth
  split <;> rfl

/-- R82, R90, R91: a raise at a claimant leaves the berths that are no claimants at 0. -/
theorem othersZero_setTarget (ht : s.tablesOk = true) (hs : s.othersZero) {n : Nat} {b : Berth} (hb : s.berth? n = some b)
    (hc : b.isClaimant = true) (w d : Int) : (s.setTarget n w d).othersZero := by
  intro r' hr' hother
  obtain ⟨r, hr, rfl⟩ := mem_updBerth_berths.1 hr'
  by_cases hrn : r.number = n
  · have hrb : r = b := berth_eq_of_number ht (mem_of_berth? hb) hr (hrn.trans (number_of_berth? hb).symm)
    rw [if_pos hrn] at hother
    have hclaims : r.isClaimant = false := hother
    rw [hrb, hc] at hclaims
    cases hclaims
  · rw [if_neg hrn] at hother ⊢
    exact hs r hr hother

theorem claimant_of_wanted (hs : s.othersZero) {n : Nat} {b : Berth} (hb : s.berth? n = some b) (hw : b.wanted ≠ 0) :
    b.isClaimant = true := by
  by_contra hc
  exact hw (hs b (mem_of_berth? hb) (by simpa using hc)).1

theorem othersZero_raiseImport (ht : s.tablesOk = true) (hs : s.othersZero) (n : Nat) : (s.raiseImport n).othersZero := by
  unfold State.raiseImport
  split
  · rename_i b hb
    split
    · rename_i hlt
      refine othersZero_setTarget ht hs hb (claimant_of_wanted hs hb fun hw => ?_) _ _
      simp [hw, importPart] at hlt
    · exact hs
  · exact hs

theorem othersZero_raiseExport (ht : s.tablesOk = true) (hs : s.othersZero) (n : Nat) : (s.raiseExport n).othersZero := by
  unfold State.raiseExport
  split
  · rename_i b hb
    split
    · rename_i hlt
      refine othersZero_setTarget ht hs hb (claimant_of_wanted hs hb fun hw => ?_) _ _
      simp [hw, exportPart] at hlt
    · exact hs
  · exact hs

/-- R82: a pass leaves every berth that is no claimant at 0. -/
theorem allocate_othersZero (ht : s.tablesOk = true) : s.allocate.othersZero := by
  have raised {f : State → Nat → State} (hk : ∀ u n, (f u n).keys = u.keys)
      (hf : ∀ {u : State}, u.tablesOk = true → u.othersZero → ∀ n, (f u n).othersZero) (l : List Nat) (u : State)
      (hu : u.tablesOk = true) (hz : u.othersZero) : (l.foldl f u).tablesOk = true ∧ (l.foldl f u).othersZero := by
    induction l generalizing u with
    | nil => exact ⟨hu, hz⟩
    | cons n l ih => exact ih _ ((tablesOk_of_keys (hk u n)).trans hu) (hf hu hz n)
  have hdecided (exporters : List (Nat × Nat)) (shares : List Share) :
      (s.zeroOthers.decideAtOnce exporters shares).othersZero := by
    intro r' hr' hother
    obtain ⟨r, hr, rfl⟩ := List.mem_map.1 hr'
    rw [decideBerth_isClaimant] at hother
    have hkept : s.zeroOthers.decideBerth exporters shares r = r := if_neg (by simp [hother])
    rw [hkept]
    exact zeroOthers_atZero s r hr hother
  have htables (exporters : List (Nat × Nat)) (shares : List Share) :
      (s.zeroOthers.decideAtOnce exporters shares).tablesOk = true := by
    have cleared : s.zeroOthers.keys = s.keys :=
      mapBerths_keys (f := fun b => if b.isClaimant then b else b.setTarget (s.grantInFlight b.number) 0 0)
        (fun b => by split <;> rfl) rfl rfl rfl rfl
    have decided : (s.zeroOthers.decideAtOnce exporters shares).keys = s.zeroOthers.keys :=
      mapBerths_keys (decideBerth_number s.zeroOthers exporters shares) rfl rfl rfl rfl
    exact (tablesOk_of_keys (decided.trans cleared)).trans ht
  unfold State.allocate
  dsimp only
  obtain ⟨himported, hzero⟩ :=
    raised raiseImport_keys othersZero_raiseImport _ _ (htables _ _) (hdecided _ _)
  exact (raised raiseExport_keys othersZero_raiseExport _ _ himported hzero).2

end

/-! ## Every step -/

/-- The ceilings current; under `A` the targets at 0 where they are held there; under `B` the tables in their form and the
targets at 0 at berths that are no claimants. -/
structure TargetsOk (A B : Prop) (s : State) : Prop where
  ceilings : s.ceilingsCurrent
  held : A → s.heldTargetsZero
  others : B → s.tablesOk = true ∧ s.othersZero

section
variable {A B : Prop} {s t : State}

theorem Lowers.heldTargetsZero (h : Lowers s t) (hs : s.heldTargetsZero) : t.heldTargetsZero := by
  intro hheld
  rcases h.held hheld with hh | hz
  · exact h.all_atZero (hs hh)
  · exact hz

theorem Lowers.othersZero (h : Lowers s t) (hs : s.othersZero) : t.othersZero := by
  intro b' hb' hc
  rcases h.targets b' hb' with hz | ⟨b, hb, hz | ⟨hw, hd, hkept⟩⟩
  · exact hz
  · exact hz
  · obtain ⟨hw0, hd0⟩ := hs b hb (hkept hc)
    exact ⟨hw.trans hw0, hd.trans hd0⟩

theorem KeepsCeilings.targetsOk (h : KeepsCeilings s t) (ht : s.tablesOk = true → t.tablesOk = true) (hs : TargetsOk A B s) :
    TargetsOk A B t where
  ceilings := h.ceilings hs.ceilings
  held hA := h.lowers.heldTargetsZero (hs.held hA)
  others hB := ⟨ht (hs.others hB).1, h.lowers.othersZero (hs.others hB).2⟩

/-- R79, R82: an allocation pass keeps the targets at 0 where they must be. -/
theorem targetsOk_takePass (hs : TargetsOk A B s) : TargetsOk A B s.takePass := by
  unfold State.takePass
  split
  · have hclosed := lowers_closeEvent (State.allocate { s with alloc := { s.alloc with passRequested := false } }) s
    refine ⟨closeEvent_ceilings _ s, fun hA hheld => hclosed.all_atZero ?_, fun hB => ⟨?_, hclosed.othersZero ?_⟩⟩
    · have hsheld : s.heldAtZero = true := by
        obtain ⟨⟨_, _, _, hrun, _, _, hgrid, _⟩, _⟩ :=
          closeEvent_settles s (State.allocate { s with alloc := { s.alloc with passRequested := false } })
        obtain ⟨berths, hpost⟩ := onlyBerths_allocate { s with alloc := { s.alloc with passRequested := false } }
        rw [hpost] at hrun hgrid hheld
        unfold State.heldAtZero State.stopInForce at hheld ⊢
        rwa [hrun, hgrid] at hheld
      obtain ⟨himport, hexport, -⟩ := ceilings_of_held hs.ceilings hsheld
      exact allocate_atZero himport hexport
    · exact (tablesOk_of_keys ((closeEvent_keys _ s).trans (allocate_keys _))).trans (hs.others hB).1
    · exact allocate_othersZero (hs.others hB).1
  · exact hs

/-- R163: the berths of an image have both their targets 0. -/
theorem readBerths_atZero (vs : List Int) (bs : List Berth) (h : readBerths vs = some bs) : ∀ b ∈ bs, b.atZero := by
  induction vs using readBerths.induct generalizing bs with
  | case1 => cases h; simp
  | case2 n b t q mi me c o rest hfit ih =>
    rw [readBerths, if_pos hfit, Option.map_eq_some_iff] at h
    obtain ⟨cs, hcs, rfl⟩ := h
    exact List.forall_mem_cons.2 ⟨⟨rfl, rfl⟩, ih cs hcs⟩
  | case3 n b t q mi me c o rest hfit =>
    rw [readBerths, if_neg hfit] at h
    cases h
  | case4 vs h0 h8 => rw [readBerths] at h <;> simp_all

theorem loadImage_atZero {image : List Byte} {p : Profile} {bs : List Berth} (h : loadImage image = some (p, bs)) :
    ∀ b ∈ bs, b.atZero := by
  unfold loadImage at h
  dsimp only at h
  split at h
  · obtain ⟨vs, _, h⟩ := Option.bind_eq_some_iff.1 h
    split at h
    · cases h
    · obtain ⟨q, _, h⟩ := Option.bind_eq_some_iff.1 h
      obtain ⟨cs, hcs, h⟩ := Option.bind_eq_some_iff.1 h
      split at h
      · cases h
      · cases h
        exact fun b hb => readBerths_atZero _ cs hcs b ((sortBy_perm _ cs).mem_iff.1 hb)
  · cases h

theorem targetsOk_powerOn (A B : Prop) (s : State) : TargetsOk A B s.powerOn := by
  have hzero : ∀ b ∈ s.powerOn.berths, b.atZero := by
    unfold State.powerOn
    dsimp only
    split
    · rename_i p bs himage
      exact loadImage_atZero himage
    · exact fun b hb => absurd hb List.not_mem_nil
  refine ⟨?_, fun _ _ => hzero, fun _ => ⟨tablesOk_powerOn s, fun b hb _ => hzero b hb⟩⟩
  unfold State.powerOn
  dsimp only
  split <;> exact ⟨rfl, rfl, rfl⟩

theorem targetsOk_kept (A B : Prop) : Kept (TargetsOk A B) where
  records h hs := h.keepsCeilings.targetsOk (fun ht => (tablesOk_of_keys h.keys).trans ht) hs
  owner s r hs := (owner_keepsCeilings s r).targetsOk (owner_tablesOk s r) hs
  event {c} {f} hc s hs := by
    by_cases hpass : c = .allocationPass
    · subst hpass
      cases hc
      exact targetsOk_takePass hs
    · exact (eventEffect_keepsCeilings hc hpass s).targetsOk (fun ht => (tablesOk_of_keys (eventEffect_keys hc s)).trans ht) hs
  powerOn s _ := targetsOk_powerOn A B s
  second s hs := by
    refine KeepsCeilings.targetsOk ?_ (fun ht => (tablesOk_of_keys (countSecond_keys s)).trans ht) hs
    rw [countSecond_eq]
    exact ⟨lowers_of_berths rfl id, ceilingsCurrent_congr rfl rfl rfl rfl rfl rfl⟩

/-- Settles O58: every event ends with the ceilings recomputed, none but the pass gives a target, and under ceilings of 0 the
pass gives none. -/
theorem stepKeepsCeilingsAndZeroTargets : Obligations.StepKeepsCeilingsAndZeroTargets := by
  intro s t hs h
  have hkept : TargetsOk s.heldTargetsZero (s.tablesOk = true ∧ s.othersZero) t :=
    (targetsOk_kept _ _).step h ⟨hs, id, id⟩
  exact ⟨hkept.ceilings, hkept.held, fun ht hz => (hkept.others ⟨ht, hz⟩).2⟩

end

end Sys2Proof.Machine
end

section
/-! PROOFS. What is shared out in an order: sums over the berths, lists in an order, and a room that what has been given may not
exceed (R83, R86, R90, R91). -/

namespace Sys2Proof.Machine

/-! ## Lists in order -/

section
variable {α : Type}

theorem insertSorted_isChain {before : α → α → Bool} {first : α → α → Prop} (x : α) (l : List α) (hx : ∀ y ∈ l, first x y)
    (hl : l.IsChain fun a b => before a b = true ∨ (before b a = false ∧ first a b)) :
    (insertSorted (fun a b => !before b a) x l).IsChain fun a b => before a b = true ∨ (before b a = false ∧ first a b) := by
  induction l with
  | nil => exact List.isChain_singleton x
  | cons y l ih =>
    unfold insertSorted
    split
    · rename_i h
      exact List.isChain_cons_cons.2 ⟨.inr ⟨by simpa using h, hx y (List.mem_cons_self ..)⟩, hl⟩
    · rename_i h
      have hyx : before y x = true := by simpa using h
      have htail := ih (fun z hz => hx z (List.mem_cons_of_mem _ hz)) hl.tail
      cases l with
      | nil => exact List.isChain_cons_cons.2 ⟨.inl hyx, List.isChain_singleton x⟩
      | cons z l =>
        unfold insertSorted at htail ⊢
        split at htail
        · rename_i hz
          rw [if_pos hz]
          exact List.isChain_cons_cons.2 ⟨.inl hyx, htail⟩
        · rename_i hz
          rw [if_neg hz]
          exact List.isChain_cons_cons.2 ⟨(List.isChain_cons_cons.1 hl).1, htail⟩

/-- Each of two neighbours in a sorted list is ahead of the other, or they rank equal and keep the order they came in. -/
theorem sortBy_isChain {before : α → α → Bool} {first : α → α → Prop} {l : List α} (hl : l.Pairwise first) :
    (sortBy before l).IsChain fun a b => before a b = true ∨ (before b a = false ∧ first a b) := by
  induction l with
  | nil => exact List.isChain_nil
  | cons x l ih =>
    obtain ⟨hx, hl⟩ := List.pairwise_cons.1 hl
    exact insertSorted_isChain x _ (fun y hy => hx y ((sortBy_perm before l).mem_iff.1 hy)) (ih hl)

theorem sortBy_map {β : Type} (before : β → β → Bool) (f : α → β) (l : List α) :
    sortBy before (l.map f) = (sortBy (fun a b => before (f a) (f b)) l).map f := by
  have inserted (x : α) (m : List α) : insertSorted (fun a b => !before b a) (f x) (m.map f)
      = (insertSorted (fun a b => !before (f b) (f a)) x m).map f := by
    induction m with
    | nil => rfl
    | cons y m ih =>
      rw [List.map_cons, insertSorted, insertSorted, ih]
      split <;> simp
  induction l with
  | nil => rfl
  | cons x l ih => rw [List.map_cons, sortBy, ih, inserted, sortBy]

/-- In a list ordered by an asymmetric relation, what comes before a member is what precedes it. -/
theorem filter_before {r : α → α → Bool} (hr : ∀ a b, r a b = true → r b a = false) {l : List α} {b : α} {m : List α}
    (h : (l ++ b :: m).Pairwise fun x y => r x y = true) : (l ++ b :: m).filter (fun c => r c b) = l := by
  obtain ⟨_, hm, hlm⟩ := List.pairwise_append.1 h
  have hself : r b b = false := by
    by_contra hb
    rw [Bool.not_eq_false] at hb
    exact Bool.noConfusion ((hr b b hb).symm.trans hb)
  rw [List.filter_append, List.filter_cons_of_neg (by simp [hself]),
    List.filter_eq_self.2 fun c hc => hlm c hc b (List.mem_cons_self ..),
    List.filter_eq_nil_iff.2 fun c hc => by simp [hr b c ((List.pairwise_cons.1 hm).1 c hc)], List.append_nil]

theorem eraseDups_concat [BEq α] [LawfulBEq α] (l : List α) (b : α) :
    (l ++ [b]).eraseDups = if b ∈ l then l.eraseDups else l.eraseDups ++ [b] := by
  rw [List.eraseDups_append]
  by_cases hb : b ∈ l
  · simp [List.removeAll, hb]
  · simp [List.removeAll, hb, List.eraseDups_cons]

/-! ## Rooms -/

/-- Where each member in its turn gets no more than a room leaves, what has been given stays within the room. -/
theorem sum_le_of_room {f : α → Nat} {p : α → Bool} {base room : Nat} (order : List α)
    (h : ∀ l b r, order = l ++ b :: r → p b = true → f b ≤ room - (base + ((l.filter p).map f).sum)) :
    base + ((order.filter p).map f).sum ≤ max base room := by
  induction order using List.reverseRecOn with
  | nil => simp
  | append_singleton l b ih =>
    have hl := ih fun l' b' r hr => h l' b' (r ++ [b]) (by rw [hr]; simp)
    rw [List.filter_append]
    by_cases hb : p b = true
    · have := h l b [] rfl hb
      simp only [List.filter_cons_of_pos hb, List.filter_nil, List.map_append, List.sum_append, List.map_cons, List.map_nil,
        List.sum_cons, List.sum_nil]
      omega
    · simpa [List.filter_cons_of_neg hb] using hl

/-- The same of the whole order. -/
theorem sum_le_of_whole_room {f : α → Nat} {base room : Nat} (order : List α)
    (h : ∀ l b r, order = l ++ b :: r → f b ≤ room - (base + (l.map f).sum)) : base + (order.map f).sum ≤ max base room := by
  have := sum_le_of_room (f := f) (p := fun _ => true) (base := base) (room := room) order
    fun l b r hr _ => by simpa using h l b r hr
  simpa using this

/-- Where the members left out count nothing, a filter keeps the sum. -/
theorem sum_filter_of_zero {f : α → Nat} {q : α → Bool} {l : List α} (h : ∀ b ∈ l, q b = false → f b = 0) :
    ((l.filter q).map f).sum = (l.map f).sum := by
  induction l with
  | nil => rfl
  | cons b l ih =>
    obtain ⟨hb, hl⟩ := List.forall_mem_cons.1 h
    rw [List.map_cons, List.sum_cons, ← ih hl, List.filter_cons]
    split
    · rw [List.map_cons, List.sum_cons]
    · rename_i hnot
      rw [hb (by simpa using hnot), Nat.zero_add]

end

/-! ## Sums over the berths -/

section
variable {s : State} (ht : s.tablesOk = true)
include ht

theorem berths_numbers : (s.berths.map Berth.number).Pairwise (· < ·) := (keysRising_iff _).1 ((tablesOk_iff s).1 ht).2.1.1

theorem berths_rising : s.berths.Pairwise fun a b => a.number < b.number := List.pairwise_map.1 (berths_numbers ht)

theorem berths_nodup : s.berths.Nodup := (berths_rising ht).imp fun h e => absurd (congrArg Berth.number e) (ne_of_lt h)

/-- What is given along an order, summed over the berths instead. -/
theorem sum_filter_of_order {f : Berth → Nat} {order : List Berth} (hn : order.Nodup) (hsub : ∀ b ∈ order, b ∈ s.berths)
    (hzero : ∀ b ∈ s.berths, b ∉ order → f b = 0) (p : Berth → Bool) :
    ((s.berths.filter p).map f).sum = ((order.filter p).map f).sum := by
  have hperm : ((s.berths.filter p).filter fun b => decide (b ∈ order)).Perm (order.filter p) := by
    refine (List.perm_ext_iff_of_nodup (((berths_nodup ht).filter _).filter _) (hn.filter _)).2 fun b => ?_
    simp only [List.mem_filter, decide_eq_true_eq]
    exact ⟨fun ⟨⟨_, hp⟩, hb⟩ => ⟨hb, hp⟩, fun ⟨hb, hp⟩ => ⟨⟨hsub b hb, hp⟩, hb⟩⟩
  rw [← (hperm.map f).sum_nat]
  refine (sum_filter_of_zero fun b hb hnot => ?_).symm
  exact hzero b (List.mem_of_mem_filter hb) (by simpa using hnot)

theorem sum_of_order {f : Berth → Nat} {order : List Berth} (hn : order.Nodup) (hsub : ∀ b ∈ order, b ∈ s.berths)
    (hzero : ∀ b ∈ s.berths, b ∉ order → f b = 0) : (s.berths.map f).sum = (order.map f).sum := by
  have := sum_filter_of_order ht hn hsub hzero fun _ => true
  simpa using this

end

end Sys2Proof.Machine
end

section
/-! PROOFS. What an allocation pass shares out before any claim is served: the stranded values (R82), and what the export
candidates receive, in their order (R83, R84). -/

namespace Sys2Proof.Machine

/-! ## Stranded values (R82) -/

section
variable (s : State)

/-- R82: a berth as the pass finds it, with its targets at 0 where it is no claimant. -/
def State.cleared (s : State) (b : Berth) : Berth :=
  if b.isClaimant then b else b.setTarget (s.grantInFlight b.number) 0 0

theorem zeroOthers_berths : s.zeroOthers.berths = s.berths.map s.cleared := rfl

variable {s} in
theorem cleared_of_claimant {b : Berth} (h : b.isClaimant = true) : s.cleared b = b := if_pos h

variable {s} in
theorem cleared_of_other {b : Berth} (h : b.isClaimant = false) :
    s.cleared b = b.setTarget (s.grantInFlight b.number) 0 0 := if_neg (by simp [h])

theorem cleared_isClaimant (b : Berth) : (s.cleared b).isClaimant = b.isClaimant := by
  unfold State.cleared
  split <;> rfl

theorem zeroOthers_others :
    s.zeroOthers.others = (s.berths.filter fun b => !b.isClaimant).map fun b => b.setTarget (s.grantInFlight b.number) 0 0 := by
  unfold State.others
  rw [zeroOthers_berths, List.filter_map]
  simp only [Function.comp_def, cleared_isClaimant]
  refine List.map_congr_left fun b hb => cleared_of_other ?_
  simpa using (List.mem_filter.1 hb).2

/-- A counted value of a berth whose targets are 0 is the part of its reported output. -/
theorem stranded_eq (counted part : Berth → Nat) (h : ∀ (f : Bool) b, counted (b.setTarget f 0 0) = part b) :
    sumOf counted s.zeroOthers.others = s.stranded part := by
  unfold sumOf State.stranded
  rw [zeroOthers_others, List.map_map]
  exact congrArg List.sum (List.map_congr_left fun b _ => h _ b)

theorem zeroOthers_importRoom :
    s.zeroOthers.importRoom = s.alloc.importCeiling - s.stranded fun b => importPart b.reported :=
  congrArg (s.alloc.importCeiling - ·)
    (stranded_eq s Berth.countedImport _ fun _ b => by simp [Berth.countedImport, Berth.setTarget, importPart])

theorem zeroOthers_exportRoom :
    s.zeroOthers.exportRoom = s.alloc.exportCeiling - s.stranded fun b => exportPart b.reported :=
  congrArg (s.alloc.exportCeiling - ·)
    (stranded_eq s Berth.countedExport _ fun _ b => by simp [Berth.countedExport, Berth.setTarget, exportPart])

theorem zeroOthers_branchRoom (branch : Nat) :
    s.zeroOthers.branchRoom branch =
      s.profile.branchLimit branch - s.stranded fun b => if b.branch = branch then importPart b.reported else 0 := by
  have filtered (f : Berth → Nat) (l : List Berth) :
      sumOf f (l.filter fun b => b.branch == branch) = sumOf (fun b => if b.branch = branch then f b else 0) l := by
    induction l with
    | nil => rfl
    | cons b l ih =>
      unfold sumOf at ih ⊢
      by_cases h : b.branch = branch <;> simp [h, ih]
  unfold State.branchRoom
  rw [filtered, stranded_eq s _ (fun b => if b.branch = branch then importPart b.reported else 0)]
  · rfl
  · intro f b
    simp [Berth.countedImport, Berth.setTarget, importPart]

end

/-! ## Candidates (R83, R84) -/

/-- R83: the most that a candidate receives apart from the room. -/
def State.exportLimit (s : State) (b : Berth) : Nat := min b.maxExport (s.surplusAt b * 6 / s.remainingWindow)

/-- R83: the candidate that a berth makes. -/
def State.candidateAs (s : State) (b : Berth) : Candidate :=
  { berth := b.number, surplus := s.surplusAt b, limit := s.exportLimit b }

/-- R83: the berths that are candidates, in the order in which they are served. -/
def State.exportOrder (s : State) : List Berth :=
  sortBy (fun a b => decide (s.surplusAt b < s.surplusAt a)) (s.berths.filter s.isCandidate)

section
variable {s : State}

theorem candidateOf_eq (s : State) (b : Berth) :
    s.candidateOf b = if s.isCandidate b = true then some (s.candidateAs b) else none := by
  unfold State.candidateOf State.isCandidate State.candidateAs State.exportLimit State.surplusAt State.energyLimited
  cases s.occupantBus b with
  | none => rfl
  | some x => simp [Bus.surplus]

theorem candidateOf_cleared (s : State) (b : Berth) : s.candidateOf (s.cleared b) = s.candidateOf b := by
  unfold State.cleared
  split <;> rfl

theorem zeroOthers_candidates (s : State) : s.zeroOthers.candidates = s.exportOrder.map s.candidateAs := by
  have made : s.zeroOthers.berths.filterMap s.zeroOthers.candidateOf = (s.berths.filter s.isCandidate).map s.candidateAs := by
    rw [zeroOthers_berths, List.filterMap_map, ← List.filterMap_eq_map, ← List.filterMap_eq_filter, List.filterMap_filterMap]
    refine List.filterMap_congr fun b _ => ?_
    show s.candidateOf (s.cleared b) = _
    rw [candidateOf_cleared, candidateOf_eq]
    cases h : s.isCandidate b <;> simp [Option.guard, h]
  unfold State.candidates State.exportOrder
  rw [made, sortBy_map]
  rfl

theorem mem_exportOrder {b : Berth} : b ∈ s.exportOrder ↔ b ∈ s.berths ∧ s.isCandidate b = true :=
  (sortBy_perm _ _).mem_iff.trans List.mem_filter

theorem givesBefore_asymm (a b : Berth) (h : s.givesBefore a b = true) : s.givesBefore b a = false := by
  simp only [State.givesBefore, Bool.or_eq_true, Bool.and_eq_true, decide_eq_true_eq, beq_iff_eq] at h
  simp only [State.givesBefore, Bool.or_eq_false_iff, Bool.and_eq_false_iff, decide_eq_false_iff_not, beq_eq_false_iff_ne]
  omega

section
variable (ht : s.tablesOk = true)
include ht

theorem exportOrder_nodup : (s.exportOrder.map Berth.number).Nodup :=
  (((sortBy_perm _ (s.berths.filter s.isCandidate)).map Berth.number).nodup_iff).2
    (List.Nodup.sublist ((List.filter_sublist).map Berth.number) ((berths_numbers ht).imp fun h => ne_of_lt h))

/-- R83: each candidate in the order is served before all that follow it. -/
theorem exportOrder_pairwise : s.exportOrder.Pairwise fun a b => s.givesBefore a b = true := by
  have : Trans (fun a b => s.givesBefore a b = true) (fun a b => s.givesBefore a b = true)
      fun a b => s.givesBefore a b = true :=
    ⟨fun {a b c} h h' => by
      simp only [State.givesBefore, Bool.or_eq_true, Bool.and_eq_true, decide_eq_true_eq, beq_iff_eq] at h h' ⊢
      omega⟩
  rw [← List.isChain_iff_pairwise]
  refine (sortBy_isChain ((berths_rising ht).filter _)).imp fun a b h => ?_
  simp only [State.givesBefore, Bool.or_eq_true, Bool.and_eq_true, decide_eq_true_eq, decide_eq_false_iff_not,
    beq_iff_eq] at h ⊢
  omega

/-- R83: what the candidates served before a candidate have been given, summed over those that precede it in the order. -/
theorem sum_givesBefore {l r : List Berth} {b : Berth} (h : s.exportOrder = l ++ b :: r) (p : Berth → Bool) (f : Berth → Nat)
    (hp : ∀ c ∈ s.berths, p c = true → s.isCandidate c = true) :
    ((s.berths.filter fun c => p c && s.givesBefore c b).map f).sum = ((l.filter p).map f).sum := by
  have hl : s.exportOrder.filter (fun c => s.givesBefore c b) = l := by
    rw [h]
    exact filter_before givesBefore_asymm (h ▸ exportOrder_pairwise ht)
  have hperm : (s.berths.filter fun c => p c && s.givesBefore c b).Perm
      ((s.exportOrder.filter fun c => s.givesBefore c b).filter p) := by
    have hnodup := List.Nodup.of_map _ (exportOrder_nodup ht)
    refine (List.perm_ext_iff_of_nodup ((berths_nodup ht).filter _) ((hnodup.filter _).filter _)).2 fun c => ?_
    simp only [List.mem_filter, mem_exportOrder, Bool.and_eq_true]
    exact ⟨fun ⟨hc, hpc, hg⟩ => ⟨⟨⟨hc, hp c hc hpc⟩, hg⟩, hpc⟩, fun ⟨⟨⟨hc, _⟩, hg⟩, hpc⟩ => ⟨hc, hpc, hg⟩⟩
  rw [(hperm.map f).sum_nat, hl]

end

/-! ## What the candidates receive (R83) -/

/-- What a list of exporters gives a berth. -/
def exportedIn (exporters : List (Nat × Nat)) (n : Nat) : Nat :=
  ((exporters.find? fun e => e.1 == n).map Prod.snd).getD 0

theorem shareExport_cons (room : Nat) (c : Candidate) (cs : List Candidate) :
    shareExport room (c :: cs) =
      if min c.limit room = 0 then shareExport room cs
      else (c.berth, min c.limit room) :: shareExport (room - min c.limit room) cs := rfl

theorem shareExport_positive (room : Nat) (cs : List Candidate) : ∀ e ∈ shareExport room cs, 0 < e.2 := by
  induction cs generalizing room with
  | nil => simp [shareExport]
  | cons c cs ih =>
    rw [shareExport_cons]
    split
    · exact ih room
    · rename_i h
      exact List.forall_mem_cons.2 ⟨Nat.pos_of_ne_zero h, ih _⟩

theorem exportedIn_of_notMem (room : Nat) (cs : List Candidate) (n : Nat) (h : n ∉ cs.map Candidate.berth) :
    exportedIn (shareExport room cs) n = 0 := by
  induction cs generalizing room with
  | nil => rfl
  | cons c cs ih =>
    rw [List.map_cons, List.mem_cons, not_or] at h
    rw [shareExport_cons]
    split
    · exact ih room h.2
    · unfold exportedIn
      rw [List.find?_cons_of_neg (by simpa using Ne.symm h.1)]
      exact ih _ h.2

theorem exportedIn_cons (room : Nat) (c : Candidate) (cs : List Candidate) (h : c.berth ∉ cs.map Candidate.berth) (n : Nat) :
    exportedIn (shareExport room (c :: cs)) n =
      if c.berth = n then min c.limit room else exportedIn (shareExport (room - min c.limit room) cs) n := by
  rw [shareExport_cons]
  by_cases hzero : min c.limit room = 0
  · rw [if_pos hzero, hzero, Nat.sub_zero]
    split
    · rename_i hn
      exact hn ▸ exportedIn_of_notMem room cs _ h
    · rfl
  · rw [if_neg hzero]
    unfold exportedIn
    split
    · rename_i hn
      rw [List.find?_cons_of_pos (by simpa using hn)]
      rfl
    · rename_i hn
      rw [List.find?_cons_of_neg (by simpa using hn)]

/-- R83: a candidate receives the smaller of its limit and what those before it leave of the room. -/
theorem exportedIn_split (l : List Candidate) : ∀ (room : Nat) (c : Candidate) (r : List Candidate),
    ((l ++ c :: r).map Candidate.berth).Nodup →
      exportedIn (shareExport room (l ++ c :: r)) c.berth =
        min c.limit (room - (l.map fun d => exportedIn (shareExport room (l ++ c :: r)) d.berth).sum) := by
  induction l with
  | nil =>
    intro room c r h
    obtain ⟨hc, _⟩ := List.nodup_cons.1 h
    rw [List.nil_append, exportedIn_cons room c r hc, if_pos rfl]
    rfl
  | cons a l ih =>
    intro room c r h
    rw [List.cons_append, List.map_cons, List.nodup_cons] at h
    obtain ⟨ha, h⟩ := h
    have hac : a.berth ≠ c.berth := fun e => ha (by rw [e]; simp)
    rw [List.cons_append, exportedIn_cons room a _ ha, if_neg hac, ih _ c r h, List.map_cons, List.sum_cons,
      exportedIn_cons room a _ ha, if_pos rfl]
    have hrest : (l.map fun d => exportedIn (shareExport room (a :: (l ++ c :: r))) d.berth) =
        l.map fun d => exportedIn (shareExport (room - min a.limit room) (l ++ c :: r)) d.berth := by
      refine List.map_congr_left fun d hd => ?_
      rw [exportedIn_cons room a _ ha, if_neg]
      exact fun e => ha (e ▸ List.mem_map_of_mem (List.mem_append_left _ hd))
    rw [hrest, Nat.sub_sub]

/-- R83: the exporters are the candidates that receive something, in their order. -/
theorem shareExport_numbers (room : Nat) (cs : List Candidate) (h : (cs.map Candidate.berth).Nodup) :
    (shareExport room cs).map Prod.fst =
      (cs.map Candidate.berth).filter fun n => decide (0 < exportedIn (shareExport room cs) n) := by
  induction cs generalizing room with
  | nil => rfl
  | cons c cs ih =>
    obtain ⟨hc, h⟩ := List.nodup_cons.1 h
    have hrest : (cs.map Candidate.berth).filter (fun n => decide (0 < exportedIn (shareExport room (c :: cs)) n)) =
        (shareExport (room - min c.limit room) cs).map Prod.fst := by
      rw [ih _ h]
      refine List.filter_congr fun n hn => ?_
      rw [exportedIn_cons room c cs hc, if_neg fun e => hc (by rwa [e])]
    rw [List.map_cons, List.filter_cons, hrest, exportedIn_cons room c cs hc, if_pos rfl]
    rw [shareExport_cons]
    by_cases hzero : min c.limit room = 0
    · rw [if_pos hzero, hzero]
      rfl
    · rw [if_neg hzero, if_pos (decide_eq_true (Nat.pos_of_ne_zero hzero))]
      rfl

/-! ## The exporters of a pass -/

/-- R83: what a pass gives each berth for export. -/
def State.exportedAt (s : State) (n : Nat) : Nat := exportedIn s.zeroOthers.exporters n

theorem zeroOthers_exporters (s : State) :
    s.zeroOthers.exporters =
      shareExport (s.alloc.exportCeiling - s.stranded fun b => exportPart b.reported) (s.exportOrder.map s.candidateAs) := by
  unfold State.exporters
  rw [zeroOthers_exportRoom, zeroOthers_candidates]

theorem map_candidateAs_berth (s : State) (l : List Berth) :
    (l.map s.candidateAs).map Candidate.berth = l.map Berth.number := by
  rw [List.map_map]
  rfl

section
variable (ht : s.tablesOk = true)
include ht

/-- R83, in the order of the candidates. -/
theorem exportedAt_split {l r : List Berth} {b : Berth} (h : s.exportOrder = l ++ b :: r) :
    s.exportedAt b.number =
      min (s.exportLimit b)
        (s.alloc.exportCeiling - (s.stranded fun c => exportPart c.reported) - (l.map fun c => s.exportedAt c.number).sum) := by
  have hnodup := exportOrder_nodup ht
  unfold State.exportedAt
  rw [zeroOthers_exporters, h, List.map_append, List.map_cons]
  rw [h, ← map_candidateAs_berth s, List.map_append, List.map_cons] at hnodup
  have := exportedIn_split (l.map s.candidateAs)
    (s.alloc.exportCeiling - s.stranded fun b => exportPart b.reported) (s.candidateAs b) (r.map s.candidateAs) hnodup
  rw [List.map_map] at this
  exact this

omit ht in
theorem exportedAt_of_notCandidate {n : Nat} (h : ∀ b ∈ s.berths, b.number = n → s.isCandidate b = false) :
    s.exportedAt n = 0 := by
  unfold State.exportedAt
  rw [zeroOthers_exporters]
  refine exportedIn_of_notMem _ _ n fun hn => ?_
  rw [map_candidateAs_berth] at hn
  obtain ⟨b, hb, rfl⟩ := List.mem_map.1 hn
  obtain ⟨hb, hc⟩ := mem_exportOrder.1 hb
  exact Bool.noConfusion ((h b hb rfl).symm.trans hc)

theorem exportedAt_of_berth {b : Berth} (hb : b ∈ s.berths) (hc : s.isCandidate b = false) : s.exportedAt b.number = 0 :=
  exportedAt_of_notCandidate fun c hc' hn => by rwa [berth_eq_of_number ht hb hc' hn]

theorem candidate_of_exported {b : Berth} (hb : b ∈ s.berths) (h : 0 < s.exportedAt b.number) : s.isCandidate b = true := by
  by_contra hc
  have := exportedAt_of_berth ht hb (by simpa using hc)
  omega

/-- R83: the exporters by number, in the order in which they were chosen. -/
theorem exporters_numbers :
    s.zeroOthers.exporters.map Prod.fst =
      (s.exportOrder.filter fun b => decide (0 < s.exportedAt b.number)).map Berth.number := by
  have hnodup := exportOrder_nodup ht
  rw [← map_candidateAs_berth s] at hnodup
  rw [zeroOthers_exporters, shareExport_numbers _ _ hnodup, map_candidateAs_berth, List.filter_map, ← zeroOthers_exporters]
  rfl

/-- R83, R84: what the statement says of the candidates. -/
theorem exportShares_exportedAt : s.ExportShares s.exportedAt := by
  intro b hb
  refine ⟨exportedAt_of_berth ht hb, fun hc => ?_⟩
  obtain ⟨l, r, h⟩ := List.append_of_mem (mem_exportOrder.2 ⟨hb, hc⟩)
  have hl : l.filter s.isCandidate = l :=
    List.filter_eq_self.2 fun c hc => (mem_exportOrder.1 (h ▸ List.mem_append_left _ hc)).2
  rw [sum_givesBefore ht h s.isCandidate (fun c => s.exportedAt c.number) (fun _ _ => id), hl]
  exact exportedAt_split ht h

end

end

end Sys2Proof.Machine
end

section
/-! PROOFS. The import claims of an allocation pass: which berth has one in which group, and the order in which they are served
(R85). -/

namespace Sys2Proof.Machine

section
variable {s : State}

/-! ## Importers -/

theorem occupantBus_of_other {b : Berth} (h : b.isClaimant = false) : s.occupantBus b = none := by
  unfold State.occupantBus
  rw [if_neg]
  intro hstate
  simp [Berth.isClaimant, hstate] at h

theorem foreignDemand_of_other {b : Berth} (h : b.isClaimant = false) (p : Profile) : b.foreignDemand p = 0 := by
  unfold Berth.foreignDemand
  rw [if_neg]
  intro hstate
  simp [Berth.isClaimant, hstate] at h

/-- R85: an exporter makes no import claim. -/
theorem any_exporters {exporters : List (Nat × Nat)} (h : ∀ e ∈ exporters, 0 < e.2) (n : Nat) :
    exporters.any (fun e => e.1 == n) = decide (0 < exportedIn exporters n) := by
  unfold exportedIn
  cases hf : exporters.find? fun e => e.1 == n with
  | none =>
    have := List.find?_eq_none.1 hf
    simpa [List.any_eq_false] using this
  | some e =>
    have hpos := h e (List.mem_of_find?_eq_some hf)
    have hany : exporters.any (fun e => e.1 == n) = true :=
      List.any_eq_true.2 ⟨e, List.mem_of_find?_eq_some hf, List.find?_some (p := fun e : Nat × Nat => e.1 == n) hf⟩
    simpa [hany] using hpos

theorem exporters_positive (s : State) : ∀ e ∈ s.exporters, 0 < e.2 := shareExport_positive _ _

/-- R85: the importer that a berth makes. -/
def State.importerAs (s : State) (b : Berth) : Option Importer :=
  (s.occupantBus b).map fun x =>
    { berth := b, bus := x, departure := (s.ticketOf x).map fun t => s.timeOrder t.departure }

/-- R85: the importers of a pass. -/
def State.importersNow (s : State) : List Importer :=
  s.berths.filterMap fun b => if 0 < s.exportedAt b.number then none else s.importerAs b

theorem zeroOthers_importers (s : State) : s.zeroOthers.importers s.zeroOthers.exporters = s.importersNow := by
  unfold State.importers State.importersNow
  rw [zeroOthers_berths, List.filterMap_map]
  refine List.filterMap_congr fun b _ => ?_
  have hnumber : (s.cleared b).number = b.number := by
    unfold State.cleared
    split <;> rfl
  simp only [Function.comp_apply, any_exporters (exporters_positive _), hnumber, decide_eq_true_eq]
  show (if 0 < s.exportedAt b.number then none else s.importerAs (s.cleared b)) = _
  cases hc : b.isClaimant with
  | true => rw [cleared_of_claimant hc]
  | false =>
    have hcleared : (s.cleared b).isClaimant = false := (cleared_isClaimant s b).trans hc
    unfold State.importerAs
    rw [occupantBus_of_other hc, occupantBus_of_other hcleared]
    rfl

theorem importerAs_eq_some {b : Berth} {i : Importer} :
    s.importerAs b = some i ↔
      i.berth = b ∧ s.occupantBus b = some i.bus ∧ i.departure = (s.ticketOf i.bus).map fun t => s.timeOrder t.departure := by
  obtain ⟨c, x, departure⟩ := i
  simp only [State.importerAs, Option.map_eq_some_iff, Importer.mk.injEq]
  constructor
  · rintro ⟨y, hy, rfl, rfl, rfl⟩
    exact ⟨rfl, hy, rfl⟩
  · rintro ⟨rfl, hx, rfl⟩
    exact ⟨x, hx, rfl, rfl, rfl⟩

theorem mem_importersNow {i : Importer} :
    i ∈ s.importersNow ↔
      i.berth ∈ s.berths ∧ s.exportedAt i.berth.number = 0 ∧ s.occupantBus i.berth = some i.bus
        ∧ i.departure = (s.ticketOf i.bus).map fun t => s.timeOrder t.departure := by
  simp only [State.importersNow, List.mem_filterMap, ite_eq_iff, reduceCtorEq, and_false, false_or, not_lt,
    Nat.le_zero, importerAs_eq_some]
  constructor
  · rintro ⟨b, hb, hzero, rfl, hi⟩
    exact ⟨hb, hzero, hi⟩
  · rintro ⟨hb, hzero, hi⟩
    exact ⟨i.berth, hb, hzero, rfl, hi⟩

theorem importersNow_rising (ht : s.tablesOk = true) :
    s.importersNow.Pairwise fun i j => i.berth.number < j.berth.number := by
  refine List.pairwise_filterMap.2 ((berths_rising ht).imp fun {a b} hab i hi j hj => ?_)
  have made {c : Berth} {k : Importer} (h : (if 0 < s.exportedAt c.number then none else s.importerAs c) = some k) :
      k.berth = c := by
    split at h
    · cases h
    · exact (importerAs_eq_some.1 h).1
  rwa [made hi, made hj]

/-! ## One group of claims (R85) -/

/-- R85: the claims of one group: those of the berths that have one there, each once, in the order of the group. -/
structure State.ServesGroup (s : State) (group : Nat) (claims : List Claim) : Prop where
  mem : ∀ c, c ∈ claims ↔
    c.berth ∈ s.berths ∧ c.demand = s.claimIn s.exportedAt group c.berth ∧ 0 < c.demand
  nodup : (claims.map fun c => c.berth.number).Nodup
  ranked : claims.IsChain fun c d =>
    s.ranksAhead group c.berth d.berth ∨ (¬ s.ranksAhead group d.berth c.berth ∧ c.berth.number < d.berth.number)

/-- R85: what an importer claims in the first three groups. -/
theorem claimIn_importer {i : Importer} (hi : i ∈ s.importersNow) :
    s.claimIn s.exportedAt 1 i.berth = i.bus.thermal
      ∧ s.claimIn s.exportedAt 2 i.berth = (if i.departure.isSome then i.bus.charge else 0)
      ∧ s.claimIn s.exportedAt 3 i.berth = (if i.departure.isSome then 0 else i.bus.charge) := by
  obtain ⟨_, hzero, hbus, hdeparture⟩ := mem_importersNow.1 hi
  unfold State.claimIn
  rw [hbus, hdeparture, Option.isSome_map, hzero]
  exact ⟨rfl, rfl, rfl⟩

theorem ranksAhead_importers {i j : Importer} (hi : i ∈ s.importersNow) (hj : j ∈ s.importersNow) (group : Nat) :
    s.ranksAhead group i.berth j.berth ↔ (if group = 3 then emptierThan i j else departsBefore i j) = true := by
  obtain ⟨_, _, hbus, hdeparture⟩ := mem_importersNow.1 hi
  obtain ⟨_, _, hbus', hdeparture'⟩ := mem_importersNow.1 hj
  unfold State.ranksAhead
  rw [hbus, hbus']
  dsimp only
  split
  · simp [emptierThan]
  · unfold departsBefore
    rw [hdeparture, hdeparture']
    cases s.ticketOf i.bus <;> cases s.ticketOf j.bus <;> simp

/-- R85: a claim of a berth with an occupant is one of an importer. -/
theorem importer_of_claim {group : Nat} {b : Berth} (hb : b ∈ s.berths) (hg : group ≠ 4)
    (h : 0 < s.claimIn s.exportedAt group b) : ∃ i ∈ s.importersNow, i.berth = b := by
  unfold State.claimIn at h
  split at h
  · rename_i x hx
    split at h
    · omega
    · rename_i hzero
      exact ⟨{ berth := b, bus := x, departure := (s.ticketOf x).map fun t => s.timeOrder t.departure },
        mem_importersNow.2 ⟨hb, by simpa using hzero, hx, rfl⟩, rfl⟩
  · rw [if_neg hg] at h
    omega

/-- R85: a group of claims that importers make. -/
theorem servesGroup_of_importers (ht : s.tablesOk = true) {group : Nat} {before : Importer → Importer → Bool}
    {p : Importer → Bool} {demand : Importer → Nat} (hg : group ≠ 4)
    (hclaim : ∀ i ∈ s.importersNow, s.claimIn s.exportedAt group i.berth = if p i then demand i else 0)
    (hpos : ∀ i, p i = true → 0 < demand i)
    (hrank : ∀ i ∈ s.importersNow, ∀ j ∈ s.importersNow, s.ranksAhead group i.berth j.berth ↔ before i j = true) :
    s.ServesGroup group ((sortBy before (s.importersNow.filter p)).map fun i => { berth := i.berth, demand := demand i }) := by
  have hmem (i : Importer) : i ∈ sortBy before (s.importersNow.filter p) ↔ i ∈ s.importersNow ∧ p i = true :=
    (sortBy_perm _ _).mem_iff.trans List.mem_filter
  constructor
  · intro c
    simp only [List.mem_map, hmem]
    constructor
    · rintro ⟨i, ⟨hi, hp⟩, rfl⟩
      refine ⟨(mem_importersNow.1 hi).1, ?_, hpos i hp⟩
      rw [hclaim i hi, if_pos hp]
    · rintro ⟨hb, hdemand, hlt⟩
      obtain ⟨i, hi, hberth⟩ := importer_of_claim hb hg (hdemand ▸ hlt)
      rw [← hberth, hclaim i hi] at hdemand
      by_cases hp : p i = true
      · rw [if_pos hp] at hdemand
        exact ⟨i, ⟨hi, hp⟩, by rw [hberth, ← hdemand]⟩
      · rw [if_neg hp] at hdemand
        omega
  · rw [List.map_map]
    refine (((sortBy_perm before (s.importersNow.filter p)).map _).nodup_iff).2 ?_
    exact List.pairwise_map.2 (((importersNow_rising ht).filter p).imp fun h => ne_of_lt h)
  · refine (List.isChain_map _).2 ?_
    refine (sortBy_isChain ((importersNow_rising ht).filter p)).imp_of_mem_imp fun i j hi hj h => ?_
    rw [hrank i ((hmem i).1 hi).1 j ((hmem j).1 hj).1, hrank j ((hmem j).1 hj).1 i ((hmem i).1 hi).1]
    simpa using h

theorem claimIn_foreign (b : Berth) : s.claimIn s.exportedAt 4 b = b.foreignDemand s.profile := by
  unfold State.claimIn
  cases h : s.occupantBus b with
  | none => rfl
  | some x =>
    have hstate : b.state = .occupied := by
      by_contra hne
      unfold State.occupantBus at h
      rw [if_neg hne] at h
      cases h
    simp [Berth.foreignDemand, hstate]

section
variable (ht : s.tablesOk = true)
include ht

theorem servesGroup_thermal : s.ServesGroup 1 (thermalClaims s.importersNow) := by
  refine servesGroup_of_importers ht (demand := fun i => i.bus.thermal) (by decide) (fun i hi => ?_) (fun i hp => ?_)
    fun i hi j hj => ?_
  · rw [(claimIn_importer hi).1]
    by_cases h : i.bus.thermal = 0 <;> simp [h]
  · exact Nat.pos_of_ne_zero (by simpa using hp)
  · exact ranksAhead_importers hi hj 1

theorem servesGroup_ticketed : s.ServesGroup 2 (ticketedClaims s.importersNow) := by
  refine servesGroup_of_importers ht (demand := fun i => i.bus.charge) (by decide) (fun i hi => ?_) (fun i hp => ?_)
    fun i hi j hj => ?_
  · rw [(claimIn_importer hi).2.1]
    by_cases h : i.bus.charge = 0 <;> simp [h]
  · simp only [Bool.and_eq_true, bne_iff_ne] at hp
    exact Nat.pos_of_ne_zero hp.1
  · exact ranksAhead_importers hi hj 2

theorem servesGroup_unticketed : s.ServesGroup 3 (unticketedClaims s.importersNow) := by
  refine servesGroup_of_importers ht (demand := fun i => i.bus.charge) (by decide) (fun i hi => ?_) (fun i hp => ?_)
    fun i hi j hj => ?_
  · rw [(claimIn_importer hi).2.2]
    by_cases h : i.bus.charge = 0 <;> cases hd : i.departure <;> simp [h]
  · simp only [Bool.and_eq_true, bne_iff_ne] at hp
    exact Nat.pos_of_ne_zero hp.1
  · exact ranksAhead_importers hi hj 3

theorem servesGroup_foreign : s.ServesGroup 4 s.foreignClaims := by
  constructor
  · intro c
    simp only [State.foreignClaims, List.mem_map, List.mem_filter, bne_iff_ne, claimIn_foreign]
    constructor
    · rintro ⟨b, ⟨hb, hne⟩, rfl⟩
      exact ⟨hb, rfl, Nat.pos_of_ne_zero hne⟩
    · rintro ⟨hb, hdemand, hpos⟩
      exact ⟨c.berth, ⟨hb, by omega⟩, by rw [← hdemand]⟩
  · unfold State.foreignClaims
    rw [List.map_map]
    exact List.pairwise_map.2 (((berths_rising ht).filter _).imp fun h => ne_of_lt h)
  · unfold State.foreignClaims
    refine (List.isChain_map _).2 (List.Pairwise.isChain ?_)
    refine ((berths_rising ht).filter _).imp_of_mem fun {b c} hb hc h => .inr ⟨?_, h⟩
    have hnone : s.occupantBus c = none := by
      unfold State.occupantBus
      rw [if_neg]
      intro hstate
      have hne := (List.mem_filter.1 hc).2
      simp [Berth.foreignDemand, hstate] at hne
    simp [State.ranksAhead, hnone]

end

theorem zeroOthers_foreignClaims (s : State) : s.zeroOthers.foreignClaims = s.foreignClaims := by
  unfold State.foreignClaims
  rw [zeroOthers_berths, List.filter_map, List.map_map]
  have hforeign (b : Berth) : (s.cleared b).foreignDemand s.profile = b.foreignDemand s.profile := by
    unfold State.cleared
    split <;> rfl
  simp only [Function.comp_def]
  show (s.berths.filter fun b => (s.cleared b).foreignDemand s.profile != 0).map
    (fun b => ({ berth := s.cleared b, demand := (s.cleared b).foreignDemand s.profile } : Claim)) = _
  simp only [hforeign]
  refine List.map_congr_left fun b hb => ?_
  cases hc : b.isClaimant with
  | true => rw [cleared_of_claimant hc]
  | false => simp [foreignDemand_of_other hc] at hb

/-! ## The claims of a pass (R85) -/

/-- R85: the claims of a pass with their groups, in the order in which they are served. -/
def State.groupedClaims (s : State) : List (Nat × Claim) :=
  (thermalClaims s.importersNow).map (Prod.mk 1) ++ (ticketedClaims s.importersNow).map (Prod.mk 2)
    ++ (unticketedClaims s.importersNow).map (Prod.mk 3) ++ s.foreignClaims.map (Prod.mk 4)

theorem zeroOthers_claims (s : State) : s.zeroOthers.claims s.zeroOthers.exporters = s.groupedClaims.map Prod.snd := by
  have untagged (g : Nat) (l : List Claim) : (l.map (Prod.mk g)).map Prod.snd = l := by
    rw [List.map_map]
    exact List.map_id l
  unfold State.claims State.groupedClaims
  dsimp only
  rw [zeroOthers_importers, zeroOthers_foreignClaims]
  simp only [List.map_append, untagged]

/-- R85: one claim is served ahead of another, by group and berth. -/
def State.claimsAhead (s : State) (x y : Nat × Berth) : Prop :=
  x.1 < y.1
    ∨ (x.1 = y.1 ∧ (s.ranksAhead x.1 x.2 y.2 ∨ (¬ s.ranksAhead x.1 y.2 x.2 ∧ x.2.number < y.2.number)))

/-- The group and the berth of a claim. -/
def claimKey (x : Nat × Claim) : Nat × Berth := (x.1, x.2.berth)

theorem mem_groupedClaims (ht : s.tablesOk = true) {x : Nat × Claim} :
    x ∈ s.groupedClaims ↔
      (1 ≤ x.1 ∧ x.1 ≤ 4) ∧ x.2.berth ∈ s.berths ∧ x.2.demand = s.claimIn s.exportedAt x.1 x.2.berth ∧ 0 < x.2.demand := by
  obtain ⟨g, c⟩ := x
  have tagged (k : Nat) (l : List Claim) : (g, c) ∈ l.map (Prod.mk k) ↔ g = k ∧ c ∈ l := by
    simp [Prod.mk.injEq, eq_comm, and_comm]
  simp only [State.groupedClaims, List.mem_append, tagged, (servesGroup_thermal ht).mem, (servesGroup_ticketed ht).mem,
    (servesGroup_unticketed ht).mem, (servesGroup_foreign ht).mem]
  constructor
  · rintro (((⟨rfl, h⟩ | ⟨rfl, h⟩) | ⟨rfl, h⟩) | ⟨rfl, h⟩) <;> exact ⟨by decide, h⟩
  · rintro ⟨⟨h1, h4⟩, h⟩
    obtain rfl | rfl | rfl | rfl : g = 1 ∨ g = 2 ∨ g = 3 ∨ g = 4 := by omega
    · exact .inl (.inl (.inl ⟨rfl, h⟩))
    · exact .inl (.inl (.inr ⟨rfl, h⟩))
    · exact .inl (.inr ⟨rfl, h⟩)
    · exact .inr ⟨rfl, h⟩

/-- The claims of several groups, each in its own order, are in order together. -/
theorem groupedClaims_parts (ht : s.tablesOk = true) {P : List (Nat × Claim) → Prop}
    (one : ∀ g l, s.ServesGroup g l → P (l.map (Prod.mk g)))
    (join : ∀ l m, (∀ x ∈ l, ∀ y ∈ m, x.1 < y.1) → P l → P m → P (l ++ m)) : P s.groupedClaims := by
  refine join _ _ ?_ (join _ _ ?_ (join _ _ ?_ (one 1 _ (servesGroup_thermal ht)) (one 2 _ (servesGroup_ticketed ht)))
    (one 3 _ (servesGroup_unticketed ht))) (one 4 _ (servesGroup_foreign ht))
  all_goals simp [or_imp, forall_and]

/-- R85: no berth has two claims in one group. -/
theorem groupedClaims_nodup (ht : s.tablesOk = true) :
    (s.groupedClaims.map fun x => (x.1, x.2.berth.number)).Nodup := by
  refine groupedClaims_parts (P := fun l => (l.map fun x => (x.1, x.2.berth.number)).Nodup) ht (fun g l h => ?_)
    fun l m h hl hm => ?_
  · have := h.nodup.map (f := Prod.mk g) fun a b e => (Prod.mk.inj e).2
    simpa [List.map_map, Function.comp_def] using this
  · rw [List.map_append]
    refine List.nodup_append.2 ⟨hl, hm, ?_⟩
    intro a ha b hb hab
    obtain ⟨x, hx, rfl⟩ := List.mem_map.1 ha
    obtain ⟨y, hy, rfl⟩ := List.mem_map.1 hb
    exact absurd (congrArg Prod.fst hab) (ne_of_lt (h x hx y hy))

/-- R85: the claims stand in the order in which they are served. -/
theorem groupedClaims_isChain (ht : s.tablesOk = true) : (s.groupedClaims.map claimKey).IsChain s.claimsAhead := by
  refine groupedClaims_parts (P := fun l => (l.map claimKey).IsChain s.claimsAhead) ht (fun g l h => ?_)
    fun l m h hl hm => ?_
  · rw [List.map_map]
    exact (List.isChain_map _).2 (h.ranked.imp fun c d hcd => .inr ⟨rfl, hcd⟩)
  · rw [List.map_append]
    refine List.isChain_append.2 ⟨hl, hm, fun a ha b hb => .inl ?_⟩
    obtain ⟨x, hx, rfl⟩ := List.mem_map.1 (List.mem_of_mem_getLast? ha)
    obtain ⟨y, hy, rfl⟩ := List.mem_map.1 (List.mem_of_mem_head? hb)
    exact h x hx y hy

end

end Sys2Proof.Machine
end

section
/-! PROOFS. The import claims of an allocation pass as they are served: what each is given (R86, R87). -/

namespace Sys2Proof.Machine

/-! ## Splits of a list -/

/-- The places of a list with one member more: those before it, and its own. -/
theorem forall_split_concat {α : Type} {P : List α → α → Prop} {m : List α} {a : α} :
    (∀ l b r, m ++ [a] = l ++ b :: r → P l b) ↔ (∀ l b r, m = l ++ b :: r → P l b) ∧ P m a := by
  constructor
  · intro h
    exact ⟨fun l b r e => h l b (r ++ [a]) (by rw [e]; simp), h m a [] rfl⟩
  · rintro ⟨h, ha⟩ l b r e
    cases r using List.reverseRecOn with
    | nil =>
      obtain ⟨hl, hb⟩ := List.append_inj' e rfl
      rwa [← hl, ← List.singleton_injective hb]
    | append_singleton r c =>
      rw [← List.cons_append, ← List.append_assoc] at e
      exact h l b r (List.append_inj' e rfl).1

/-! ## Shares (R86) -/

section
variable {b : Berth} {l : List Share}

theorem addShare_berths (hb : ∀ x ∈ l, x.berth.number = b.number → x.berth = b) (a : Nat) :
    (addShare b a l).map Share.berth = if b ∈ l.map Share.berth then l.map Share.berth else l.map Share.berth ++ [b] := by
  induction l with
  | nil => rfl
  | cons x l ih =>
    obtain ⟨hx, hl⟩ := List.forall_mem_cons.1 hb
    unfold addShare
    by_cases h : x.berth.number = b.number
    · simp [hx h]
    · have hne : b ≠ x.berth := fun e => h (by rw [e])
      rw [if_neg h, List.map_cons, ih hl]
      by_cases hm : b ∈ l.map Share.berth <;> simp only [hm, List.map_cons, List.mem_cons, hne, false_or, if_true, if_false,
        List.cons_append]

theorem givenTo_addShare (b : Berth) (a : Nat) (l : List Share) (n : Nat) :
    givenTo (addShare b a l) n = givenTo l n + if b.number = n then a else 0 := by
  induction l with
  | nil => by_cases h : b.number = n <;> simp [givenTo, addShare, h]
  | cons x l ih =>
    unfold givenTo at ih ⊢
    unfold addShare
    by_cases h : x.berth.number = b.number
    · rw [if_pos h]
      by_cases hn : x.berth.number = n <;> simp [hn, ← h]
    · rw [if_neg h]
      by_cases hn : x.berth.number = n
      · simp [hn, show b.number ≠ n from fun e => h (hn.trans e.symm)]
      · simpa [hn] using ih

theorem sumOf_addShare (hb : ∀ x ∈ l, x.berth.number = b.number → x.berth = b) (a : Nat) (p : Berth → Bool) :
    sumOf Share.given ((addShare b a l).filter fun x => p x.berth) =
      sumOf Share.given (l.filter fun x => p x.berth) + if p b then a else 0 := by
  unfold sumOf
  induction l with
  | nil => by_cases h : p b <;> simp [addShare, h]
  | cons x l ih =>
    obtain ⟨hx, hl⟩ := List.forall_mem_cons.1 hb
    unfold addShare
    by_cases h : x.berth.number = b.number
    · rw [if_pos h]
      by_cases hp : p b <;> simp [hp, hx h, Nat.add_right_comm]
    · rw [if_neg h, List.filter_cons, List.filter_cons]
      split
      · simp only [List.map_cons, List.sum_cons, ih hl, Nat.add_assoc]
      · exact ih hl

end

/-- R86: the shares are what the claims served so far have given. -/
structure Tallies (shares : List Share) (served : List Served) : Prop where
  order : shares.map Share.berth = (served.map Served.berth).eraseDups
  nodup : (shares.map Share.berth).Nodup
  given : ∀ n, givenTo shares n = givenBy served n
  sums : ∀ p : Berth → Bool, sumOf Share.given (shares.filter fun x => p x.berth) =
    ((served.filter fun c => p c.berth).map Served.amount).sum

theorem tallies_nil : Tallies [] [] := ⟨rfl, List.nodup_nil, fun _ => rfl, fun _ => rfl⟩

theorem givenBy_concat (served : List Served) (c : Served) (n : Nat) :
    givenBy (served ++ [c]) n = givenBy served n + if c.berth.number = n then c.amount else 0 := by
  unfold givenBy
  by_cases h : c.berth.number = n <;> simp [h]

section
variable {s : State} (ht : s.tablesOk = true) {shares : List Share} {served : List Served}

theorem Tallies.mem_berths (h : Tallies shares served) (hb : ∀ c ∈ served, c.berth ∈ s.berths) :
    ∀ x ∈ shares, x.berth ∈ s.berths := by
  intro x hx
  have hm := List.mem_map_of_mem (f := Share.berth) hx
  rw [h.order, List.mem_eraseDups] at hm
  obtain ⟨c, hc, e⟩ := List.mem_map.1 hm
  exact e ▸ hb c hc

include ht

/-- R86: a claim served is one more that has given something. -/
theorem Tallies.concat (h : Tallies shares served) (hb : ∀ c ∈ served, c.berth ∈ s.berths) (c : Served)
    (hc : c.berth ∈ s.berths) : Tallies (addShare c.berth c.amount shares) (served ++ [c]) := by
  have same : ∀ x ∈ shares, x.berth.number = c.berth.number → x.berth = c.berth := fun x hx hn =>
    berth_eq_of_number ht hc (h.mem_berths hb x hx) hn
  have hmem : c.berth ∈ shares.map Share.berth ↔ c.berth ∈ served.map Served.berth := by rw [h.order, List.mem_eraseDups]
  constructor
  · rw [addShare_berths same, List.map_append, List.map_cons, List.map_nil, eraseDups_concat, ← h.order]
    simp only [hmem]
  · rw [addShare_berths same]
    split
    · exact h.nodup
    · rename_i hnot
      simpa using h.nodup.concat hnot
  · intro n
    rw [givenTo_addShare, givenBy_concat, h.given]
  · intro p
    rw [sumOf_addShare same, h.sums]
    by_cases hp : p c.berth <;> simp [hp]

theorem Tallies.givenTo_eq (h : Tallies shares served) (hb : ∀ c ∈ served, c.berth ∈ s.berths) {x : Share}
    (hx : x ∈ shares) :
    givenTo shares x.berth.number = x.given := by
  unfold givenTo
  cases hf : shares.find? fun y => y.berth.number == x.berth.number with
  | none => exact absurd (beq_self_eq_true _) (List.find?_eq_none.1 hf x hx)
  | some y =>
    have hy := List.mem_of_find?_eq_some hf
    have hn : y.berth.number = x.berth.number := by simpa using List.find?_some (p := fun y : Share => y.berth.number == _) hf
    have hberths := h.mem_berths hb
    rw [List.inj_on_of_nodup_map h.nodup hy hx (berth_eq_of_number ht (hberths x hx) (hberths y hy) hn)]
    rfl

/-- R87: the high-rate berths of a claimant's section, found by what they have been given. -/
theorem Tallies.highRateMates_perm (h : Tallies shares served) (hb : ∀ c ∈ served, c.berth ∈ s.berths) (p : Profile)
    (b : Berth) :
    (highRateMates p shares b).Perm
      (s.berths.filter fun m =>
        m.number != b.number && m.trench == b.trench && decide (p.highRateThreshold < givenBy served m.number)) := by
  have hnodup : (highRateMates p shares b).Nodup := h.nodup.sublist ((List.filter_sublist).map _)
  refine (List.perm_ext_iff_of_nodup hnodup ((berths_nodup ht).filter _)).2 fun m => ?_
  simp only [highRateMates, List.mem_map, List.mem_filter, Bool.and_eq_true, decide_eq_true_eq, ← h.given]
  constructor
  · rintro ⟨x, ⟨hx, hmate, hhigh⟩, rfl⟩
    exact ⟨h.mem_berths hb x hx, hmate, (h.givenTo_eq ht hb hx).symm ▸ hhigh⟩
  · rintro ⟨hm, hmate, hhigh⟩
    have hfound : ∃ x, shares.find? (fun x => x.berth.number == m.number) = some x := by
      cases hf : shares.find? fun x => x.berth.number == m.number with
      | none => simp [givenTo, hf] at hhigh
      | some x => exact ⟨x, rfl⟩
    obtain ⟨x, hf⟩ := hfound
    have hx := List.mem_of_find?_eq_some hf
    have hn : x.berth.number = m.number := by simpa using List.find?_some (p := fun y : Share => y.berth.number == _) hf
    have e : x.berth = m := berth_eq_of_number ht hm (h.mem_berths hb x hx) hn
    refine ⟨x, ⟨hx, by rwa [e], ?_⟩, e⟩
    rwa [← h.givenTo_eq ht hb hx, e]

/-- R86, R87: what a claim is given, by the claims served before it. -/
theorem Tallies.trenchAmount_eq (h : Tallies shares served) (hb : ∀ c ∈ served, c.berth ∈ s.berths) (c : Claim) :
    s.zeroOthers.trenchAmount shares c = s.servedAmount served c.berth c.demand := by
  have hperm := h.highRateMates_perm ht hb s.profile c.berth
  have hsum : sumOf Share.given shares = (served.map Served.amount).sum := by simpa using h.sums fun _ => true
  have hholds : trenchHolds s.profile shares c.berth = true ↔
      s.profile.trenchQuota ≤ (highRateMates s.profile shares c.berth).length
        ∨ (s.profile.spacingSections.getLsbD (c.berth.trench - 1) = true
            ∧ ∃ m ∈ highRateMates s.profile shares c.berth,
                m.position = c.berth.position + 1 ∨ c.berth.position = m.position + 1) := by
    simp only [trenchHolds, Profile.isSpacing, Bool.or_eq_true, Bool.and_eq_true, decide_eq_true_eq, List.any_eq_true,
      beq_iff_eq, eq_comm (a := c.berth.position)]
  have hamount : s.zeroOthers.claimAmount shares c =
      min c.demand (min (s.alloc.importCeiling - (s.stranded fun d => importPart d.reported) - (served.map Served.amount).sum)
        (s.profile.branchLimit c.berth.branch
          - (s.stranded fun d => if d.branch = c.berth.branch then importPart d.reported else 0)
          - ((served.filter fun d => d.berth.branch == c.berth.branch).map Served.amount).sum)) := by
    unfold State.claimAmount
    rw [zeroOthers_importRoom, zeroOthers_branchRoom, hsum, h.sums fun d => d.branch == c.berth.branch]
  simp only [hperm.length_eq, hperm.mem_iff] at hholds
  unfold State.trenchAmount State.servedAmount
  rw [hamount, h.given]
  exact if_congr (and_congr_right fun _ => hholds) rfl rfl

end

/-! ## Every claim served (R85 to R87) -/

section
variable {s : State} (ht : s.tablesOk = true)
include ht

/-- R86: claims served in an order, each given what those before it leave. -/
theorem exists_served (claims : List (Nat × Claim)) (hb : ∀ x ∈ claims, x.2.berth ∈ s.berths)
    (hdemand : ∀ x ∈ claims, x.2.demand = s.claimIn s.exportedAt x.1 x.2.berth) :
    ∃ served, served.map (fun c => (c.group, c.berth)) = claims.map claimKey
      ∧ Tallies ((claims.map Prod.snd).foldl s.zeroOthers.serveClaim []) served
      ∧ ∀ l c r, served = l ++ c :: r → c.amount = s.servedAmount l c.berth (s.claimIn s.exportedAt c.group c.berth) := by
  induction claims using List.reverseRecOn with
  | nil => exact ⟨[], rfl, tallies_nil, by simp⟩
  | append_singleton claims x ih =>
    rw [List.forall_mem_append] at hb hdemand
    obtain ⟨served, hkeys, htally, hamounts⟩ := ih hb.1 hdemand.1
    have hx := hb.2 x (List.mem_singleton_self x)
    have hserved : ∀ c ∈ served, c.berth ∈ s.berths := by
      intro c hc
      have hm := List.mem_map_of_mem (f := fun c : Served => (c.group, c.berth)) hc
      rw [hkeys] at hm
      obtain ⟨y, hy, e⟩ := List.mem_map.1 hm
      exact (Prod.mk.inj e).2 ▸ hb.1 y hy
    refine
      ⟨served ++ [{ group := x.1, berth := x.2.berth, amount := s.servedAmount served x.2.berth x.2.demand }], ?_, ?_, ?_⟩
    · rw [List.map_append, hkeys, List.map_append]
      rfl
    · rw [List.map_append, List.foldl_append, List.map_cons, List.map_nil, List.foldl_cons, List.foldl_nil, State.serveClaim,
        htally.trenchAmount_eq ht hserved]
      exact htally.concat ht hserved
        { group := x.1, berth := x.2.berth, amount := s.servedAmount served x.2.berth x.2.demand } hx
    · rw [forall_split_concat (P := fun l (c : Served) =>
        c.amount = s.servedAmount l c.berth (s.claimIn s.exportedAt c.group c.berth))]
      refine ⟨hamounts, ?_⟩
      rw [← hdemand.2 x (List.mem_singleton_self x)]

/-- R85 to R87: the claims of a pass as the statement describes them, and the shares that they make. -/
theorem exists_servesClaims :
    ∃ served, Tallies (s.zeroOthers.serveClaims s.zeroOthers.exporters) served ∧ s.ServesClaims s.exportedAt served := by
  have hmem {x : Nat × Claim} := mem_groupedClaims (s := s) ht (x := x)
  obtain ⟨served, hkeys, htally, hamounts⟩ := exists_served ht s.groupedClaims (fun x hx => (hmem.1 hx).2.1)
    fun x hx => (hmem.1 hx).2.2.1
  refine ⟨served, ?_, ?_, ?_, ?_, hamounts⟩
  · unfold State.serveClaims
    rwa [zeroOthers_claims]
  · intro g b
    have hserved : (∃ c ∈ served, c.group = g ∧ c.berth = b) ↔ (g, b) ∈ served.map fun c => (c.group, c.berth) := by
      simp [Prod.ext_iff]
    rw [hserved, hkeys, List.mem_map]
    constructor
    · rintro ⟨x, hx, e⟩
      obtain ⟨rfl, rfl⟩ := Prod.mk.inj e
      obtain ⟨⟨h1, h4⟩, hb, hd, hpos⟩ := hmem.1 hx
      exact ⟨hb, h1, h4, hd ▸ hpos⟩
    · rintro ⟨hb, h1, h4, hpos⟩
      exact ⟨(g, ⟨b, s.claimIn s.exportedAt g b⟩), hmem.2 ⟨⟨h1, h4⟩, hb, rfl, hpos⟩, rfl⟩
  · have hnodup := groupedClaims_nodup ht
    have e : s.groupedClaims.map (fun x => (x.1, x.2.berth.number)) =
        (s.groupedClaims.map claimKey).map fun k => (k.1, k.2.number) := by rw [List.map_map]; rfl
    rw [e, ← hkeys, List.map_map] at hnodup
    exact hnodup
  · intro l c d r e
    have hchain := groupedClaims_isChain ht
    rw [← hkeys, List.isChain_map] at hchain
    exact List.isChain_iff_forall_rel_of_append_cons_cons.1 hchain e

end

end Sys2Proof.Machine
end

section
/-! PROOFS. What an allocation pass decides at once and by raises (R89 to R91). -/

namespace Sys2Proof.Machine

/-! ## Two settings of one berth -/

/-- Two settings of a berth are the last, where a return to the target decided before is no change. -/
theorem setTarget_setTarget {f : Bool} {w w' d d' : Int} {b : Berth} (h : d' = b.decided → d = b.decided) :
    (b.setTarget f w d).setTarget f w' d' = b.setTarget f w' d' := by
  unfold Berth.setTarget
  by_cases hd : d' = b.decided
  · simp [hd, h hd]
  · by_cases hdd : d' = d
    · subst hdd
      simp [hd]
    · simp [hd, hdd]

/-- The state with every berth at given targets, set once. -/
def State.decidedAs (s : State) (w d : Berth → Int) : State :=
  { s with berths := s.berths.map fun b => b.setTarget (s.grantInFlight b.number) (w b) (d b) }

theorem decidedAs_congr {s : State} {w w' d d' : Berth → Int} (hw : ∀ b ∈ s.berths, w b = w' b)
    (hd : ∀ b ∈ s.berths, d b = d' b) : s.decidedAs w d = s.decidedAs w' d' := by
  unfold State.decidedAs
  congr 1
  exact List.map_congr_left fun b hb => by rw [hw b hb, hd b hb]

theorem berth?_decidedAs {s : State} (ht : s.tablesOk = true) {b : Berth} (hb : b ∈ s.berths) (w d : Berth → Int) :
    (s.decidedAs w d).berth? b.number = some (b.setTarget (s.grantInFlight b.number) (w b) (d b)) := by
  have hmap := findKey_map (key := Berth.number) b.number (fun c => c.setTarget (s.grantInFlight c.number) (w c) (d c))
    (fun _ => rfl) s.berths
  have hfound : findKey Berth.number b.number s.berths = some b := berth?_of_mem ht hb
  rw [hfound] at hmap
  exact hmap

theorem setTarget_decidedAs {s : State} (ht : s.tablesOk = true) {b : Berth} (hb : b ∈ s.berths) {w d : Berth → Int}
    {target : Int} (h : target = b.decided → d b = b.decided) :
    (s.decidedAs w d).setTarget b.number (w b) target = s.decidedAs w fun c => if c.number = b.number then target else d c := by
  unfold State.setTarget State.updBerth State.decidedAs
  rw [updateKey_eq_map]
  dsimp only
  congr 1
  rw [List.map_map]
  refine List.map_congr_left fun c hc => ?_
  by_cases hn : c.number = b.number
  · obtain rfl := berth_eq_of_number ht hb hc hn
    rw [if_pos rfl]
    exact (if_pos rfl).trans (setTarget_setTarget h)
  · rw [if_neg hn]
    exact if_neg hn

/-! ## The two directions of a raise (R90, R91) -/

/-- The direction of a raise. -/
inductive Direction
  | imports
  | exports

namespace Direction

/-- The part of a power in a direction. -/
def part : Direction → Int → Nat
  | imports => importPart
  | exports => exportPart

/-- A power of a direction. -/
def signed : Direction → Nat → Int
  | imports, n => n
  | exports, n => -n

/-- The counted value of a berth in a direction, at a decided target. -/
def counted (k : Direction) (d : Int) (b : Berth) : Nat := max (k.part d) (k.part b.reported)

/-- R90, R91: what the totals leave a berth, by the total of the berths that share a limit. -/
def room (k : Direction) (s : State) (b : Berth) (total : (Berth → Bool) → Nat) : Nat :=
  match k with
  | imports =>
    min (s.alloc.importCeiling - total fun _ => true) (s.profile.branchLimit b.branch - total fun c => c.branch == b.branch)
  | exports => s.alloc.exportCeiling - total fun _ => true

/-- R90, R91: one raise. -/
def raise : Direction → State → Nat → State
  | imports => State.raiseImport
  | exports => State.raiseExport

theorem signed_zero (k : Direction) : k.signed 0 = 0 := by cases k <;> rfl

theorem signed_add (k : Direction) (m n : Nat) : k.signed (m + n) = k.signed m + k.signed n := by
  cases k
  · exact Nat.cast_add m n
  · simp only [signed, Nat.cast_add, neg_add]

theorem part_signed (k : Direction) (n : Nat) : k.part (k.signed n) = n := by
  cases k <;> simp [signed, part, importPart, exportPart]

/-- R90, R91: the headrooms that the berths leave. -/
def headroom (k : Direction) (s : State) (b : Berth) : Nat :=
  k.room s b fun p => ((s.berths.filter p).map fun c => k.counted c.decided c).sum

/-- R90, R91: a raise of a berth of the table. -/
theorem raise_of_berth (k : Direction) {s : State} {n : Nat} {b : Berth} (h : s.berth? n = some b) :
    k.raise s n =
      if k.counted b.decided b < k.part b.wanted then
        s.setTarget n b.wanted (k.signed (min (k.part b.wanted) (k.counted b.decided b + k.headroom s b)))
      else s := by
  have all (f : Berth → Nat) : ((s.berths.filter fun _ => true).map f).sum = sumOf f s.berths := by
    rw [List.filter_true]
    rfl
  cases k
  · simp only [raise, State.raiseImport, h, headroom, room, all]
    rfl
  · simp only [raise, State.raiseExport, h, headroom, room, all]
    rfl

/-- R89: a target decided in a direction as far as the berth's counted value, from which a raise starts. -/
structure Raisable (k : Direction) (w d : Int) (b : Berth) : Prop where
  part_eq : k.part d = min (k.part w) (k.counted b.decided b)
  pure : k.part d < k.part w → d = k.signed (k.part d)

/-- R89: a target that a raise leaves short is at the counted value. -/
theorem Raisable.counted_eq {k : Direction} {w d : Int} {b : Berth} (h : k.Raisable w d b) (hlt : k.part d < k.part w) :
    k.counted d b = k.part d ∧ k.part b.decided ≤ k.part d := by
  have := h.part_eq
  unfold counted at this ⊢
  omega

/-- R90, R91: a target raised. -/
theorem Raisable.counted_raised {k : Direction} {w d : Int} {b : Berth} (h : k.Raisable w d b) {r : Nat}
    (hr : r ≤ k.part w - k.part d) : k.counted (d + k.signed r) b = k.counted d b + r := by
  obtain rfl | hpos := Nat.eq_zero_or_pos r
  · rw [k.signed_zero, Int.add_zero, Nat.add_zero]
  · obtain ⟨hcounted, _⟩ := h.counted_eq (by omega)
    have hpart : k.part (d + k.signed r) = k.part d + r := by
      rw [h.pure (by omega), ← k.signed_add, k.part_signed, k.part_signed]
    rw [hcounted]
    unfold counted at hcounted ⊢
    omega

/-- R90, R91: what a raise gives a berth once the berths of a list have been raised. -/
def amount (k : Direction) (s : State) (w d : Berth → Int) (raised : Nat → Nat) (l : List Berth) (b : Berth) : Nat :=
  min (k.part (w b) - k.part (d b)) (k.room s b fun p =>
    ((s.berths.filter p).map fun c => k.counted (d c) c).sum + ((l.filter p).map fun c => raised c.number).sum)

theorem amount_congr (k : Direction) {s : State} {w d : Berth → Int} {raised raised' : Nat → Nat} {l : List Berth} (b : Berth)
    (h : ∀ c ∈ l, raised c.number = raised' c.number) : k.amount s w d raised l b = k.amount s w d raised' l b := by
  have hsum (p : Berth → Bool) : (l.filter p).map (fun c => raised c.number) = (l.filter p).map fun c => raised' c.number :=
    List.map_congr_left fun c hc => h c (List.mem_of_mem_filter hc)
  unfold amount
  simp only [hsum]

section
variable {s : State} (ht : s.tablesOk = true) {w d : Berth → Int} {k : Direction}
include ht

/-- R90, R91: one raise of the decided targets. -/
theorem raise_decidedAs {b : Berth} (hb : b ∈ s.berths) (h : k.Raisable (w b) (d b) b) :
    k.raise (s.decidedAs w d) b.number = s.decidedAs w fun c =>
      if c.number = b.number then
        d b + k.signed (min (k.part (w b) - k.part (d b)) (k.headroom (s.decidedAs w d) b))
      else d c := by
  have hbranch : k.headroom (s.decidedAs w d) (b.setTarget (s.grantInFlight b.number) (w b) (d b)) =
      k.headroom (s.decidedAs w d) b := by cases k <;> rfl
  have hcounted : k.counted (d b) (b.setTarget (s.grantInFlight b.number) (w b) (d b)) = k.counted (d b) b := rfl
  rw [k.raise_of_berth (berth?_decidedAs ht hb w d), setTarget_decided, setTarget_wanted, hbranch, hcounted]
  generalize k.headroom (s.decidedAs w d) b = room
  split
  · rename_i hlt
    have hshort : k.part (d b) < k.part (w b) := lt_of_le_of_lt (le_max_left ..) hlt
    obtain ⟨hat, hfrom⟩ := h.counted_eq hshort
    have hto : k.signed (min (k.part (w b)) (k.counted (d b) b + room)) =
        d b + k.signed (min (k.part (w b) - k.part (d b)) room) := by
      conv_rhs => rw [h.pure hshort, k.part_signed, ← k.signed_add]
      congr 1
      omega
    rw [hto]
    refine setTarget_decidedAs ht hb fun e => ?_
    have hpart := congrArg k.part e
    rw [← hto, k.part_signed] at hpart
    have hroom : room = 0 := by omega
    rw [← e, hroom, Nat.min_zero, k.signed_zero, Int.add_zero]
  · rename_i hnot
    have hpart := h.part_eq
    have hfull : k.part (w b) - k.part (d b) = 0 := by
      unfold counted at hnot hpart
      omega
    refine decidedAs_congr (fun _ _ => rfl) fun c hc => ?_
    split
    · rename_i hn
      rw [berth_eq_of_number ht hb hc hn, hfull, Nat.zero_min, k.signed_zero, Int.add_zero]
    · rfl

/-- R90, R91: the headrooms once the berths of an order have been raised. -/
theorem headroom_raised {order : List Berth} (hn : order.Nodup) (hsub : ∀ b ∈ order, b ∈ s.berths)
    (h : ∀ b ∈ s.berths, k.Raisable (w b) (d b) b) {raised : Nat → Nat}
    (hzero : ∀ b ∈ s.berths, b ∉ order → raised b.number = 0)
    (hle : ∀ b ∈ s.berths, raised b.number ≤ k.part (w b) - k.part (d b)) (b : Berth) :
    k.headroom (s.decidedAs w fun c => d c + k.signed (raised c.number)) b =
      k.room s b fun p => ((s.berths.filter p).map fun c => k.counted (d c) c).sum
        + ((order.filter p).map fun c => raised c.number).sum := by
  have total (p : Berth → Bool) (hp : ∀ (c : Berth) (f : Bool) (x y : Int), p (c.setTarget f x y) = p c) :
      (((s.decidedAs w fun c => d c + k.signed (raised c.number)).berths.filter p).map fun c => k.counted c.decided c).sum =
        ((s.berths.filter p).map fun c => k.counted (d c) c).sum + ((order.filter p).map fun c => raised c.number).sum := by
    rw [← sum_filter_of_order ht (f := fun c => raised c.number) hn hsub hzero p, ← List.sum_map_add]
    unfold State.decidedAs
    rw [List.filter_map, List.map_map]
    simp only [Function.comp_def, hp]
    exact congrArg List.sum (List.map_congr_left fun c hc =>
      (h c (List.mem_of_mem_filter hc)).counted_raised (hle c (List.mem_of_mem_filter hc)))
  unfold headroom room
  cases k
  · exact congrArg₂ min (congrArg (s.alloc.importCeiling - ·) (total (fun _ => true) fun _ _ _ _ => rfl))
      (congrArg (s.profile.branchLimit b.branch - ·) (total (fun c => c.branch == b.branch) fun _ _ _ _ => rfl))
  · exact congrArg (s.alloc.exportCeiling - ·) (total (fun _ => true) fun _ _ _ _ => rfl)

/-- R90, R91: the raises along an order of berths. -/
theorem exists_raised {order : List Berth} (hn : order.Nodup) (hsub : ∀ b ∈ order, b ∈ s.berths)
    (h : ∀ b ∈ s.berths, k.Raisable (w b) (d b) b) :
    ∃ raised : Nat → Nat,
      (∀ b ∈ s.berths, b ∉ order → raised b.number = 0)
      ∧ (∀ b ∈ s.berths, raised b.number ≤ k.part (w b) - k.part (d b))
      ∧ (order.map Berth.number).foldl k.raise (s.decidedAs w d) = s.decidedAs w (fun b => d b + k.signed (raised b.number))
      ∧ ∀ l b r, order = l ++ b :: r → raised b.number = k.amount s w d raised l b := by
  induction order using List.reverseRecOn with
  | nil =>
    refine ⟨fun _ => 0, fun _ _ _ => rfl, fun _ _ => Nat.zero_le _, ?_, by simp⟩
    simp [k.signed_zero]
  | append_singleton order b ih =>
    rw [List.forall_mem_append] at hsub
    have hb : b ∈ s.berths := hsub.2 b (List.mem_singleton_self b)
    obtain ⟨hnodup, _, hfresh⟩ := List.nodup_append.1 hn
    have hnot : b ∉ order := fun hm => hfresh b hm b (List.mem_singleton_self b) rfl
    obtain ⟨raised, hzero, hle, hfold, hsplit⟩ := ih hnodup hsub.1
    have hraisable : k.Raisable (w b) (d b + k.signed (raised b.number)) b := by
      rw [hzero b hb hnot, k.signed_zero, Int.add_zero]
      exact h b hb
    have hother {c : Berth} (hc : c ∈ order) : c.number ≠ b.number := fun e =>
      hnot (berth_eq_of_number ht hb (hsub.1 c hc) e ▸ hc)
    have hraise := raise_decidedAs ht (w := w) (d := fun c => d c + k.signed (raised c.number)) hb hraisable
    rw [headroom_raised ht hnodup hsub.1 h hzero hle, hzero b hb hnot, k.signed_zero, Int.add_zero] at hraise
    refine ⟨fun n => if n = b.number then k.amount s w d raised order b else raised n, fun c hc hm => ?_, fun c hc => ?_, ?_, ?_⟩
    · rw [List.mem_append, List.mem_singleton, not_or] at hm
      dsimp only
      rw [if_neg fun e => hm.2 (berth_eq_of_number ht hb hc e), hzero c hc hm.1]
    · dsimp only
      split
      · rename_i e
        rw [berth_eq_of_number ht hb hc e]
        exact min_le_left ..
      · exact hle c hc
    · rw [List.map_append, List.foldl_append, hfold, List.map_cons, List.map_nil, List.foldl_cons, List.foldl_nil, hraise]
      refine decidedAs_congr (fun _ _ => rfl) fun c hc => ?_
      dsimp only
      split
      · rename_i e
        rw [berth_eq_of_number ht hb hc e]
        rfl
      · rfl
    · rw [forall_split_concat (P := fun l (c : Berth) => _ = k.amount s w d _ l c)]
      refine ⟨fun l c r e => ?_, ?_⟩
      · have hc : c ∈ order := e ▸ by simp
        have hl : ∀ a ∈ l, a ∈ order := fun a ha => e ▸ List.mem_append_left _ ha
        dsimp only
        rw [if_neg (hother hc), hsplit l c r e]
        exact amount_congr k c fun a ha => by rw [if_neg (hother (hl a ha))]
      · dsimp only
        rw [if_pos rfl]
        exact amount_congr k b fun a ha => by rw [if_neg (hother ha)]

end

end Direction

end Sys2Proof.Machine
end

section
/-! PROOFS. An allocation pass decides what its rules give (R82 to R91). -/

namespace Sys2Proof.Machine

open Direction

section
variable {s : State} (ht : s.tablesOk = true) {served : List Served} {shares : List Share}

/-! ## Wanted levels (R88) -/

/-- R88: the wanted level of a claimant. -/
theorem wantedLevel_eq (h : Tallies shares served) (b : Berth) :
    wantedLevel s.zeroOthers.exporters shares b.number = wantedBy s.exportedAt served b := by
  unfold wantedLevel wantedBy State.exportedAt exportedIn
  cases hf : s.zeroOthers.exporters.find? fun e => e.1 == b.number with
  | none => simp [h.given]
  | some e => simp [exporters_positive _ e (List.mem_of_find?_eq_some hf)]

theorem claimIn_of_other {b : Berth} (hc : b.isClaimant = false) (exported : Nat → Nat) (group : Nat) :
    s.claimIn exported group b = 0 := by
  unfold State.claimIn
  rw [occupantBus_of_other hc, foreignDemand_of_other hc]
  exact ite_self 0

theorem isCandidate_of_other {b : Berth} (hc : b.isClaimant = false) : s.isCandidate b = false := by
  unfold State.isCandidate
  rw [occupantBus_of_other hc]
  rfl

include ht in
/-- A berth that has no claim is given nothing. -/
theorem givenBy_eq_zero {exported : Nat → Nat} (h : s.ServesClaims exported served) {b : Berth} (hb : b ∈ s.berths)
    (hclaim : ∀ g, s.claimIn exported g b = 0) : givenBy served b.number = 0 := by
  unfold givenBy
  rw [List.filter_eq_nil_iff.2]
  · rfl
  · intro c hc hn
    obtain ⟨hmem, _, _, hpos⟩ := (h.1 c.group c.berth).1 ⟨c, hc, rfl, rfl⟩
    rw [berth_eq_of_number ht hb hmem (by simpa using hn), hclaim] at hpos
    exact lt_irrefl 0 hpos

include ht in
/-- R82: a berth that is no claimant wants nothing. -/
theorem wantedBy_of_other {exported : Nat → Nat} (hexported : s.ExportShares exported) (h : s.ServesClaims exported served)
    {b : Berth} (hb : b ∈ s.berths) (hc : b.isClaimant = false) : wantedBy exported served b = 0 := by
  unfold wantedBy
  rw [(hexported b hb).1 (isCandidate_of_other hc), if_neg (lt_irrefl 0),
    givenBy_eq_zero ht h hb fun g => claimIn_of_other hc exported g]
  rfl

/-! ## What is decided at once (R89) -/

theorem importPart_atOnce (w : Int) (b : Berth) : importPart (atOnce w b) = min (importPart w) b.countedImport := by
  unfold atOnce importPart exportPart
  omega

theorem exportPart_atOnce (w : Int) (b : Berth) : exportPart (atOnce w b) = min (exportPart w) b.countedExport := by
  unfold atOnce importPart exportPart
  omega

include ht in
/-- R82, R89: every berth as decided before any raise. -/
theorem decideAtOnce_eq (h : Tallies shares served) (hserved : s.ServesClaims s.exportedAt served) :
    s.zeroOthers.decideAtOnce s.zeroOthers.exporters shares =
      s.decidedAs (wantedBy s.exportedAt served) fun b => atOnce (wantedBy s.exportedAt served b) b := by
  unfold State.decideAtOnce State.decidedAs
  rw [zeroOthers_berths, List.map_map]
  have hberths : s.berths.map (s.zeroOthers.decideBerth s.zeroOthers.exporters shares ∘ s.cleared) =
      s.berths.map fun b => b.setTarget (s.grantInFlight b.number) (wantedBy s.exportedAt served b)
        (atOnce (wantedBy s.exportedAt served b) b) := by
    refine List.map_congr_left fun b hb => ?_
    rw [Function.comp_apply]
    unfold State.decideBerth
    rw [cleared_isClaimant]
    cases hc : b.isClaimant with
    | true =>
      rw [if_pos rfl, cleared_of_claimant hc, wantedLevel_eq h]
      rfl
    | false =>
      rw [if_neg (by decide), cleared_of_other hc, wantedBy_of_other ht (exportShares_exportedAt ht) hserved hb hc]
      have hzero : atOnce 0 b = 0 := by
        unfold atOnce importPart exportPart
        omega
      rw [hzero]
  rw [hberths]
  rfl

/-! ## The raises (R90, R91) -/

theorem raisable_imports (w : Int) (b : Berth) : imports.Raisable w (atOnce w b) b := by
  constructor
  · exact importPart_atOnce w b
  · unfold part signed atOnce importPart exportPart
    dsimp only
    omega

/-- R91: an import raise leaves a berth's export as it is. -/
theorem exportPart_imported {w : Int} {b : Berth} {r : Nat} (hr : r ≤ importPart w - importPart (atOnce w b)) :
    exportPart (atOnce w b + r) = exportPart (atOnce w b) := by
  unfold atOnce importPart exportPart at *
  omega

theorem raisable_exports {w : Int} {b : Berth} {r : Nat} (hr : r ≤ importPart w - importPart (atOnce w b)) :
    exports.Raisable w (atOnce w b + r) b := by
  have hpart := exportPart_imported hr
  constructor
  · exact hpart.trans (exportPart_atOnce w b)
  · unfold part signed at *
    dsimp only
    rw [hpart]
    unfold atOnce importPart exportPart at *
    omega

include ht

/-- R90: the import raises as the statement describes them. -/
theorem exists_importRaises (h : Tallies shares served) (hb : ∀ c ∈ served, c.berth ∈ s.berths) (w : Berth → Int) :
    ∃ raised : Nat → Nat,
      s.ImportRaises w (served.map Served.berth).eraseDups raised
      ∧ (∀ b ∈ s.berths, raised b.number ≤ importPart (w b) - importPart (atOnce (w b) b))
      ∧ (shares.map fun x => x.berth.number).foldl State.raiseImport (s.decidedAs w fun b => atOnce (w b) b) =
          s.decidedAs w fun b => atOnce (w b) b + raised b.number := by
  have hsub : ∀ b ∈ shares.map Share.berth, b ∈ s.berths := by
    simpa using h.mem_berths hb
  obtain ⟨raised, hzero, hle, hfold, hsplit⟩ :=
    exists_raised ht (k := imports) (w := w) (d := fun b => atOnce (w b) b) h.nodup hsub fun b _ => raisable_imports (w b) b
  rw [List.map_map] at hfold
  refine ⟨raised, ⟨?_, ?_⟩, hle, hfold⟩
  · rw [← h.order]
    exact hzero
  · rw [← h.order]
    intro l b r e
    rw [hsplit l b r e]
    simp only [amount, room, List.filter_true]
    rfl

/-- R91: the export raises as the statement describes them. -/
theorem exists_exportRaises (w : Berth → Int) {imported : Nat → Nat}
    (hle : ∀ b ∈ s.berths, imported b.number ≤ importPart (w b) - importPart (atOnce (w b) b)) :
    ∃ raised : Nat → Nat,
      s.ExportRaises s.exportedAt w raised
      ∧ (s.zeroOthers.exporters.map Prod.fst).foldl State.raiseExport
            (s.decidedAs w fun b => atOnce (w b) b + imported b.number) =
          s.decidedAs w fun b => atOnce (w b) b + imported b.number - raised b.number := by
  have hmem {b : Berth} : b ∈ s.exportOrder.filter (fun b => decide (0 < s.exportedAt b.number)) ↔
      (b ∈ s.berths ∧ s.isCandidate b = true) ∧ 0 < s.exportedAt b.number := by
    rw [List.mem_filter, mem_exportOrder, decide_eq_true_iff]
  obtain ⟨raised, hzero, -, hfold, hsplit⟩ :=
    exists_raised ht (k := exports) (w := w) (d := fun b => atOnce (w b) b + imported b.number)
      (List.Nodup.of_map _ (exportOrder_nodup ht) |>.filter _) (fun b hb => (hmem.1 hb).1.1)
      fun b hb => raisable_exports (hle b hb)
  rw [exporters_numbers ht]
  refine ⟨raised, fun b hb => ⟨fun hnone => ?_, fun hsome => ?_⟩, ?_⟩
  · refine hzero b hb fun hm => ?_
    have := (hmem.1 hm).2
    omega
  · obtain ⟨l, r, e⟩ := List.append_of_mem (mem_exportOrder.2 ⟨hb, candidate_of_exported ht hb hsome⟩)
    have hcounted : s.berths.map (fun c => exports.counted (atOnce (w c) c + imported c.number) c) =
        s.berths.map fun c => max (exportPart (atOnce (w c) c)) (exportPart c.reported) :=
      List.map_congr_left fun c hc => congrArg (max · (exportPart c.reported)) (exportPart_imported (hle c hc))
    rw [sum_givesBefore ht e (fun c => decide (0 < s.exportedAt c.number)) (fun c => raised c.number)
      fun c hc hpos => candidate_of_exported ht hc (of_decide_eq_true hpos)]
    rw [hsplit (l.filter fun c => decide (0 < s.exportedAt c.number)) b (r.filter fun c => decide (0 < s.exportedAt c.number))]
    · simp only [amount, room, List.filter_true, hcounted]
      rw [show exports.part = exportPart from rfl, exportPart_imported (hle b hb)]
    · simp [e, hsome]
  · exact hfold

/-! ## The pass -/

/-- R82 to R91: what a pass decides. -/
theorem allocate_decides :
    ∃ (exported importRaised exportRaised : Nat → Nat) (served : List Served),
      s.ExportShares exported ∧ s.ServesClaims exported served
      ∧ s.ImportRaises (wantedBy exported served) (served.map Served.berth).eraseDups importRaised
      ∧ s.ExportRaises exported (wantedBy exported served) exportRaised
      ∧ s.allocate = s.decidedAs (wantedBy exported served) fun b =>
          atOnce (wantedBy exported served b) b + importRaised b.number - exportRaised b.number := by
  obtain ⟨served, htally, hserved⟩ := exists_servesClaims ht
  have hb : ∀ c ∈ served, c.berth ∈ s.berths := fun c hc => ((hserved.1 c.group c.berth).1 ⟨c, hc, rfl, rfl⟩).1
  obtain ⟨importRaised, himports, hle, hfold⟩ := exists_importRaises ht htally hb (wantedBy s.exportedAt served)
  obtain ⟨exportRaised, hexports, hfold'⟩ := exists_exportRaises ht (wantedBy s.exportedAt served) hle
  refine ⟨s.exportedAt, importRaised, exportRaised, served, exportShares_exportedAt ht, hserved, himports, hexports, ?_⟩
  unfold State.allocate
  dsimp only
  rw [decideAtOnce_eq ht htally hserved, hfold, hfold']

end

end Sys2Proof.Machine
end

section
/-! PROOFS. What a pass decides keeps within the ceilings, the branch limits and the trench rules (R83, R86, R87, R90, R91). -/

namespace Sys2Proof.Machine

section
variable {s : State} {served : List Served} {exported : Nat → Nat}

/-! ## Raises within the headrooms (R90, R91) -/

theorem nodup_eraseDups {α : Type} [BEq α] [LawfulBEq α] (l : List α) : l.eraseDups.Nodup := by
  induction l using List.reverseRecOn with
  | nil => exact List.nodup_nil
  | append_singleton l b ih =>
    rw [eraseDups_concat]
    split
    · exact ih
    · rename_i h
      simpa using ih.concat fun hm => h (List.mem_eraseDups.1 hm)

/-- Raises that each stay within what a room leaves keep the total within it, where it was. -/
theorem raised_total_le (ht : s.tablesOk = true) {base raised before after : Berth → Nat} {order : List Berth}
    {p : Berth → Bool} {limit : Nat} (hn : order.Nodup) (hsub : ∀ b ∈ order, b ∈ s.berths)
    (hzero : ∀ b ∈ s.berths, b ∉ order → raised b = 0) (hbefore : ∀ b ∈ s.berths, base b ≤ before b)
    (hafter : ∀ b ∈ s.berths, after b ≤ base b + raised b)
    (hroom : ∀ l b r, order = l ++ b :: r → p b = true →
      raised b ≤ limit - (((s.berths.filter p).map base).sum + ((l.filter p).map raised).sum)) :
    ((s.berths.filter p).map after).sum ≤ max ((s.berths.filter p).map before).sum limit := by
  have hmem {b : Berth} (hb : b ∈ s.berths.filter p) : b ∈ s.berths := List.mem_of_mem_filter hb
  calc ((s.berths.filter p).map after).sum
      ≤ ((s.berths.filter p).map fun b => base b + raised b).sum := List.sum_le_sum fun b hb => hafter b (hmem hb)
    _ = ((s.berths.filter p).map base).sum + ((order.filter p).map raised).sum := by
        rw [List.sum_map_add, sum_filter_of_order ht hn hsub hzero]
    _ ≤ max ((s.berths.filter p).map base).sum limit := sum_le_of_room order hroom
    _ ≤ max ((s.berths.filter p).map before).sum limit :=
        max_le_max_right _ (List.sum_le_sum fun b hb => hbefore b (hmem hb))

section
variable {w : Berth → Int} {order : List Berth} {raised : Nat → Nat}

theorem State.ImportRaises.le (h : s.ImportRaises w order raised) {b : Berth} (hb : b ∈ s.berths) :
    raised b.number ≤ importPart (w b) - importPart (atOnce (w b) b) := by
  by_cases hm : b ∈ order
  · obtain ⟨l, r, e⟩ := List.append_of_mem hm
    rw [h.2 l b r e]
    exact min_le_left ..
  · rw [h.1 b hb hm]
    exact Nat.zero_le _

theorem State.ExportRaises.le (h : s.ExportRaises exported w raised) {b : Berth} (hb : b ∈ s.berths) :
    raised b.number ≤ exportPart (w b) - exportPart (atOnce (w b) b) := by
  obtain ⟨hnone, hsome⟩ := h b hb
  obtain hz | hpos := Nat.eq_zero_or_pos (exported b.number)
  · rw [hnone hz]
    exact Nat.zero_le _
  · rw [hsome hpos]
    exact min_le_left ..

/-- R91: an export raise leaves a berth's import as it is, and an import raise its export. -/
theorem parts_raised {w : Int} {b : Berth} {i e : Nat} (hi : i ≤ importPart w - importPart (atOnce w b))
    (he : e ≤ exportPart w - exportPart (atOnce w b)) :
    importPart (atOnce w b + i - e) = importPart (atOnce w b) + i
      ∧ exportPart (atOnce w b + i - e) = exportPart (atOnce w b) + e := by
  unfold atOnce importPart exportPart at *
  omega

theorem importPart_raised_le {w : Int} {b : Berth} {i e : Nat} (hi : i ≤ importPart w - importPart (atOnce w b))
    (he : e ≤ exportPart w - exportPart (atOnce w b)) : importPart (atOnce w b + i - e) ≤ importPart w := by
  rw [(parts_raised hi he).1]
  have := importPart_atOnce w b
  omega

theorem exportPart_raised_le {w : Int} {b : Berth} {i e : Nat} (hi : i ≤ importPart w - importPart (atOnce w b))
    (he : e ≤ exportPart w - exportPart (atOnce w b)) : exportPart (atOnce w b + i - e) ≤ exportPart w := by
  rw [(parts_raised hi he).2]
  have := exportPart_atOnce w b
  omega

variable (ht : s.tablesOk = true) {importRaised exportRaised : Nat → Nat}

section
variable (himports : s.ImportRaises w order importRaised) (hexports : s.ExportRaises exported w exportRaised)
include ht himports hexports

/-- R90: the import raises of the berths that share a limit. -/
theorem import_total_le (hn : order.Nodup) (hsub : ∀ b ∈ order, b ∈ s.berths) {p : Berth → Bool} {limit : Nat}
    (hroom : ∀ l b r, order = l ++ b :: r → p b = true → importRaised b.number ≤
      limit - (((s.berths.filter p).map fun c => max (importPart (atOnce (w c) c)) (importPart c.reported)).sum
        + ((l.filter p).map fun c => importRaised c.number).sum)) :
    ((s.berths.filter p).map fun b =>
        max (importPart (atOnce (w b) b + importRaised b.number - exportRaised b.number)) (importPart b.reported)).sum ≤
      max ((s.berths.filter p).map Berth.countedImport).sum limit := by
  refine raised_total_le ht hn hsub himports.1 (fun b _ => ?_) (fun b hb => ?_) hroom
  · have := importPart_atOnce (w b) b
    unfold Berth.countedImport at *
    omega
  · rw [(parts_raised (himports.le hb) (hexports.le hb)).1]
    omega

theorem totalImport_le (hn : order.Nodup) (hsub : ∀ b ∈ order, b ∈ s.berths) :
    (s.berths.map fun b =>
        max (importPart (atOnce (w b) b + importRaised b.number - exportRaised b.number)) (importPart b.reported)).sum ≤
      max s.totalImport s.alloc.importCeiling := by
  have := import_total_le ht himports hexports hn hsub (p := fun _ => true) (limit := s.alloc.importCeiling)
    fun l b r e _ => by
      rw [himports.2 l b r e, List.filter_true, List.filter_true]
      omega
  rwa [List.filter_true] at this

theorem branchImport_le (hn : order.Nodup) (hsub : ∀ b ∈ order, b ∈ s.berths) (branch : Nat) :
    ((s.berths.filter fun b => b.branch == branch).map fun b =>
        max (importPart (atOnce (w b) b + importRaised b.number - exportRaised b.number)) (importPart b.reported)).sum ≤
      max (s.branchImport branch) (s.profile.branchLimit branch) := by
  refine import_total_le ht himports hexports hn hsub fun l b r e hp => ?_
  obtain rfl : b.branch = branch := by simpa using hp
  rw [himports.2 l b r e]
  omega

/-- R91: the export raises. -/
theorem totalExport_le (hshares : s.ExportShares exported) :
    (s.berths.map fun b =>
        max (exportPart (atOnce (w b) b + importRaised b.number - exportRaised b.number)) (exportPart b.reported)).sum ≤
      max s.totalExport s.alloc.exportCeiling := by
  have candidate {b : Berth} (hb : b ∈ s.berths) (hpos : 0 < exported b.number) : s.isCandidate b = true := by
    by_contra hc
    rw [(hshares b hb).1 (by simpa using hc)] at hpos
    exact lt_irrefl 0 hpos
  have := raised_total_le ht (p := fun _ => true) (limit := s.alloc.exportCeiling)
    (base := fun b => max (exportPart (atOnce (w b) b)) (exportPart b.reported)) (raised := fun b => exportRaised b.number)
    (before := Berth.countedExport)
    (after := fun b =>
      max (exportPart (atOnce (w b) b + importRaised b.number - exportRaised b.number)) (exportPart b.reported))
    (List.Nodup.of_map _ (exportOrder_nodup ht)) (fun b hb => (mem_exportOrder.1 hb).1) (fun b hb hnot => ?_) (fun b _ => ?_)
    (fun b hb => ?_) fun l b r e _ => ?_
  · rw [List.filter_true] at this
    exact this
  · refine (hexports b hb).1 (Nat.eq_zero_of_not_pos fun hpos => hnot (mem_exportOrder.2 ⟨hb, candidate hb hpos⟩))
  · have := exportPart_atOnce (w b) b
    unfold Berth.countedExport at *
    omega
  · rw [(parts_raised (himports.le hb) (hexports.le hb)).2]
    omega
  · have hmem : ∀ c ∈ l ++ b :: r, c ∈ s.berths := fun c hc => (mem_exportOrder.1 (e ▸ hc)).1
    have hb := hmem b (by simp)
    obtain hz | hpos := Nat.eq_zero_or_pos (exported b.number)
    · rw [(hexports b hb).1 hz]
      exact Nat.zero_le _
    · rw [(hexports b hb).2 hpos, sum_givesBefore ht e (fun c => decide (0 < exported c.number))
        (fun c => exportRaised c.number) fun c hc hq => candidate hc (of_decide_eq_true hq),
        sum_filter_of_zero fun c hc hq => (hexports c (hmem c (by simp [hc]))).1 (by simpa using hq),
        List.filter_true, List.filter_true]
      exact min_le_right ..

end

/-! ## Wanted levels within the ceilings (R83, R86) -/

theorem importPart_wantedBy_le (b : Berth) : importPart (wantedBy exported served b) ≤ givenBy served b.number := by
  unfold wantedBy importPart
  split <;> omega

theorem exportPart_wantedBy_le (b : Berth) : exportPart (wantedBy exported served b) ≤ exported b.number := by
  unfold wantedBy exportPart
  split <;> omega

include ht in
theorem State.ExportShares.total_le (h : s.ExportShares exported) :
    (s.berths.map fun b => exported b.number).sum ≤ s.alloc.exportCeiling := by
  rw [sum_of_order ht (order := s.exportOrder) (List.Nodup.of_map _ (exportOrder_nodup ht))
    (fun b hb => (mem_exportOrder.1 hb).1) fun b hb hnot => ?_]
  · have := sum_le_of_whole_room (f := fun b : Berth => exported b.number) (base := 0) (room := s.alloc.exportCeiling)
      s.exportOrder fun l b r e => ?_
    · simpa using this
    · obtain ⟨hb, hc⟩ := mem_exportOrder.1 (e ▸ (by simp) : b ∈ s.exportOrder)
      have hl : l.filter s.isCandidate = l :=
        List.filter_eq_self.2 fun c hc => (mem_exportOrder.1 (e ▸ List.mem_append_left _ hc)).2
      rw [(h b hb).2 hc, sum_givesBefore ht e s.isCandidate (fun c => exported c.number) (fun _ _ => id), hl]
      omega
  · refine (h b hb).1 ?_
    by_contra hc
    exact hnot (mem_exportOrder.2 ⟨hb, by simpa using hc⟩)

theorem servedAmount_le (s : State) (l : List Served) (b : Berth) (demand : Nat) :
    s.servedAmount l b demand ≤ s.alloc.importCeiling - (l.map Served.amount).sum
      ∧ s.servedAmount l b demand ≤
        s.profile.branchLimit b.branch - ((l.filter fun c => c.berth.branch == b.branch).map Served.amount).sum := by
  unfold State.servedAmount
  dsimp only
  split
  · rename_i h
    have := h.1
    omega
  · omega

include ht in
/-- What the claims have given, summed over the berths. -/
theorem sum_givenBy (hb : ∀ c ∈ served, c.berth ∈ s.berths) (p : Berth → Bool) :
    ((s.berths.filter p).map fun b => givenBy served b.number).sum =
      ((served.filter fun c => p c.berth).map Served.amount).sum := by
  induction served using List.reverseRecOn with
  | nil => simp [givenBy]
  | append_singleton served c ih =>
    rw [List.forall_mem_append] at hb
    have hc : c.berth ∈ s.berths := hb.2 c (List.mem_singleton_self c)
    have hlast := sum_filter_of_order ht (f := fun b => if c.berth.number = b.number then c.amount else 0)
      (order := [c.berth]) (List.nodup_singleton _) (by simpa using hc)
      (fun b hb hnot => if_neg fun e => hnot (by rw [berth_eq_of_number ht hb hc e]; exact List.mem_singleton_self b)) p
    simp only [givenBy_concat]
    rw [List.sum_map_add, ih hb.1, hlast]
    by_cases hp : p c.berth = true <;> simp [hp]

section
variable (h : s.ServesClaims exported served)
include h

theorem State.ServesClaims.mem_berths : ∀ c ∈ served, c.berth ∈ s.berths := fun c hc =>
  ((h.1 c.group c.berth).1 ⟨c, hc, rfl, rfl⟩).1

include ht

/-- R86: the claims together are given no more than the import ceiling. -/
theorem State.ServesClaims.total_le : (s.berths.map fun b => givenBy served b.number).sum ≤ s.alloc.importCeiling := by
  have hsum := sum_givenBy ht h.mem_berths fun _ => true
  rw [List.filter_true, List.filter_true] at hsum
  rw [hsum]
  have := sum_le_of_whole_room (f := Served.amount) (base := 0) (room := s.alloc.importCeiling) served fun l c r e => by
    rw [h.2.2.2 l c r e, Nat.zero_add]
    exact (servedAmount_le ..).1
  simpa using this

/-- R86: the claims of a branch are given no more than its limit. -/
theorem State.ServesClaims.branch_le (branch : Nat) :
    ((s.berths.filter fun b => b.branch == branch).map fun b => givenBy served b.number).sum ≤
      s.profile.branchLimit branch := by
  rw [sum_givenBy ht h.mem_berths]
  have := sum_le_of_room (f := Served.amount) (base := 0) (room := s.profile.branchLimit branch)
    (p := fun c => c.berth.branch == branch) served fun l c r e hp => by
      obtain rfl : c.berth.branch = branch := by simpa using hp
      rw [h.2.2.2 l c r e, Nat.zero_add]
      exact (servedAmount_le ..).2
  simpa using this

end

end

end

end Sys2Proof.Machine
end

section
/-! PROOFS. The trench quota and the spacing rule hold of what the claims of a pass are given (R87). -/

namespace Sys2Proof.Machine

section
variable {s : State} {served : List Served} {exported : Nat → Nat}

/-- R87: a berth that claims served so far have made high-rate. -/
def State.isHighRate (s : State) (served : List Served) (b : Berth) : Bool :=
  decide (s.profile.highRateThreshold < givenBy served b.number)

/-- R87: the high-rate berths of a section. -/
def State.highRateIn (s : State) (served : List Served) (trench : Nat) : List Berth :=
  s.berths.filter fun b => b.trench == trench && s.isHighRate served b

/-- R87: another high-rate berth of the section of a berth. -/
def State.isMate (s : State) (served : List Served) (b m : Berth) : Bool :=
  m.number != b.number && m.trench == b.trench && s.isHighRate served m

/-- R87: the trench quota and the spacing rule, of what has been given. -/
structure State.TrenchRules (s : State) (served : List Served) : Prop where
  quota : ∀ trench, (s.highRateIn served trench).length ≤ s.profile.trenchQuota
  spacing : ∀ a ∈ s.berths, ∀ b ∈ s.berths, a.trench = b.trench →
    s.profile.spacingSections.getLsbD (a.trench - 1) = true → b.position = a.position + 1 →
      s.isHighRate served a = true → s.isHighRate served b = false

theorem mem_highRateIn {trench : Nat} {b : Berth} :
    b ∈ s.highRateIn served trench ↔ b ∈ s.berths ∧ b.trench = trench ∧ s.isHighRate served b = true := by
  simp [State.highRateIn]

/-- R87: a claim that makes its berth high-rate finds room in the quota and no high-rate neighbour. -/
theorem servedAmount_makes_highRate {b : Berth} {demand : Nat} (hnot : s.isHighRate served b = false)
    (h : s.profile.highRateThreshold < givenBy served b.number + s.servedAmount served b demand) :
    (s.berths.filter (s.isMate served b)).length < s.profile.trenchQuota
      ∧ (s.profile.spacingSections.getLsbD (b.trench - 1) = true → ∀ m ∈ s.berths, s.isMate served b m = true →
          m.position ≠ b.position + 1 ∧ b.position ≠ m.position + 1) := by
  have hlow : givenBy served b.number ≤ s.profile.highRateThreshold := by simpa [State.isHighRate] using hnot
  unfold State.servedAmount at h
  dsimp only at h
  split at h
  · omega
  · rename_i hfree
    simp only [not_and_or, not_or, not_exists, not_le] at hfree
    rcases hfree with hfree | ⟨hquota, hspacing⟩
    · exact absurd h hfree
    · refine ⟨hquota, fun hbit m hm hmate => ?_⟩
      rcases hspacing with hspacing | hspacing
      · exact absurd hbit hspacing
      · rcases hspacing m with hmem | hpos
        · exact absurd (List.mem_filter.2 ⟨hm, hmate⟩) hmem
        · exact hpos

variable (ht : s.tablesOk = true)

/-- R87: who is high-rate once one more claim has been served. -/
theorem isHighRate_concat {c : Served} {b : Berth} (h : s.isHighRate (served ++ [c]) b = true) :
    s.isHighRate served b = true
      ∨ (c.berth.number = b.number ∧ s.isHighRate served b = false
          ∧ s.profile.highRateThreshold < givenBy served b.number + c.amount) := by
  cases hb : s.isHighRate served b with
  | true => exact .inl rfl
  | false =>
    unfold State.isHighRate at h hb
    rw [decide_eq_true_iff, givenBy_concat] at h
    rw [decide_eq_false_iff_not] at hb
    split at h
    · rename_i hn
      exact .inr ⟨hn, rfl, h⟩
    · exact absurd h hb

include ht

/-- R87: the trench rules hold of fewer high-rate berths. -/
theorem State.TrenchRules.of_imp (h : s.TrenchRules served) {served' : List Served}
    (himp : ∀ b ∈ s.berths, s.isHighRate served' b = true → s.isHighRate served b = true) : s.TrenchRules served' := by
  constructor
  · intro trench
    have hnodup : (s.highRateIn served' trench).Nodup := (berths_nodup ht).filter _
    refine le_trans (hnodup.subperm fun b hb => ?_).length_le (h.quota trench)
    obtain ⟨hb, hbt, hrate⟩ := mem_highRateIn.1 hb
    exact mem_highRateIn.2 ⟨hb, hbt, himp b hb hrate⟩
  · intro a ha b hb htrench hbit hnext hrate
    have := h.spacing a ha b hb htrench hbit hnext (himp a ha hrate)
    by_contra hrate'
    rw [himp b hb (by simpa using hrate')] at this
    cases this

/-- R87: the trench rules hold of one high-rate berth more, which finds room in the quota and no high-rate neighbour. -/
theorem State.TrenchRules.of_one_more (h : s.TrenchRules served) {served' : List Served} {r : Berth} (hr : r ∈ s.berths)
    (hlow : s.isHighRate served r = false)
    (himp : ∀ b ∈ s.berths, s.isHighRate served' b = true → b = r ∨ s.isHighRate served b = true)
    (hquota : (s.berths.filter (s.isMate served r)).length < s.profile.trenchQuota)
    (hspacing : s.profile.spacingSections.getLsbD (r.trench - 1) = true →
      ∀ m ∈ s.berths, s.isMate served r m = true → m.position ≠ r.position + 1 ∧ r.position ≠ m.position + 1) :
    s.TrenchRules served' := by
  have mate {b : Berth} (hb : b ∈ s.berths) (htrench : b.trench = r.trench) (hrate : s.isHighRate served b = true) :
      s.isMate served r b = true := by
    have hn : b.number ≠ r.number := fun e => by
      rw [berth_eq_of_number ht hr hb e, hlow] at hrate
      cases hrate
    simp [State.isMate, hn, htrench, hrate]
  constructor
  · intro trench
    have hnodup : (s.highRateIn served' trench).Nodup := (berths_nodup ht).filter _
    by_cases htrench : r.trench = trench
    · have hsub : s.highRateIn served' trench ⊆ r :: s.berths.filter (s.isMate served r) := by
        intro b hb
        obtain ⟨hb, hbt, hrate⟩ := mem_highRateIn.1 hb
        rcases himp b hb hrate with rfl | hold
        · exact List.mem_cons_self ..
        · exact List.mem_cons_of_mem _ (List.mem_filter.2 ⟨hb, mate hb (hbt.trans htrench.symm) hold⟩)
      have := (hnodup.subperm hsub).length_le
      rw [List.length_cons] at this
      omega
    · refine le_trans (hnodup.subperm fun b hb => ?_).length_le (h.quota trench)
      obtain ⟨hb, hbt, hrate⟩ := mem_highRateIn.1 hb
      rcases himp b hb hrate with rfl | hold
      · exact absurd hbt htrench
      · exact mem_highRateIn.2 ⟨hb, hbt, hold⟩
  · intro a ha b hb htrench hbit hnext hrate
    by_contra hrate'
    rw [Bool.not_eq_false] at hrate'
    rcases himp a ha hrate with rfl | hold <;> rcases himp b hb hrate' with rfl | hold'
    · omega
    · exact (hspacing hbit b hb (mate hb htrench.symm hold')).1 hnext
    · exact (hspacing (htrench ▸ hbit) a ha (mate ha htrench hold)).2 hnext
    · exact Bool.noConfusion (hold'.symm.trans (h.spacing a ha b hb htrench hbit hnext hold))

/-- R87: serving a claim keeps the trench rules. -/
theorem State.TrenchRules.concat (h : s.TrenchRules served) {c : Served} {demand : Nat} (hc : c.berth ∈ s.berths)
    (hamount : c.amount = s.servedAmount served c.berth demand) : s.TrenchRules (served ++ [c]) := by
  by_cases hmakes : s.isHighRate served c.berth = false
      ∧ s.profile.highRateThreshold < givenBy served c.berth.number + c.amount
  · obtain ⟨hlow, hhigh⟩ := hmakes
    obtain ⟨hquota, hspacing⟩ := servedAmount_makes_highRate hlow (hamount ▸ hhigh)
    refine h.of_one_more ht hc hlow (fun b hb hrate => ?_) hquota hspacing
    rcases isHighRate_concat hrate with hold | ⟨hn, _⟩
    · exact .inr hold
    · exact .inl (berth_eq_of_number ht hb hc hn).symm
  · refine h.of_imp ht fun b hb hrate => ?_
    rcases isHighRate_concat hrate with hold | ⟨hn, hnew⟩
    · exact hold
    · rw [← berth_eq_of_number ht hb hc hn] at hnew
      exact absurd hnew hmakes

theorem trenchRules_of_amounts (hb : ∀ c ∈ served, c.berth ∈ s.berths) {demand : Served → Nat}
    (h : ∀ l c r, served = l ++ c :: r → c.amount = s.servedAmount l c.berth (demand c)) : s.TrenchRules served := by
  induction served using List.reverseRecOn with
  | nil =>
    have none (b : Berth) : s.isHighRate [] b = false := by simp [State.isHighRate, givenBy]
    exact ⟨fun trench => by simp [State.highRateIn, none], fun _ _ b _ _ _ _ _ => none b⟩
  | append_singleton served c ih =>
    rw [List.forall_mem_append] at hb
    obtain ⟨hl, hc⟩ := (forall_split_concat (P := fun l (c : Served) =>
      c.amount = s.servedAmount l c.berth (demand c))).1 h
    exact (ih hb.1 hl).concat ht (hb.2 c (List.mem_singleton_self c)) hc

/-- R87: the claims of a pass keep the trench rules. -/
theorem State.ServesClaims.trenchRules (h : s.ServesClaims exported served) : s.TrenchRules served :=
  trenchRules_of_amounts ht h.mem_berths (demand := fun c => s.claimIn exported c.group c.berth) h.2.2.2

end

end Sys2Proof.Machine
end

section
/-! PROOFS. An allocation pass and the end of its event: the targets that remain, and what a settled state shows (R80 to R93). -/

namespace Sys2Proof.Machine

theorem exec_allocationPass (s : State) : exec .allocationPass s = ifPowered State.takePass s := by rfl

/-! ## The state of a pass -/

/-- R81: the state with its pass taken up. -/
def State.passTaken (s : State) : State := { s with alloc := { s.alloc with passRequested := false } }

/-- A berth as a pass and the end of its event leave it. -/
def State.passBerth (s : State) (w d : Berth → Int) (b : Berth) : Berth :=
  (s.passTaken.decidedAs w d).withdrawn (b.setTarget (s.grantInFlight b.number) (w b) (d b))

section
variable {s t : State} {w d : Berth → Int}

theorem passBerth_targets (b : Berth) :
    ((s.passBerth w d b).wanted = w b ∧ (s.passBerth w d b).decided = d b) ∨ (s.passBerth w d b).atZero := by
  unfold State.passBerth State.withdrawn
  split
  · exact .inr (setTarget_atZero _ _)
  · exact .inl ⟨rfl, rfl⟩

theorem passBerth_eq (b : Berth) : ∃ wanted decided due,
    s.passBerth w d b = { b with wanted := wanted, decided := decided, grantDue := due } := by
  unfold State.passBerth
  rw [withdrawn_eq_setTarget]
  exact ⟨_, _, _, rfl⟩

/-- What reads neither a target nor a grant due mark is as it was. -/
theorem passBerth_view {α : Type} {view : Berth → α}
    (hview : ∀ (b : Berth) w d due, view { b with wanted := w, decided := d, grantDue := due } = view b) (b : Berth) :
    view (s.passBerth w d b) = view b := by
  obtain ⟨_, _, _, e⟩ := passBerth_eq (s := s) (w := w) (d := d) b
  rw [e, hview]

/-- R93: what a part of a power counts of a berth only falls. -/
theorem passBerth_le {part : Int → Nat} (hzero : part 0 = 0) (b : Berth) :
    part (s.passBerth w d b).wanted ≤ part (w b)
      ∧ max (part (s.passBerth w d b).decided) (part (s.passBerth w d b).reported) ≤ max (part (d b)) (part b.reported) := by
  have hreported : (s.passBerth w d b).reported = b.reported := passBerth_view (view := Berth.reported) (fun _ _ _ _ => rfl) b
  rcases passBerth_targets (s := s) (w := w) (d := d) b with ⟨hw, hd⟩ | ⟨hw, hd⟩ <;> rw [hw, hd, hreported]
  · exact ⟨le_rfl, le_rfl⟩
  · rw [hzero]
    exact ⟨Nat.zero_le _, max_le_max_right _ (Nat.zero_le _)⟩

section
variable (hs : Settles s (s.passTaken.decidedAs w d) t)
include hs

theorem settled_berths : t.berths = s.berths.map (s.passBerth w d) := by
  obtain ⟨-, -, hberths, -⟩ := hs
  rw [hberths]
  exact List.map_map

theorem mem_settled_berths {b : Berth} : b ∈ t.berths ↔ ∃ c ∈ s.berths, s.passBerth w d c = b := by
  rw [settled_berths hs, List.mem_map]

/-- A sum over the berths that a pass leaves, by the berths it found. -/
theorem settled_sum_le {p : Berth → Bool} {f g : Berth → Nat}
    (hp : ∀ (b : Berth) w d due, p { b with wanted := w, decided := d, grantDue := due } = p b)
    (h : ∀ b ∈ s.berths, f (s.passBerth w d b) ≤ g b) :
    ((t.berths.filter p).map f).sum ≤ ((s.berths.filter p).map g).sum := by
  rw [settled_berths hs, List.filter_map, List.map_map]
  have hfilter : s.berths.filter (p ∘ s.passBerth w d) = s.berths.filter p :=
    List.filter_congr fun b _ => passBerth_view hp b
  rw [hfilter]
  exact List.sum_le_sum fun b hb => h b (List.mem_of_mem_filter hb)

theorem settled_total_le {f g : Berth → Nat} (h : ∀ b ∈ s.berths, f (s.passBerth w d b) ≤ g b) :
    (t.berths.map f).sum ≤ (s.berths.map g).sum := by
  have := settled_sum_le hs (p := fun _ => true) (fun _ _ _ _ => rfl) h
  rwa [List.filter_true, List.filter_true] at this

end

/-! ## A pass over settled records (R80) -/

/-- R77: the import ceiling reads no more of the pledge table than what it hands on. -/
theorem importCeilingNow_of_commitments (hr : t.run.state = s.run.state) (hg : t.grid = s.grid) (hp : t.profile = s.profile)
    (hb : t.alloc.baseLoad = s.alloc.baseLoad) (hl : t.pledges = s.pledges)
    (hc : t.reserve.curtailCommitment = s.reserve.curtailCommitment)
    (hy : t.reserve.readinessYield = s.reserve.readinessYield) : t.importCeilingNow = s.importCeilingNow := by
  simp [State.importCeilingNow, State.heldAtZero, State.stopInForce, State.tripInForce, State.curtailTerm,
    State.feederTerm, hr, hg, hp, hb, hl, hc, hy]

theorem exportCeilingNow_of_commitments (hr : t.run.state = s.run.state) (hg : t.grid = s.grid) (hp : t.profile = s.profile)
    (he : t.reserve.exportCommitment = s.reserve.exportCommitment) : t.exportCeilingNow = s.exportCeilingNow := by
  simp [State.exportCeilingNow, State.heldAtZero, State.stopInForce, hr, hg, hp, he]

/-- R17: a pass changes nothing that a bus derives. -/
theorem deriveBus_pass (b : Bus) : (s.passTaken.decidedAs w d).deriveBus b = s.deriveBus b :=
  deriveBus_of_views (s := s) (t := s.passTaken.decidedAs w d) rfl
    (map_view_map (f := fun b => b.setTarget (s.grantInFlight b.number) (w b) (d b)) (fun _ => rfl) s.berths) rfl rfl b

section
variable (hbuses : s.busesCurrent)
include hbuses

theorem demandChanged_pass : (s.passTaken.decidedAs w d).demandChanged = false := by
  unfold State.demandChanged
  rw [List.any_eq_false]
  intro b hb
  rw [deriveBus_pass, hbuses b hb]
  simp

/-- R20, R93: no eligibility is lost, and every target stands. -/
theorem withdrawn_pass (b : Berth) : (s.passTaken.decidedAs w d).withdrawn b = b := by
  have hloses : (s.passTaken.decidedAs w d).losesExport b = false := by
    unfold State.losesExport
    rw [List.any_eq_false]
    intro x hx
    have hkept : (s.passTaken.decidedAs w d).lostExport x = none := by
      unfold State.lostExport
      rw [deriveBus_pass, hbuses x hx, Bool.and_not_self]
      rfl
    rw [hkept]
    simp
  unfold State.withdrawn
  rw [hloses, if_neg (by simp)]

variable (hs : Settles s (s.passTaken.decidedAs w d) t)
include hs

theorem settled_buses : t.buses = s.buses := by
  obtain ⟨-, hb, -⟩ := hs
  rw [hb]
  exact (List.map_congr_left fun b hb => (deriveBus_pass b).trans (hbuses b hb)).trans (List.map_id _)

/-- R17, R40, R80: a pass over settled records changes nothing that raises another. -/
theorem passDue_settled (ht : s.tablesOk = true) (hceilings : s.ceilingsCurrent) (hcommitments : s.commitmentsCurrent)
    (hyield : t.reserve.readinessYield = s.reserve.readinessYield) : s.passDue t = false := by
  have hkeptBuses := settled_buses hbuses hs
  have hkeptBerths := settled_berths hs
  obtain ⟨⟨_, _, _, hrun, _, hpledges, hgrid, _, hprofile, _, _, _, hload⟩, _, _, _, _, ⟨hcurtail, hexport⟩,
    ⟨himportCeiling, hbinding, hexportCeiling⟩, _, _⟩ := hs
  have hcurtail' : t.reserve.curtailCommitment = s.reserve.curtailCommitment := by
    rw [hcurtail, hcommitments.1, hpledges]
    rfl
  have hexport' : t.reserve.exportCommitment = s.reserve.exportCommitment := by
    rw [hexport, hcommitments.2, hpledges]
    rfl
  have himportNow : t.importCeilingNow = s.importCeilingNow :=
    importCeilingNow_of_commitments (congrArg RunControl.state hrun) hgrid hprofile hload hpledges hcurtail' hyield
  have hexportNow : t.exportCeilingNow = s.exportCeilingNow :=
    exportCeilingNow_of_commitments (congrArg RunControl.state hrun) hgrid hprofile hexport'
  have hload' : t.alloc.baseLoad = s.alloc.baseLoad := hload
  have hprofile' : t.profile = s.profile := hprofile
  have hbusesSame : busesChanged s t = false := by
    unfold busesChanged
    rw [List.any_eq_false, hkeptBuses]
    intro b hb
    rw [bus?_of_mem ht hb]
    simp
  have hberthsSame : berthsChanged s t = false := by
    unfold berthsChanged
    rw [hkeptBerths, hprofile', map_view_map (fun b => passBerth_view (fun _ _ _ _ => rfl) b)]
    simp
  have hfeederSame : t.feederView = s.feederView := by
    unfold State.feederView
    rw [hload', himportCeiling, hbinding, hexportCeiling, himportNow, hexportNow, hceilings.1, hceilings.2.1, hceilings.2.2,
      hcurtail', hexport', hyield]
  unfold State.passDue
  rw [hbusesSame, hberthsSame, hfeederSame]
  simp

/-- R80, R81: such a pass raises no other, and its targets stand. -/
theorem pass_of_settled (ht : s.tablesOk = true) (hceilings : s.ceilingsCurrent) (hcommitments : s.commitmentsCurrent)
    (hyield : t.reserve.readinessYield = s.reserve.readinessYield) :
    t.alloc.passRequested = false ∧ t.berths = (s.passTaken.decidedAs w d).berths := by
  have hdue := passDue_settled hbuses hs ht hceilings hcommitments hyield
  obtain ⟨_, _, hberths, _, _, _, _, _, hrequested⟩ := hs
  constructor
  · rw [hrequested, hdue, demandChanged_pass hbuses]
    rfl
  · rw [hberths]
    exact (List.map_congr_left fun b _ => withdrawn_pass hbuses b).trans (List.map_id _)

end

end

end Sys2Proof.Machine
end

section
/-! PROOFS. An allocation pass keeps the ceilings, the branch limits and the trench rules (R81 to R92). -/

namespace Sys2Proof.Machine

/-- R82 to R91: what a pass decides, each part named. -/
structure State.Passes (s : State) (exported importRaised exportRaised : Nat → Nat) (served : List Served) : Prop where
  shares : s.ExportShares exported
  claims : s.ServesClaims exported served
  imports : s.ImportRaises (wantedBy exported served) (served.map Served.berth).eraseDups importRaised
  exports : s.ExportRaises exported (wantedBy exported served) exportRaised

/-- R89 to R91: the decided target of a berth, at once and by raises. -/
def targetBy (exported importRaised exportRaised : Nat → Nat) (served : List Served) (b : Berth) : Int :=
  atOnce (wantedBy exported served b) b + importRaised b.number - exportRaised b.number

section
variable {s t : State} {exported importRaised exportRaised : Nat → Nat} {served : List Served}

/-- R81: a pass that has been raised, and the end of its event. -/
theorem takePass_settles (hpass : s.alloc.passRequested = true) : Settles s s.passTaken.allocate s.takePass := by
  unfold State.takePass
  rw [if_pos hpass]
  exact closeEvent_settles s s.passTaken.allocate

theorem exists_passes (ht : s.tablesOk = true) :
    ∃ (exported importRaised exportRaised : Nat → Nat) (served : List Served),
      s.Passes exported importRaised exportRaised served
      ∧ s.passTaken.allocate =
        s.passTaken.decidedAs (wantedBy exported served) (targetBy exported importRaised exportRaised served) := by
  obtain ⟨exported, importRaised, exportRaised, served, hshares, hclaims, himports, hexports, hpost⟩ :=
    allocate_decides (s := s.passTaken) ht
  exact ⟨exported, importRaised, exportRaised, served, ⟨hshares, hclaims, himports, hexports⟩, hpost⟩

section
variable (hp : s.Passes exported importRaised exportRaised served)
include hp

theorem State.Passes.decides :
    PassDecides s
      (s.passTaken.decidedAs (wantedBy exported served) (targetBy exported importRaised exportRaised served)) :=
  ⟨exported, importRaised, exportRaised, served, hp.shares, hp.claims, hp.imports, hp.exports, rfl⟩

/-- R88 to R91: no target is decided beyond its wanted level. -/
theorem State.Passes.target_le {b : Berth} (hb : b ∈ s.berths) :
    importPart (targetBy exported importRaised exportRaised served b) ≤ importPart (wantedBy exported served b)
      ∧ exportPart (targetBy exported importRaised exportRaised served b) ≤ exportPart (wantedBy exported served b) :=
  ⟨importPart_raised_le (hp.imports.le hb) (hp.exports.le hb), exportPart_raised_le (hp.imports.le hb) (hp.exports.le hb)⟩

theorem State.Passes.order_mem : ∀ b ∈ (served.map Served.berth).eraseDups, b ∈ s.berths := by
  intro b hb
  obtain ⟨c, hc, rfl⟩ := List.mem_map.1 (List.mem_eraseDups.1 hb)
  exact hp.claims.mem_berths c hc

end

/-- R87, R93: a berth that wants more than the threshold has been given more. -/
theorem settled_highRate {c : Berth}
    (h : s.profile.highRateThreshold <
      importPart (s.passBerth (wantedBy exported served) (targetBy exported importRaised exportRaised served) c).wanted) :
    s.isHighRate served c = true :=
  decide_eq_true (h.trans_le ((passBerth_le rfl c).1.trans (importPart_wantedBy_le c)))

section
variable (hp : s.Passes exported importRaised exportRaised served)
  (hs : Settles s
    (s.passTaken.decidedAs (wantedBy exported served) (targetBy exported importRaised exportRaised served)) t)
include hp hs

/-- R88 to R91, R93: so it is when the event has ended. -/
theorem settled_target_le {b : Berth} (hb : b ∈ t.berths) :
    importPart b.decided ≤ importPart b.wanted ∧ exportPart b.decided ≤ exportPart b.wanted := by
  obtain ⟨c, hc, rfl⟩ := (mem_settled_berths hs).1 hb
  rcases passBerth_targets c with ⟨hw, hd⟩ | ⟨hw, hd⟩ <;> rw [hw, hd]
  · exact hp.target_le hc
  · exact ⟨le_rfl, le_rfl⟩

variable (ht : s.tablesOk = true)
include ht

/-- R90: the totals. -/
theorem settled_totalImport : t.totalImport ≤ max s.totalImport s.alloc.importCeiling :=
  (settled_total_le hs fun b _ => (passBerth_le (part := importPart) rfl b).2).trans
    (totalImport_le ht hp.imports hp.exports (nodup_eraseDups _) hp.order_mem)

theorem settled_totalExport : t.totalExport ≤ max s.totalExport s.alloc.exportCeiling :=
  (settled_total_le hs fun b _ => (passBerth_le (part := exportPart) rfl b).2).trans
    (totalExport_le ht hp.imports hp.exports hp.shares)

theorem settled_branchImport (branch : Nat) :
    t.branchImport branch ≤ max (s.branchImport branch) (s.profile.branchLimit branch) :=
  (settled_sum_le hs (fun _ _ _ _ => rfl) fun b _ => (passBerth_le (part := importPart) rfl b).2).trans
    (branchImport_le ht hp.imports hp.exports (nodup_eraseDups _) hp.order_mem branch)

/-- R83, R86, R88: the wanted levels. -/
theorem settled_wantedImport : (t.berths.map fun b => importPart b.wanted).sum ≤ s.alloc.importCeiling :=
  (settled_total_le hs fun b _ => (passBerth_le rfl b).1.trans (importPart_wantedBy_le b)).trans (hp.claims.total_le ht)

theorem settled_wantedExport : (t.berths.map fun b => exportPart b.wanted).sum ≤ s.alloc.exportCeiling :=
  (settled_total_le hs fun b _ => (passBerth_le rfl b).1.trans (exportPart_wantedBy_le b)).trans (hp.shares.total_le ht)

theorem settled_wantedBranch (branch : Nat) :
    ((t.berths.filter fun b => b.branch == branch).map fun b => importPart b.wanted).sum ≤ s.profile.branchLimit branch :=
  (settled_sum_le hs (fun _ _ _ _ => rfl) fun b _ => (passBerth_le rfl b).1.trans (importPart_wantedBy_le b)).trans
    (hp.claims.branch_le ht branch)

/-- R82: a berth that is no claimant is left at 0. -/
theorem settled_othersZero {b : Berth} (hb : b ∈ t.berths) (hc : b.isClaimant = false) : b.wanted = 0 ∧ b.decided = 0 := by
  obtain ⟨c, hmem, rfl⟩ := (mem_settled_berths hs).1 hb
  rw [passBerth_view (view := Berth.isClaimant) (fun _ _ _ _ => rfl)] at hc
  rcases passBerth_targets c with ⟨hw, hd⟩ | hzero
  · have hwanted := wantedBy_of_other ht hp.shares hp.claims hmem hc
    obtain ⟨himport, hexport⟩ := hp.target_le hmem
    rw [hw, hd, hwanted]
    rw [hwanted] at himport hexport
    refine ⟨rfl, ?_⟩
    unfold importPart at himport
    unfold exportPart at hexport
    omega
  · exact hzero

/-- R87: the trench quota. -/
theorem settled_quota (trench : Nat) :
    (t.berths.filter fun b => b.trench == trench && decide (s.profile.highRateThreshold < importPart b.wanted)).length
      ≤ s.profile.trenchQuota := by
  refine le_trans ?_ ((hp.claims.trenchRules ht).quota trench)
  rw [settled_berths hs, List.filter_map, List.length_map]
  refine (List.monotone_filter_right _ fun c hc => ?_).length_le
  rw [Function.comp_apply, passBerth_view (view := Berth.trench) (fun _ _ _ _ => rfl), Bool.and_eq_true, decide_eq_true_iff] at hc
  rw [hc.1, settled_highRate hc.2]
  rfl

/-- R87: the spacing rule. -/
theorem settled_spacing {a b : Berth} (ha : a ∈ t.berths) (hb : b ∈ t.berths) (htrench : a.trench = b.trench)
    (hbit : s.profile.spacingSections.getLsbD (a.trench - 1) = true) (hnext : b.position = a.position + 1) :
    importPart a.wanted ≤ s.profile.highRateThreshold ∨ importPart b.wanted ≤ s.profile.highRateThreshold := by
  obtain ⟨c, hc, rfl⟩ := (mem_settled_berths hs).1 ha
  obtain ⟨e, he, rfl⟩ := (mem_settled_berths hs).1 hb
  simp only [passBerth_view (view := Berth.trench) fun _ _ _ _ => rfl,
    passBerth_view (view := Berth.position) fun _ _ _ _ => rfl] at htrench hbit hnext
  by_contra hboth
  rw [not_or, not_le, not_le] at hboth
  have := (hp.claims.trenchRules ht).spacing c hc e he htrench hbit hnext (settled_highRate hboth.1)
  rw [settled_highRate hboth.2] at this
  cases this

end

end

/-- Settles O50: the pass as its rules compute it (`exists_passes`), each bound from the order in which its rule serves. -/
theorem allocationPassKeepsCeilings : Obligations.AllocationPassKeepsCeilings := by
  intro s hpowered
  rw [exec_allocationPass, ifPowered_on _ _ hpowered]
  refine ⟨fun hnone => ?_, fun hpass ht => ?_⟩
  · unfold State.takePass
    rw [hnone]
    rfl
  · obtain ⟨exported, importRaised, exportRaised, served, hp, hpost⟩ := exists_passes ht
    have hs := takePass_settles hpass
    rw [hpost] at hs
    refine ⟨s.takePass, _, rfl, hp.decides, hs,
      fun hbuses hceilings hcommitments hyield => pass_of_settled hbuses hs ht hceilings hcommitments hyield,
      settled_totalImport hp hs ht, settled_totalExport hp hs ht, settled_branchImport hp hs ht,
      fun b hb hc => settled_othersZero hp hs ht hb hc, fun b hb => settled_target_le hp hs hb,
      settled_wantedImport hp hs ht, settled_wantedExport hp hs ht, settled_wantedBranch hp hs ht,
      settled_quota hp hs ht, fun a ha b hb => settled_spacing hp hs ht ha hb, ?_, ?_⟩
    · rw [settled_berths hs, List.forall₂_map_right_iff]
      exact List.forall₂_same.2 fun b _ => passBerth_eq b
    · obtain ⟨⟨_, hdepot, hline, hrun, hclock, hpledges, hgrid, hsupervision, hprofile, hstore, _, _, hload⟩, -⟩ := hs
      exact ⟨hrun, hline, hclock, hpledges, hgrid, hsupervision, hprofile, hstore, hdepot, hload⟩

end Sys2Proof.Machine
end

section
/-! PROOFS. The owner's answers to ENROL and AMEND of a ticket, branch by branch, and the records they leave (R102 to R104; O20,
O25). -/

namespace Sys2Proof.Machine

/-! ## Departures and numbers carried -/

section
variable {s : State} {pairs : List Pair}

/-- R102, R103: a departure is later than the present time, which the clock must hold. -/
theorem departureLater_iff (departure : Nat) :
    s.departureLater departure = true ↔ ∃ now, s.now = some now ∧ 0 < minutesFrom now departure := by
  unfold State.departureLater
  cases s.now with
  | none => simp
  | some now => simp [earlier_iff]

/-- A number carried is the field's value, whatever the field's default. -/
theorem natField_eq {i v : Nat} (hv : carriedFor pairs i = some (v : Int)) (default : Nat) : natField pairs i default = v := by
  simp [natField, hv]

/-- A number that need not be carried is 0 where it is not. -/
theorem natField_optional {i : Nat} (h : ∀ v, carriedFor pairs i = some v → 0 ≤ v) :
    (natField pairs i 0 : Int) = (carriedFor pairs i).getD 0 := by
  unfold natField
  cases hv : carriedFor pairs i with
  | none => rfl
  | some v => exact Int.toNat_of_nonneg (h v hv)

end

/-! ## ENROL of a ticket (R102) -/

section
variable {key : Nat} {pairs : List Pair} {s : State}

theorem enrolTicket_badKey (hk : key = 0) : s.enrolTicket key pairs = refuse .badField 1 s := if_pos hk

variable (hk : key ≠ 0)
include hk

theorem enrolTicket_clockUnset (hn : s.now = none) : s.enrolTicket key pairs = refuse .clockUnset 0 s := by
  have hclock : s.clock.time.isNone = true := by simpa [State.now] using hn
  exact (if_neg hk).trans (if_pos hclock)

variable {now : Nat} (hn : s.now = some now)
include hn

theorem enrolTicket_clockSet : s.enrolTicket key pairs =
    if (s.ticket? key).isSome then refuse .existsAlready 0 s
    else withPairs (checkPairs 12 ticketEnrolFits [2, 3, 4] [] pairs) s <|
      if !s.departureLater (natField pairs 3 0) then refuse .badField 3 s
      else if Config.ticketSlots ≤ s.tickets.length then refuse .full 0 s
      else s.settled { s with tickets := insertByKey Ticket.id (newTicket key pairs) s.tickets } fun t =>
        recordBody (t.ticketValues key) := by
  obtain ⟨time, htime, -⟩ := Option.map_eq_some_iff.1 hn
  exact (if_neg hk).trans (if_neg (by simp [htime]))

theorem enrolTicket_exists (hx : (s.ticket? key).isSome) : s.enrolTicket key pairs = refuse .existsAlready 0 s := by
  rw [enrolTicket_clockSet hk hn, if_pos hx]

variable (hx : s.ticket? key = none)
include hx

theorem enrolTicket_badPairs {st : Status} {f : Nat} (hc : checkPairs 12 ticketEnrolFits [2, 3, 4] [] pairs = some (st, f)) :
    s.enrolTicket key pairs = refuse st f s := by
  rw [enrolTicket_clockSet hk hn, if_neg (by simp [hx]), hc, withPairs_some]

variable (hc : checkPairs 12 ticketEnrolFits [2, 3, 4] [] pairs = none) {departure : Nat}
  (hd : carriedFor pairs 3 = some (departure : Int))
include hc hd

/-- R102: the checks after those of the body's pairs. -/
theorem enrolTicket_goodPairs : s.enrolTicket key pairs =
    if !s.departureLater departure then refuse .badField 3 s
    else if 128 ≤ s.tickets.length then refuse .full 0 s
    else s.settled { s with tickets := insertByKey Ticket.id (newTicket key pairs) s.tickets } fun t =>
      recordBody (t.ticketValues key) := by
  rw [enrolTicket_clockSet hk hn, if_neg (by simp [hx]), hc, withPairs_none, natField_eq hd]
  rfl

theorem enrolTicket_departed (hpast : minutesFrom now departure ≤ 0) : s.enrolTicket key pairs = refuse .badField 3 s := by
  rw [enrolTicket_goodPairs hk hn hx hc hd]
  refine if_pos ?_
  rw [Bool.not_eq_true', ← Bool.not_eq_true, departureLater_iff, hn]
  simpa using hpast

variable (hlater : 0 < minutesFrom now departure)
include hlater

theorem enrolTicket_full (hl : 128 ≤ s.tickets.length) : s.enrolTicket key pairs = refuse .full 0 s := by
  rw [enrolTicket_goodPairs hk hn hx hc hd, (departureLater_iff departure).2 ⟨now, hn, hlater⟩]
  exact if_pos hl

theorem enrolTicket_settled (hl : s.tickets.length < 128) : s.enrolTicket key pairs =
    s.settled { s with tickets := insertByKey Ticket.id (newTicket key pairs) s.tickets } fun t =>
      recordBody (t.ticketValues key) := by
  rw [enrolTicket_goodPairs hk hn hx hc hd, (departureLater_iff departure).2 ⟨now, hn, hlater⟩]
  exact if_neg (not_le.2 hl)

end

/-- R102: the host fields of a new ticket are those of a body that passes its check. -/
theorem newTicket_fields {key : Nat} {pairs : List Pair} (hc : checkPairs 12 ticketEnrolFits [2, 3, 4] [] pairs = none) :
    some ((newTicket key pairs).route : Int) = carriedFor pairs 2 ∧ some ((newTicket key pairs).need : Int) = carriedFor pairs 4
      ∧ ((newTicket key pairs).lead : Int) = (carriedFor pairs 5).getD 0
      ∧ ((newTicket key pairs).power : Int) = (carriedFor pairs 6).getD 0 := by
  obtain ⟨route, h2⟩ := carriedFor_required hc (i := 2) (by simp)
  obtain ⟨need, h4⟩ := carriedFor_required hc (i := 4) (by simp)
  have fit2 := (within_iff 1 999 _).1 (carriedFor_fits hc h2)
  have fit4 := (within_iff 10 4000 _).1 (carriedFor_fits hc h4)
  exact ⟨natField_of_carried h2 (by omega) 0, natField_of_carried h4 (by omega) 0,
    natField_optional fun v hv => ((within_iff 0 120 v).1 (carriedFor_fits hc hv)).1,
    natField_optional fun v hv => ((within_iff 0 30 v).1 (carriedFor_fits hc hv)).1⟩

/-- Settles O20: the owner's answer branch by branch, and the fields of the record it creates. -/
theorem enrolTicketCreatesRecord : Obligations.EnrolTicketCreatesRecord := by
  intro key pairs s ht hlen h n k refused check
  have hrow : asRequest (.enrolTicket key pairs) = some (h, .enrol .ticket k pairs) := rfl
  have hn : (Request.enrol .ticket k pairs).body.length = n := length_pairBytes pairs
  have hform : (Request.enrol .ticket k pairs).formOk = true := by simpa [Request.formOk] using hlen
  have refuses {st : Status} {f : Nat} (ho : s.begun.enrolTicket k pairs = refuse st f s.begun) : refused st f :=
    exec_replied hrow ht hn (by omega) hform (by simp) ho
  refine ⟨fun hk => refuses (enrolTicket_badKey (s := s.begun) hk),
    fun hk hnow => refuses (enrolTicket_clockUnset (s := s.begun) hk hnow), fun now hk hnow =>
    ⟨fun hx => refuses (enrolTicket_exists (s := s.begun) hk hnow hx),
      fun hx st f hc => refuses (enrolTicket_badPairs (s := s.begun) hk hnow hx hc), fun hx hc departure hd =>
      ⟨fun hpast => refuses (enrolTicket_departed (s := s.begun) hk hnow hx hc hd hpast),
        fun hlater hl => refuses (enrolTicket_full (s := s.begun) hk hnow hx hc hd hlater hl), fun hlater hl => ?_⟩⟩⟩
  obtain ⟨t, hexec, hdone⟩ := exec_answered hrow ht hn (by omega) hform (by simp)
    (enrolTicket_settled (s := s.begun) hk hnow hx hc hd hlater hl) rfl rfl fun _ _ => rfl
  obtain ⟨hroute, hneed, hlead, hpower⟩ := newTicket_fields (key := k) hc
  exact ⟨newTicket k pairs, t, hexec, hdone, rfl, natField_eq hd 0, hroute, hneed, hlead, hpower, rfl, rfl, rfl, rfl, rfl, rfl⟩

end Sys2Proof.Machine
end

section
/-! PROOFS. The owner's answers to AMEND of a ticket, branch by branch: the checks in their order, and both sides of the link that
an assignment, an unassignment and a move write (R103, R104; O25). -/

namespace Sys2Proof.Machine

/-! ## The checks of an amendment (R103, R104) -/

section
variable {key : Nat} {pairs : List Pair} {s : State} {x : Ticket}

theorem amendTicket_notFound (hx : s.ticket? key = none) : s.amendTicket key pairs = refuse .notFound 0 s := by
  unfold State.amendTicket
  rw [hx, withRecord_none]

theorem amendTicket_ended (hx : s.ticket? key = some x) (he : x.state = .released ∨ x.state = .missed) :
    s.amendTicket key pairs = refuse .badState 0 s := by
  unfold State.amendTicket
  rw [hx, withRecord_some]
  exact if_pos he

/-- R103: a departure carried that is not later than the present time, or a present time that the clock does not hold. -/
theorem ticketRefusal_departed {d : Nat} (hd : carriedFor pairs 3 = some (d : Int))
    (hpast : ∀ now, s.now = some now → minutesFrom now d ≤ 0) : s.ticketRefusal key pairs = some (.badField, 3) := by
  unfold State.ticketRefusal
  rw [hd]
  refine if_pos ?_
  rw [Option.any_some, Int.toNat_natCast, Bool.not_eq_true', ← Bool.not_eq_true, departureLater_iff]
  rintro ⟨now, hnow, hlater⟩
  exact absurd hlater (not_lt.2 (hpast now hnow))

/-- R103: with no departure carried, or one that is later, the bus carried is what can be refused. -/
theorem ticketRefusal_later
    (hlater : ∀ v, carriedFor pairs 3 = some v → ∃ now, s.now = some now ∧ 0 < minutesFrom now v.toNat) :
    s.ticketRefusal key pairs = (carriedFor pairs 7).bind fun v => s.busRefusal key v.toNat := by
  unfold State.ticketRefusal
  refine if_neg ?_
  cases hd : carriedFor pairs 3 with
  | none => simp
  | some v => simp [(departureLater_iff v.toNat).2 (hlater v hd)]

theorem busRefusal_notFound {v : Nat} (hv : v ≠ 0) (hb : s.bus? v = none) : s.busRefusal key v = some (.notFound, 7) := by
  unfold State.busRefusal
  rw [if_neg hv, hb]

theorem busRefusal_conflict {v other : Nat} {b : Bus} (hv : v ≠ 0) (hb : s.bus? v = some b) (ho : b.ticket = some other)
    (hne : other ≠ key) : s.busRefusal key v = some (.conflict, 0) := by
  unfold State.busRefusal
  rw [if_neg hv, hb]
  exact if_pos (by simp [ho, hne])

theorem busRefusal_free {v : Nat} {b : Bus} (hv : v ≠ 0) (hb : s.bus? v = some b)
    (hfree : b.ticket = none ∨ b.ticket = some key) : s.busRefusal key v = none := by
  unfold State.busRefusal
  rw [if_neg hv, hb]
  refine if_neg ?_
  rcases hfree with h | h <;> simp [h]

variable (hx : s.ticket? key = some x) (he : x.state = .opened ∨ x.state = .assigned)
include hx he

theorem amendTicket_standing : s.amendTicket key pairs =
    withPairs (checkPairs 12 ticketFieldFits [] [] pairs) s
      (withPairs (s.ticketRefusal key pairs) s <|
        s.settled (s.ticketAmended x pairs) fun u => recordBody (u.ticketValues key)) := by
  unfold State.amendTicket
  rw [hx, withRecord_some]
  refine if_neg ?_
  rcases he with h | h <;> simp [h]

theorem amendTicket_badPairs {st : Status} {f : Nat} (hc : checkPairs 12 ticketFieldFits [] [] pairs = some (st, f)) :
    s.amendTicket key pairs = refuse st f s := by
  rw [amendTicket_standing hx he, hc, withPairs_some]

variable (hc : checkPairs 12 ticketFieldFits [] [] pairs = none)
include hc

theorem amendTicket_refused {st : Status} {f : Nat} (hr : s.ticketRefusal key pairs = some (st, f)) :
    s.amendTicket key pairs = refuse st f s := by
  rw [amendTicket_standing hx he, hc, withPairs_none, hr, withPairs_some]

theorem amendTicket_settled (hr : s.ticketRefusal key pairs = none) : s.amendTicket key pairs =
    s.settled (s.ticketAmended x pairs) fun u => recordBody (u.ticketValues key) := by
  rw [amendTicket_standing hx he, hc, withPairs_none, hr, withPairs_none]

end

/-! ## Both sides of the link (R104) -/

/-- The state with other tickets and buses. -/
def State.withLinks (tickets : List Ticket) (buses : List Bus) (s : State) : State :=
  { s with tickets := tickets, buses := buses }

/-- The tickets with the one of a key amended and then changed further. -/
def amendedTickets (key : Nat) (pairs : List Pair) (f : Ticket → Ticket) (l : List Ticket) : List Ticket :=
  l.map fun x => if x.id = key then f (x.amend pairs) else x

/-- The buses with one bus's ticket field cleared. -/
def clearedBuses (k : Nat) (l : List Bus) : List Bus := l.map fun b => if b.fleet = k then { b with ticket := none } else b

/-- The buses with one bus's ticket field naming a ticket. -/
def namedBuses (k id : Nat) (l : List Bus) : List Bus := l.map fun b => if b.fleet = k then { b with ticket := some id } else b

section
variable {key : Nat} {pairs : List Pair} {s : State} {x : Ticket} {tickets : List Ticket} {buses : List Bus}

theorem updTicket_amend : s.updTicket key (Ticket.amend pairs) = s.withLinks (amendedTickets key pairs id s.tickets) s.buses := by
  unfold State.updTicket
  rw [updateKey_eq_map]
  rfl

/-- An amended ticket changed once more. -/
theorem updTicket_amended (f : Ticket → Ticket) :
    (s.withLinks (amendedTickets key pairs id tickets) buses).updTicket key f =
      s.withLinks (amendedTickets key pairs f tickets) buses := by
  have hmap : updateKey Ticket.id key f (amendedTickets key pairs id tickets) = amendedTickets key pairs f tickets := by
    unfold amendedTickets
    rw [updateKey_eq_map, List.map_map]
    refine List.map_congr_left fun x _ => ?_
    by_cases h : x.id = key <;> simp [h]
  exact congrArg (fun l => s.withLinks l buses) hmap

theorem unlinkBus_withLinks (k : Option Nat) :
    (s.withLinks tickets buses).unlinkBus k = s.withLinks tickets (k.elim buses fun k => clearedBuses k buses) := by
  cases k with
  | none => rfl
  | some k => exact congrArg (s.withLinks tickets) (updateKey_eq_map ..)

theorem linkBus_withLinks (k id : Nat) :
    (s.withLinks tickets buses).linkBus k id = s.withLinks tickets (namedBuses k id buses) :=
  congrArg (s.withLinks tickets) (updateKey_eq_map ..)

variable (hid : x.id = key)
include hid

/-- R103: an amendment is the host fields written, and the bus taken where one is carried. -/
theorem ticketAmended_eq : s.ticketAmended x pairs =
    (carriedFor pairs 7).elim (s.withLinks (amendedTickets key pairs id s.tickets) s.buses) fun v =>
      (s.withLinks (amendedTickets key pairs id s.tickets) s.buses).busTaken x v.toNat := by
  unfold State.ticketAmended
  rw [hid, updTicket_amend]
  cases carriedFor pairs 7 <;> rfl

/-- R103: the bus field not carried. -/
theorem ticketAmended_fields (h7 : carriedFor pairs 7 = none) :
    s.ticketAmended x pairs = s.withLinks (amendedTickets key pairs id s.tickets) s.buses := by
  rw [ticketAmended_eq hid, h7, Option.elim_none]

/-- R104: no bus carried for a ticket that names none. -/
theorem ticketAmended_unassigned (h7 : carriedFor pairs 7 = some 0) (hb : x.bus = none) :
    s.ticketAmended x pairs = s.withLinks (amendedTickets key pairs id s.tickets) s.buses := by
  rw [ticketAmended_eq hid, h7, Option.elim_some]
  unfold State.busTaken
  rw [hb]
  rfl

/-- R104: unassignment. -/
theorem ticketAmended_unassign {y : Nat} (h7 : carriedFor pairs 7 = some 0) (hb : x.bus = some y) :
    s.ticketAmended x pairs =
      s.withLinks (amendedTickets key pairs (Ticket.leave .opened) s.tickets) (clearedBuses y s.buses) := by
  rw [ticketAmended_eq hid, h7, Option.elim_some]
  unfold State.busTaken
  rw [hb, hid]
  dsimp only
  rw [updTicket_amended, unlinkBus_withLinks]
  rfl

variable {v : Nat} (h7 : carriedFor pairs 7 = some (v : Int)) (hv : v ≠ 0)
include h7 hv

/-- R104: the bus carried that the ticket names already. -/
theorem ticketAmended_same (hb : x.bus = some v) :
    s.ticketAmended x pairs = s.withLinks (amendedTickets key pairs id s.tickets) s.buses := by
  rw [ticketAmended_eq hid, h7, Option.elim_some, Int.toNat_natCast]
  unfold State.busTaken
  rw [if_neg hv, if_pos hb]

/-- R104: assignment and move write the ticket, the bus it leaves and the bus it takes. -/
theorem ticketAmended_assign (hb : x.bus ≠ some v) :
    s.ticketAmended x pairs =
      s.withLinks (amendedTickets key pairs (Ticket.assign v) s.tickets)
        (namedBuses v key (x.bus.elim s.buses fun y => clearedBuses y s.buses)) := by
  rw [ticketAmended_eq hid, h7, Option.elim_some, Int.toNat_natCast]
  unfold State.busTaken
  rw [if_neg hv, if_neg hb, hid, unlinkBus_withLinks, updTicket_amended, linkBus_withLinks]

end

/-! ## The row -/

section
variable {key : Half} {pairs : List Pair} {s : State} (ht : s.takesRequests) (hmin : 1 ≤ pairs.length)
  (hlen : pairs.length ≤ 24)
include ht hmin hlen

/-- An AMEND of a ticket that its owner refuses. -/
theorem exec_amendTicket_refused {st : Status} {f : Nat} (ho : s.begun.amendTicket key.toNat pairs = refuse st f s.begun) :
    exec (.amendTicket key pairs) s = .next (s.replied (headOf 4#8 3#8 key) (5 * pairs.length) st f []) := by
  have hrow : asRequest (.amendTicket key pairs) = some (headOf 4#8 3#8 key, .amend .ticket key.toNat pairs) := rfl
  have hn : (Request.amend .ticket key.toNat pairs).body.length = 5 * pairs.length := length_pairBytes pairs
  have hform : (Request.amend .ticket key.toNat pairs).formOk = true := by simpa [Request.formOk] using ⟨hmin, hlen⟩
  exact exec_replied hrow ht hn (by omega) hform (by simp) ho

/-- An AMEND of a ticket that its owner settles. -/
theorem exec_amendTicket_done {tickets : List Ticket} {buses : List Bus}
    (ho : s.begun.amendTicket key.toNat pairs = s.begun.settled (s.begun.withLinks tickets buses) fun u =>
      recordBody (u.ticketValues key.toNat)) :
    ∃ t, exec (.amendTicket key pairs) s = .next t
      ∧ AnsweredDone s (headOf 4#8 3#8 key) (5 * pairs.length) (s.withLinks tickets buses)
          (fun u => recordBody (u.ticketValues key.toNat)) t := by
  have hrow : asRequest (.amendTicket key pairs) = some (headOf 4#8 3#8 key, .amend .ticket key.toNat pairs) := rfl
  have hn : (Request.amend .ticket key.toNat pairs).body.length = 5 * pairs.length := length_pairBytes pairs
  have hform : (Request.amend .ticket key.toNat pairs).formOk = true := by simpa [Request.formOk] using ⟨hmin, hlen⟩
  exact exec_answered (post := s.begun.withLinks tickets buses) hrow ht hn (by omega) hform (by simp) ho rfl rfl fun _ _ => rfl

end

/-- Settles O25: the checks in their order; an accepted amendment writes the ticket, the bus that it leaves and the bus that it
takes. -/
theorem amendTicketKeepsLinks : Obligations.AmendTicketKeepsLinks := by
  intro key pairs s ht hmin hlen h n k check refused done amended clear name
  have refuses {st : Status} {f : Nat} (ho : s.begun.amendTicket k pairs = refuse st f s.begun) : refused st f :=
    exec_amendTicket_refused ht hmin hlen ho
  refine ⟨fun hx => refuses (amendTicket_notFound (s := s.begun) hx),
    fun x hx => ⟨fun he => refuses (amendTicket_ended (s := s.begun) hx he),
      fun he => ⟨fun st f hc => refuses (amendTicket_badPairs (s := s.begun) hx he hc), fun hc => ⟨fun d hd hpast => ?_,
        fun hlater => ?_⟩⟩⟩⟩
  · exact refuses (amendTicket_refused (s := s.begun) hx he hc (ticketRefusal_departed (s := s.begun) hd hpast))
  · have hid : x.id = k := id_of_ticket? hx
    have hbus : s.begun.ticketRefusal k pairs = (carriedFor pairs 7).bind fun v => s.begun.busRefusal k v.toNat := by
      refine ticketRefusal_later (s := s.begun) fun v hv => ?_
      have hfit := (within_iff 0 94371839 v).1 (carriedFor_fits hc hv)
      exact hlater v.toNat (by rw [hv, Int.toNat_of_nonneg hfit.1])
    have settles {tickets : List Ticket} {buses : List Bus} (hr : s.begun.ticketRefusal k pairs = none)
        (ha : s.begun.ticketAmended x pairs = s.begun.withLinks tickets buses) : done tickets buses := by
      have ho := amendTicket_settled (s := s.begun) hx he hc hr
      rw [ha] at ho
      exact exec_amendTicket_done ht hmin hlen ho
    refine ⟨fun h7 => ?_, fun h7 => ?_, fun v hv h7 => ⟨fun hb => ?_, fun b hb => ⟨fun other ho hne => ?_, fun hfree => ?_⟩⟩⟩
    · exact settles (by rw [hbus, h7, Option.bind_none]) (ticketAmended_fields hid h7)
    · have hr : s.begun.ticketRefusal k pairs = none := by rw [hbus, h7]; rfl
      exact ⟨fun hb => settles hr (ticketAmended_unassigned hid h7 hb),
        fun y hb => settles hr (ticketAmended_unassign hid h7 hb)⟩
    · refine refuses (amendTicket_refused (s := s.begun) hx he hc ?_)
      rw [hbus, h7]
      exact busRefusal_notFound (s := s.begun) hv hb
    · refine refuses (amendTicket_refused (s := s.begun) hx he hc ?_)
      rw [hbus, h7]
      exact busRefusal_conflict (s := s.begun) hv hb ho hne
    · have hr : s.begun.ticketRefusal k pairs = none := by
        rw [hbus, h7]
        exact busRefusal_free (s := s.begun) hv hb hfree
      have assigned (hother : x.bus ≠ some v) := settles hr (ticketAmended_assign (s := s.begun) hid h7 hv hother)
      refine ⟨fun hsame => settles hr (ticketAmended_same hid h7 hv hsame), fun hnone => ?_, fun y hy hne => ?_⟩
      · have := assigned (by simp [hnone])
        rwa [hnone] at this
      · have := assigned (by simpa [hy] using hne)
        rwa [hy] at this

end Sys2Proof.Machine
end

section
/-! PROOFS. The assessment of ACTIVE pledges (R122, R123): what each is credited with, in the order in which they are served. -/

namespace Sys2Proof.Machine

/-! ## What is shared out in an order (R122) -/

/-- A pledge in its turn is credited with its committed power or with what those ahead of it leave. -/
theorem find?_shareOut {p : Pledge} (m : List Pledge) (l : List Pledge) (room : Nat) (h : p.id ∉ l.map Pledge.id) :
    (shareOut room (l ++ p :: m)).find? (fun d => d.1 == p.id) =
      some (p.id, min p.committed (room - (l.map Pledge.committed).sum)) := by
  induction l generalizing room with
  | nil => simp [shareOut]
  | cons q l ih =>
    rw [List.map_cons, List.mem_cons, not_or] at h
    have hroom : room - min q.committed room - (l.map Pledge.committed).sum =
        room - (q.committed + (l.map Pledge.committed).sum) := by omega
    rw [List.cons_append, shareOut, List.find?_cons_of_neg (by simpa using Ne.symm h.1), ih _ h.2, hroom, List.map_cons,
      List.sum_cons]

/-- A pledge that is not served is credited with nothing. -/
theorem find?_shareOut_eq_none {k : Nat} (l : List Pledge) (room : Nat) (h : k ∉ l.map Pledge.id) :
    (shareOut room l).find? (fun d => d.1 == k) = none := by
  induction l generalizing room with
  | nil => rfl
  | cons q l ih =>
    rw [List.map_cons, List.mem_cons, not_or] at h
    rw [shareOut, List.find?_cons_of_neg (by simpa using Ne.symm h.1), ih _ h.2]

/-! ## The order (R122) -/

section
variable {s : State}

theorem servedBefore_iff (p q : Pledge) :
    s.servedBefore p q = true ↔
      s.timeOrder p.start < s.timeOrder q.start ∨ (s.timeOrder p.start = s.timeOrder q.start ∧ p.id < q.id) := by
  simp [State.servedBefore]

theorem servedBefore_asymm (p q : Pledge) (h : s.servedBefore p q = true) : s.servedBefore q p = false := by
  rw [← Bool.not_eq_true, servedBefore_iff]
  rw [servedBefore_iff] at h
  omega

/-- Each pledge is served before all that follow it in the order. -/
theorem servedBefore_pairwise {l : List Pledge} (hl : (l.map Pledge.id).Nodup) :
    (sortBy s.servedBefore l).Pairwise fun p q => s.servedBefore p q = true := by
  have : Trans (fun p q => s.servedBefore p q = true) (fun p q => s.servedBefore p q = true)
      fun p q => s.servedBefore p q = true :=
    ⟨fun {p q r} h h' => by
      rw [servedBefore_iff] at h h' ⊢
      omega⟩
  rw [← List.isChain_iff_pairwise]
  refine (sortBy_isChain (first := fun p q => p.id ≠ q.id) (List.pairwise_map.1 hl)).imp fun p q h => ?_
  rcases h with h | ⟨h, hne⟩
  · exact h
  · rw [← Bool.not_eq_true, servedBefore_iff] at h
    rw [servedBefore_iff]
    omega

/-- R122: a pledge of a list that is shared out in the order is credited with its committed power, or with what those of the list
that are served before it leave. -/
theorem find?_shareOut_sorted {l : List Pledge} (hl : (l.map Pledge.id).Nodup) {p : Pledge} (hp : p ∈ l) (room : Nat) :
    (shareOut room (sortBy s.servedBefore l)).find? (fun d => d.1 == p.id) =
      some (p.id, min p.committed (room - ((l.filter fun q => s.servedBefore q p).map Pledge.committed).sum)) := by
  have hperm := sortBy_perm s.servedBefore l
  obtain ⟨ahead, after, hsplit⟩ := List.append_of_mem (hperm.mem_iff.2 hp)
  have hnodup : ((ahead ++ p :: after).map Pledge.id).Nodup := by
    rw [← hsplit]
    exact ((hperm.map Pledge.id).nodup_iff).2 hl
  have hid : p.id ∉ ahead.map Pledge.id := by
    rw [List.map_append, List.map_cons, List.nodup_append] at hnodup
    exact fun h => hnodup.2.2 p.id h p.id (List.mem_cons_self ..) rfl
  have hahead : (sortBy s.servedBefore l).filter (fun q => s.servedBefore q p) = ahead := by
    rw [hsplit]
    exact filter_before servedBefore_asymm (hsplit ▸ servedBefore_pairwise hl)
  have hsum := ((hperm.filter fun q => s.servedBefore q p).map Pledge.committed).sum_nat
  rw [hahead] at hsum
  rw [hsplit, find?_shareOut after ahead room hid, hsum]

/-! ## The credit of each pledge (R122) -/

/-- The ACTIVE pledges of a kind. -/
def State.assessedOf (s : State) (kind : PledgeKind) : List Pledge :=
  (s.pledges.filter fun p => p.state == .active).filter fun p => p.kind == kind

/-- R122: the power that the ACTIVE pledges of a kind share. -/
def State.sharedPower (s : State) (kind : PledgeKind) : Nat :=
  if s.run.state = .idle ∨ s.grid.stopLatch = true then 0
  else match kind with
    | .curtail => s.profile.feederLimit - s.alloc.baseLoad - (s.berths.map Berth.countedImport).sum
    | .exporting => (s.berths.map Berth.countedExport).sum

theorem mem_assessedOf {kind : PledgeKind} {p : Pledge} :
    p ∈ s.assessedOf kind ↔ p ∈ s.pledges ∧ p.state = .active ∧ p.kind = kind := by
  simp only [State.assessedOf, List.mem_filter, beq_iff_eq, and_assoc]

theorem unattended_iff : s.unattended = true ↔ s.run.state = .idle ∨ s.grid.stopLatch = true := by
  simp [State.unattended, State.stopInForce]

/-- R122: the deliveries of the minute, kind by kind. -/
theorem deliveries_eq : s.deliveries =
    shareOut (s.sharedPower .curtail) (sortBy s.servedBefore (s.assessedOf .curtail))
      ++ shareOut (s.sharedPower .exporting) (sortBy s.servedBefore (s.assessedOf .exporting)) := by
  unfold State.deliveries State.sharedPower
  simp only [unattended_iff]
  rfl

/-- R122: what the statement credits a pledge with is what those of its kind ahead of it leave of the power they share. -/
theorem creditFor_eq (p : Pledge) :
    s.creditFor p =
      min p.committed
        (s.sharedPower p.kind - (((s.assessedOf p.kind).filter fun q => s.servedBefore q p).map Pledge.committed).sum) := by
  have hahead : ((s.assessedOf p.kind).filter fun q => s.servedBefore q p) = s.pledges.filter fun q =>
      decide (q.state = .active ∧ q.kind = p.kind
        ∧ (s.timeOrder q.start < s.timeOrder p.start ∨ (s.timeOrder q.start = s.timeOrder p.start ∧ q.id < p.id))) := by
    unfold State.assessedOf
    rw [List.filter_filter, List.filter_filter]
    refine List.filter_congr fun q _ => ?_
    rw [Bool.eq_iff_iff]
    simp only [Bool.and_eq_true, beq_iff_eq, servedBefore_iff, decide_eq_true_eq]
    tauto
  rw [hahead]
  rfl

section
variable (hids : (s.pledges.map Pledge.id).Nodup)
include hids

theorem assessedOf_ids (kind : PledgeKind) : ((s.assessedOf kind).map Pledge.id).Nodup :=
  hids.sublist ((List.filter_sublist.trans List.filter_sublist).map Pledge.id)

/-- A pledge that is not an ACTIVE one of a kind has no delivery among those of the kind. -/
theorem id_notMem_assessedOf {kind : PledgeKind} {p : Pledge} (hp : p ∈ s.pledges) (hn : ¬ (p.state = .active ∧ p.kind = kind)) :
    p.id ∉ (sortBy s.servedBefore (s.assessedOf kind)).map Pledge.id := by
  rw [((sortBy_perm _ _).map Pledge.id).mem_iff]
  intro h
  obtain ⟨q, hq, hid⟩ := List.mem_map.1 h
  obtain ⟨hmem, hq⟩ := mem_assessedOf.1 hq
  obtain rfl := List.inj_on_of_nodup_map hids hmem hp hid
  exact hn hq

/-- R118, step 1: a pledge that is not ACTIVE is not assessed. -/
theorem assessIn_of_ne {p : Pledge} (hp : p ∈ s.pledges) (hstate : p.state ≠ .active) : p.assessIn s.deliveries = p := by
  unfold Pledge.assessIn
  rw [deliveries_eq, List.find?_append,
    find?_shareOut_eq_none _ _ (id_notMem_assessedOf hids hp fun h => hstate h.1),
    find?_shareOut_eq_none _ _ (id_notMem_assessedOf hids hp fun h => hstate h.1)]
  rfl

/-- R122: the delivery of an ACTIVE pledge. -/
theorem find?_deliveries {p : Pledge} (hp : p ∈ s.pledges) (hstate : p.state = .active) :
    s.deliveries.find? (fun d => d.1 == p.id) = some (p.id, s.creditFor p) := by
  have hfound := find?_shareOut_sorted (s := s) (assessedOf_ids hids p.kind) (mem_assessedOf.2 ⟨hp, hstate, rfl⟩)
    (s.sharedPower p.kind)
  rw [← creditFor_eq] at hfound
  rw [deliveries_eq, List.find?_append]
  cases hkind : p.kind with
  | curtail =>
    rw [hkind] at hfound
    rw [hfound]
    rfl
  | exporting =>
    rw [hkind] at hfound
    rw [find?_shareOut_eq_none _ _ (id_notMem_assessedOf hids hp fun h => by simp [hkind] at h), hfound]
    rfl

/-- R118, step 1, R123: an ACTIVE pledge is assessed with its credit. -/
theorem assessIn_active {p : Pledge} (hp : p ∈ s.pledges) (hstate : p.state = .active) :
    p.assessIn s.deliveries = p.assessed (s.creditFor p) := by
  unfold Pledge.assessIn
  rw [find?_deliveries hids hp hstate]
  unfold Pledge.assess Pledge.assessed
  dsimp only
  by_cases h : s.creditFor p < p.committed
  · simp [h]
  · simp [h, Nat.sub_eq_zero_of_le (not_lt.1 h)]

end

end

end Sys2Proof.Machine
end

section
/-! PROOFS. The pledge table at a minute event (R118 to R124): its steps one after another, pledge by pledge, and what they raise. -/

namespace Sys2Proof.Machine

/-! ## Steps that turn to every pledge -/

/-- The pledges changed in their places, with PLEDGE_COMPLETE and PLEDGE_SHORT raised where some pledge asks for it. -/
def State.turnPledges (f : Pledge → Pledge) (short complete : Pledge → Bool) (s : State) : State :=
  (({ s with pledges := s.pledges.map f } : State).raiseIf (s.pledges.any complete) .pledgeComplete).raiseIf
    (s.pledges.any short) .pledgeShort

/-- The flag of a cause, where it is raised. -/
def raisedBit (raised : Bool) (c : Cause) : BitVec 14 := if raised then causeBit c.number else 0

theorem raisedBit_or (a b : Bool) (c : Cause) : raisedBit (a || b) c = raisedBit a c ||| raisedBit b c := by
  cases a <;> cases b <;> simp [raisedBit]

theorem hasCause_raisedBit (raised : Bool) (c d : Cause) : hasCause (raisedBit raised c) d.number = (raised && decide (d = c)) := by
  cases raised
  · simp [raisedBit, hasCause]
  · exact (hasCause_causeBit c d).trans (Bool.true_and _).symm

theorem raiseIf_eq (raised : Bool) (c : Cause) (s : State) :
    s.raiseIf raised c =
      { s with attention := { s.attention with flags := s.attention.flags ||| raisedBit raised c } } := by
  cases raised
  · simp [State.raiseIf, raisedBit]
  · rfl

theorem turnPledges_eq (f : Pledge → Pledge) (short complete : Pledge → Bool) (s : State) :
    s.turnPledges f short complete =
      { s with
        pledges := s.pledges.map f
        attention :=
          { s.attention with
            flags :=
              s.attention.flags
                ||| (raisedBit (s.pledges.any complete) .pledgeComplete ||| raisedBit (s.pledges.any short) .pledgeShort) } } := by
  unfold State.turnPledges
  rw [raiseIf_eq, raiseIf_eq]
  dsimp only
  rw [BitVec.or_assoc]

/-- Some member asks for one of two things where some member asks for the first or some member asks for the second. -/
theorem any_or_eq {α : Type} (x y : α → Bool) (l : List α) : (l.any fun p => x p || y p) = (l.any x || l.any y) := by
  rw [Bool.eq_iff_iff]
  simp only [List.any_eq_true, Bool.or_eq_true, and_or_left, exists_or]

theorem any_congr_mem {α : Type} {x y : α → Bool} {l : List α} (h : ∀ p ∈ l, x p = y p) : l.any x = l.any y := by
  rw [Bool.eq_iff_iff, List.any_eq_true, List.any_eq_true]
  exact exists_congr fun p => and_congr_right fun hp => by rw [h p hp]

/-- Two steps are one, by what they make of each pledge. -/
theorem turnPledges_turnPledges (f g : Pledge → Pledge) (a b c d : Pledge → Bool) (s : State) :
    (s.turnPledges f a b).turnPledges g c d =
      s.turnPledges (fun p => g (f p)) (fun p => a p || c (f p)) fun p => b p || d (f p) := by
  have hany (x y : Pledge → Bool) : (s.pledges.any fun p => x p || y (f p)) = (s.pledges.any x || (s.pledges.map f).any y) := by
    rw [List.any_map, any_or_eq]
    rfl
  simp only [turnPledges_eq, hany, raisedBit_or, List.map_map]
  congr 2
  ac_rfl

/-- A step is what it makes of the pledges that there are. -/
theorem turnPledges_congr {f g : Pledge → Pledge} {a b c d : Pledge → Bool} {s : State}
    (h : ∀ p ∈ s.pledges, f p = g p ∧ a p = c p ∧ b p = d p) : s.turnPledges f a b = s.turnPledges g c d := by
  rw [turnPledges_eq, turnPledges_eq, List.map_congr_left fun p hp => (h p hp).1,
    any_congr_mem fun p hp => (h p hp).2.1, any_congr_mem fun p hp => (h p hp).2.2]

/-! ## The steps of a minute event (R118) -/

/-- R118, step 2, on one pledge. -/
def Pledge.completed (now : Nat) (p : Pledge) : Pledge :=
  if p.endsNow now then p.completeWith (if p.shortMinutes = 0 then .met else .short) else p

/-- R118, step 4, on one pledge. -/
def Pledge.activated (now : Nat) (p : Pledge) : Pledge := if p.beginsNow now then p.activate now else p

section
variable (s : State) (now : Nat)

theorem raiseIf_never {α : Type} (l : List α) (c : Cause) : s.raiseIf (l.any fun _ => false) c = s := by
  simp [State.raiseIf]

theorem assessPledges_eq : s.assessPledges =
    s.turnPledges (Pledge.assessIn s.deliveries)
      (fun p => p.shortMinutes == 0 && (p.assessIn s.deliveries).shortMinutes == 1) fun _ => false := by
  unfold State.turnPledges
  rw [raiseIf_never]
  rfl

theorem completePledges_eq : s.completePledges now =
    s.turnPledges (Pledge.completed now) (fun _ => false) (Pledge.endsNow now) := by
  unfold State.turnPledges
  rw [raiseIf_never]
  rfl

theorem bookedPledges_eq : s.bookedPledges now =
    s.turnPledges (s.bookedMinute now) (fun p => turnsShort p (s.bookedMinute now p))
      fun p => p.isLive && !(s.bookedMinute now p).isLive := rfl

theorem activatePledges_eq : s.activatePledges now =
    s.turnPledges (Pledge.activated now) (fun p => p.beginsNow now && earlier p.start now) fun _ => false := by
  unfold State.turnPledges
  rw [raiseIf_never]
  rfl

theorem forecastPledges_eq : s.forecastPledges =
    s.turnPledges s.reforecast (fun p => turnsShort p (s.reforecast p)) fun _ => false := by
  unfold State.turnPledges
  rw [raiseIf_never]
  rfl

/-- R119: what a BOOKED pledge becomes is read of the buses, the berths, the profile and the fallback. -/
theorem bookedMinute_turnPledges (f : Pledge → Pledge) (a b : Pledge → Bool) :
    (s.turnPledges f a b).bookedMinute now = s.bookedMinute now := by
  rw [turnPledges_eq]
  rfl

/-- R120: a forecast is read of the buses and the berths. -/
theorem reforecast_turnPledges (f : Pledge → Pledge) (a b : Pledge → Bool) :
    (s.turnPledges f a b).reforecast = s.reforecast := by
  rw [turnPledges_eq]
  rfl

end

/-! ## One pledge through the steps -/

section
variable {s : State} {now : Nat} {p : Pledge}

theorem windowOver_iff : p.windowOver now = true ↔ minutesFrom now p.windowEnd ≤ 0 := by
  rw [Pledge.windowOver, Bool.not_eq_true', ← Bool.not_eq_true, earlier_iff, not_lt]

theorem endsNow_iff : p.endsNow now = true ↔ p.state = .active ∧ minutesFrom now p.windowEnd ≤ 0 := by
  rw [Pledge.endsNow, Bool.and_eq_true, beq_iff_eq, windowOver_iff]

theorem beginsNow_iff : p.beginsNow now = true ↔ p.state = .armed ∧ minutesFrom now p.start ≤ 0 := by
  rw [Pledge.beginsNow, Bool.and_eq_true, beq_iff_eq, Bool.not_eq_true', ← Bool.not_eq_true, earlier_iff, not_lt]

theorem activate_eq : p.activate now = p.begun now := by
  unfold Pledge.activate Pledge.begun
  simp only [earlier_iff]

/-- R120: the forecast of a pledge. -/
theorem forecastOf_eq : s.forecastOf p = s.forecastNow p := by
  have hpower : sumOf (s.forecastShare p.duration) s.buses = s.forecastPower p := rfl
  unfold State.forecastOf State.forecastNow
  rw [hpower]
  cases hkind : p.kind with
  | curtail => simp
  | exporting =>
    dsimp only
    by_cases h : p.committed ≤ s.forecastPower p
    · simp [h]
    · simp [h, not_le.1 h]

theorem turnsShort_self : turnsShort p p = false := by
  unfold turnsShort
  cases p.forecast with
  | none => rfl
  | some f => cases f <;> rfl

theorem completed_of_ne (h : p.state ≠ .active) : p.endsNow now = false ∧ p.completed now = p := by
  have hends : p.endsNow now = false := by
    rw [← Bool.not_eq_true, endsNow_iff]
    exact fun he => h he.1
  exact ⟨hends, if_neg (by simp [hends])⟩

theorem bookedMinute_of_ne (h : p.state ≠ .booked) : s.bookedMinute now p = p := if_neg h

theorem activated_of_ne (h : p.state ≠ .armed) : p.beginsNow now = false ∧ p.activated now = p := by
  have hbegins : p.beginsNow now = false := by
    rw [← Bool.not_eq_true, beginsNow_iff]
    exact fun hb => h hb.1
  exact ⟨hbegins, if_neg (by simp [hbegins])⟩

theorem reforecast_of_ne (h : p.state ≠ .armed) : s.reforecast p = p := if_neg fun hf => h hf.2

end

end Sys2Proof.Machine
end

section
/-! PROOFS. The pledge table at a minute event (R118 to R124): the six steps as one change of every pledge, and what is raised. -/

namespace Sys2Proof.Machine

/-! ## What a minute event raises of a pledge -/

/-- R120 to R123: PLEDGE_SHORT is raised of the pledge: its first short minute, a start that has passed, or a forecast that turns
short. -/
def State.shortNow (s : State) (now : Nat) (p : Pledge) : Bool :=
  decide ((p.state = .active ∧ p.shortMinutes = 0 ∧ s.creditFor p < p.committed)
    ∨ (p.state ≠ .active ∧ (s.pledgeAfter now p).state = .active ∧ 0 < minutesFrom p.start now)
    ∨ (p.forecast ≠ some .shortForecast ∧ s.forecastNow p = .shortForecast
        ∧ (s.armsNow now p = true ∨ (p.state = .armed ∧ (s.pledgeAfter now p).state = .armed))))

/-- R119, R124: the pledge becomes COMPLETE. -/
def State.completesNow (s : State) (now : Nat) (p : Pledge) : Bool :=
  p.state != .complete && (s.pledgeAfter now p).state == .complete

/-! ## Steps 1 and 2: ACTIVE pledges -/

/-- R118, steps 1 and 2, on one pledge. -/
def State.closing (s : State) (now : Nat) (p : Pledge) : Pledge := (p.assessIn s.deliveries).completed now

/-- R123: step 1 enters the first short minute. -/
def State.closingShort (s : State) (p : Pledge) : Bool :=
  p.shortMinutes == 0 && (p.assessIn s.deliveries).shortMinutes == 1

section
variable {s : State} {now : Nat} {p : Pledge}

theorem closingSteps_eq (s : State) (now : Nat) : s.assessPledges.completePledges now =
    s.turnPledges (s.closing now) s.closingShort fun p => (p.assessIn s.deliveries).endsNow now := by
  rw [assessPledges_eq, completePledges_eq, turnPledges_turnPledges]
  simp only [Bool.or_false, Bool.false_or]
  rfl

variable (hids : (s.pledges.map Pledge.id).Nodup) (hp : p ∈ s.pledges)
include hids hp

theorem closing_of_ne (hstate : p.state ≠ .active) :
    s.closing now p = p ∧ s.closingShort p = false ∧ (p.assessIn s.deliveries).endsNow now = false := by
  have hassess := assessIn_of_ne hids hp hstate
  obtain ⟨hends, hcompleted⟩ := completed_of_ne (now := now) hstate
  refine ⟨?_, ?_, ?_⟩
  · unfold State.closing
    rw [hassess, hcompleted]
  · unfold State.closingShort
    rw [hassess]
    cases p.shortMinutes <;> rfl
  · rw [hassess, hends]

/-- R122 to R124: an ACTIVE pledge is assessed, and completed where its window has ended. -/
theorem closing_active (hstate : p.state = .active) : s.closing now p = s.pledgeAfter now p := by
  unfold State.closing
  rw [assessIn_active hids hp hstate]
  have hafter : s.pledgeAfter now p =
      if minutesFrom now p.windowEnd ≤ 0 then
        (p.assessed (s.creditFor p)).ended (if (p.assessed (s.creditFor p)).shortMinutes = 0 then .met else .short)
      else p.assessed (s.creditFor p) := by
    unfold State.pledgeAfter
    rw [hstate]
  have hends : (p.assessed (s.creditFor p)).endsNow now = true ↔ minutesFrom now p.windowEnd ≤ 0 := by
    rw [endsNow_iff]
    exact ⟨fun h => h.2, fun h => ⟨hstate, h⟩⟩
  unfold Pledge.completed
  rw [hafter]
  by_cases h : minutesFrom now p.windowEnd ≤ 0
  · rw [if_pos h, if_pos (hends.2 h)]
    rfl
  · rw [if_neg h, if_neg fun h' => h (hends.1 h')]

theorem closing_active_state (hstate : p.state = .active) :
    (s.closing now p).state = if minutesFrom now p.windowEnd ≤ 0 then .complete else .active := by
  rw [closing_active hids hp hstate]
  unfold State.pledgeAfter
  rw [hstate]
  dsimp only
  split
  · rfl
  · exact hstate

theorem closingShort_active (hstate : p.state = .active) : s.closingShort p = s.shortNow now p := by
  have harms : s.armsNow now p = false := by simp [State.armsNow, hstate]
  unfold State.closingShort State.shortNow
  rw [assessIn_active hids hp hstate, Bool.eq_iff_iff]
  simp only [Pledge.assessed, hstate, harms, Bool.and_eq_true, beq_iff_eq, decide_eq_true_eq]
  constructor
  · rintro ⟨hzero, hone⟩
    refine .inl ⟨trivial, hzero, ?_⟩
    by_contra h
    rw [if_neg h] at hone
    omega
  · rintro (⟨-, hzero, h⟩ | ⟨h, -⟩ | ⟨-, -, h | ⟨h, -⟩⟩)
    · rw [if_pos h]
      omega
    · exact absurd rfl h
    · cases h
    · cases h

theorem endsNow_active (hstate : p.state = .active) :
    (p.assessIn s.deliveries).endsNow now = s.completesNow now p := by
  have hafter := closing_active_state (now := now) hids hp hstate
  rw [closing_active hids hp hstate] at hafter
  unfold State.completesNow
  rw [assessIn_active hids hp hstate, hafter, hstate, Bool.eq_iff_iff, endsNow_iff]
  have hsame : (p.assessed (s.creditFor p)).state = .active ∧ (p.assessed (s.creditFor p)).windowEnd = p.windowEnd :=
    ⟨hstate, rfl⟩
  rw [hsame.1, hsame.2]
  by_cases h : minutesFrom now p.windowEnd ≤ 0 <;> simp [h]

end

/-! ## Steps 3 to 5: BOOKED and ARMED pledges -/

/-- R118, steps 3 to 5, on one pledge. -/
def State.opening (s : State) (now : Nat) (p : Pledge) : Pledge := s.reforecast ((s.bookedMinute now p).activated now)

/-- R119 to R121: what steps 3 to 5 raise of a pledge. -/
def State.openingShort (s : State) (now : Nat) (p : Pledge) : Bool :=
  (turnsShort p (s.bookedMinute now p) || ((s.bookedMinute now p).beginsNow now && earlier (s.bookedMinute now p).start now))
    || turnsShort ((s.bookedMinute now p).activated now) (s.opening now p)

section
variable {s : State} {now : Nat} {p : Pledge}

theorem openingSteps_eq (s : State) (now : Nat) : ((s.bookedPledges now).activatePledges now).forecastPledges =
    s.turnPledges (s.opening now) (s.openingShort now) fun p => p.isLive && !(s.bookedMinute now p).isLive := by
  rw [bookedPledges_eq, activatePledges_eq, turnPledges_turnPledges, forecastPledges_eq, reforecast_turnPledges,
    turnPledges_turnPledges]
  simp only [Bool.or_false]
  rfl

theorem opening_of_ne (hbooked : p.state ≠ .booked) (harmed : p.state ≠ .armed) :
    s.opening now p = p ∧ s.openingShort now p = false ∧ (p.isLive && !(s.bookedMinute now p).isLive) = false := by
  have hopening : s.opening now p = p := by
    unfold State.opening
    rw [bookedMinute_of_ne hbooked, (activated_of_ne harmed).2, reforecast_of_ne harmed]
  refine ⟨hopening, ?_, ?_⟩
  · unfold State.openingShort
    rw [hopening, bookedMinute_of_ne hbooked, (activated_of_ne harmed).1, (activated_of_ne harmed).2, turnsShort_self]
    rfl
  · rw [bookedMinute_of_ne hbooked]
    cases p.isLive <;> rfl

/-- R120, R121: an ARMED pledge begins at its start; until then an EXPORT pledge has its forecast computed. -/
theorem activated_armed (hstate : p.state = .armed) :
    s.reforecast (p.activated now) =
        (if minutesFrom now p.start ≤ 0 then p.begun now
        else if p.kind = .exporting then { p with forecast := some (s.forecastNow p) } else p)
      ∧ (((p.beginsNow now && earlier p.start now) || turnsShort (p.activated now) (s.reforecast (p.activated now))) = true ↔
        (minutesFrom now p.start ≤ 0 ∧ 0 < minutesFrom p.start now)
          ∨ (¬ minutesFrom now p.start ≤ 0 ∧ p.forecast ≠ some .shortForecast ∧ s.forecastNow p = .shortForecast)) := by
  have hbegins : p.beginsNow now = true ↔ minutesFrom now p.start ≤ 0 := by
    rw [beginsNow_iff]
    exact ⟨fun h => h.2, fun h => ⟨hstate, h⟩⟩
  by_cases h : minutesFrom now p.start ≤ 0
  · have hactivated : p.activated now = p.begun now := (if_pos (hbegins.2 h)).trans activate_eq
    have hbegun : (p.begun now).state ≠ .armed := by
      unfold Pledge.begun
      split <;> simp
    rw [hactivated, reforecast_of_ne hbegun, turnsShort_self, hbegins.2 h, if_pos h]
    simp [h, earlier_iff]
  · have hbegins' : p.beginsNow now = false := by rw [← Bool.not_eq_true, hbegins]; exact h
    have hactivated : p.activated now = p := if_neg (by simp [hbegins'])
    have hreforecast : s.reforecast p =
        if p.kind = .exporting then { p with forecast := some (s.forecastNow p) } else p := by
      unfold State.reforecast
      rw [forecastOf_eq]
      simp only [hstate, and_true]
    rw [hactivated, hbegins', if_neg h, hreforecast]
    refine ⟨rfl, ?_⟩
    by_cases hkind : p.kind = .exporting
    · rw [if_pos hkind]
      simp [turnsShort, h]
    · rw [if_neg hkind, turnsShort_self]
      simp [State.forecastNow, hkind, h]

theorem opening_armed (hstate : p.state = .armed) :
    s.opening now p = s.pledgeAfter now p ∧ s.openingShort now p = s.shortNow now p
      ∧ (p.isLive && !(s.bookedMinute now p).isLive) = s.completesNow now p := by
  have hbooked : s.bookedMinute now p = p := bookedMinute_of_ne (by simp [hstate])
  have harms : s.armsNow now p = false := by simp [State.armsNow, hstate]
  obtain ⟨hlater, hshort⟩ := activated_armed (s := s) (now := now) hstate
  have hafter : s.pledgeAfter now p =
      if minutesFrom now p.start ≤ 0 then p.begun now
      else if p.kind = .exporting then { p with forecast := some (s.forecastNow p) } else p := by
    unfold State.pledgeAfter
    rw [hstate]
  have hstate' : (s.pledgeAfter now p).state = if minutesFrom now p.start ≤ 0 then .active else .armed := by
    rw [hafter]
    split
    · unfold Pledge.begun
      split <;> rfl
    · split <;> exact hstate
  refine ⟨?_, ?_, ?_⟩
  · unfold State.opening
    rw [hbooked, hlater, hafter]
  · unfold State.openingShort State.opening State.shortNow
    rw [hbooked, turnsShort_self, Bool.false_or, Bool.eq_iff_iff, hshort, hstate', hstate, harms, decide_eq_true_iff]
    by_cases h : minutesFrom now p.start ≤ 0 <;> simp [h]
  · unfold State.completesNow
    rw [hbooked, hstate']
    by_cases h : minutesFrom now p.start ≤ 0 <;> simp [h, Pledge.isLive, hstate]

/-- A BOOKED pledge as its arming leaves it, with its forecast. -/
def State.armed (s : State) (p : Pledge) : Pledge := { p with state := .armed, forecast := some (s.forecastNow p) }

/-- R119: the four things that a minute event can make of a BOOKED pledge. -/
theorem bookedMinute_booked (hstate : p.state = .booked) : s.bookedMinute now p =
    if minutesFrom now p.windowEnd ≤ 0 then p.ended .lapsed
    else if s.profile.armingLead < minutesFrom now p.start then p
    else if s.supervision.fallback then p.ended .unattended
    else s.armed p := by
  unfold State.bookedMinute
  rw [if_pos hstate, forecastOf_eq]
  simp only [windowOver_iff, ← not_le (b := (s.profile.armingLead : Int)), ite_not]
  rfl

theorem pledgeAfter_booked (hstate : p.state = .booked) : s.pledgeAfter now p =
    if minutesFrom now p.windowEnd ≤ 0 then p.ended .lapsed
    else if s.profile.armingLead < minutesFrom now p.start then p
    else if s.supervision.fallback then p.ended .unattended
    else if minutesFrom now p.start ≤ 0 then p.begun now
    else s.armed p := by
  unfold State.pledgeAfter
  rw [hstate]
  rfl

theorem armsNow_iff : s.armsNow now p = true ↔
    p.state = .booked ∧ ¬ minutesFrom now p.windowEnd ≤ 0 ∧ ¬ s.profile.armingLead < minutesFrom now p.start
      ∧ ¬ s.supervision.fallback = true := by
  simp [State.armsNow]

/-- R119: a BOOKED pledge that the minute event does not arm is left as step 3 leaves it, with no raise at PLEDGE_SHORT. -/
theorem opening_unarmed (hstate : p.state = .booked) (harms : s.armsNow now p = false) {q : Pledge}
    (hbooked : s.bookedMinute now p = q) (hafter : s.pledgeAfter now p = q) (hq : q = p ∨ ∃ outcome, q = p.ended outcome) :
    s.opening now p = s.pledgeAfter now p ∧ s.openingShort now p = s.shortNow now p
      ∧ (p.isLive && !(s.bookedMinute now p).isLive) = s.completesNow now p := by
  obtain ⟨harmed, hactive, hshort, hlive⟩ : q.state ≠ .armed ∧ q.state ≠ .active ∧ turnsShort p q = false
      ∧ (p.isLive && !q.isLive) = (p.state != .complete && q.state == .complete) := by
    rcases hq with rfl | ⟨outcome, rfl⟩
    · simp [turnsShort_self, Pledge.isLive, hstate]
    · simp [turnsShort, Pledge.isLive, Pledge.ended, hstate]
  have hopening : s.opening now p = q := by
    unfold State.opening
    rw [hbooked, (activated_of_ne harmed).2, reforecast_of_ne harmed]
  refine ⟨hopening.trans hafter.symm, ?_, ?_⟩
  · unfold State.openingShort State.shortNow
    rw [hopening, hbooked, (activated_of_ne harmed).1, (activated_of_ne harmed).2, turnsShort_self, hshort, hafter]
    simp [hstate, harms, hactive]
  · unfold State.completesNow
    rw [hbooked, hafter, hlive]

/-- R119 to R121: a BOOKED pledge that the minute event arms, and begins where its start has come. -/
theorem opening_arming (harms : s.armsNow now p = true) :
    s.opening now p = s.pledgeAfter now p ∧ s.openingShort now p = s.shortNow now p
      ∧ (p.isLive && !(s.bookedMinute now p).isLive) = s.completesNow now p := by
  obtain ⟨hstate, hover, hlead, hfallback⟩ := armsNow_iff.1 harms
  have hbooked : s.bookedMinute now p = s.armed p := by
    rw [bookedMinute_booked hstate, if_neg hover, if_neg hlead, if_neg hfallback]
  have hafter : s.pledgeAfter now p = if minutesFrom now p.start ≤ 0 then p.begun now else s.armed p := by
    rw [pledgeAfter_booked hstate, if_neg hover, if_neg hlead, if_neg hfallback]
  have hstate' : (s.pledgeAfter now p).state = if minutesFrom now p.start ≤ 0 then .active else .armed := by
    rw [hafter]
    split
    · unfold Pledge.begun
      split <;> rfl
    · rfl
  obtain ⟨hlater, hshort⟩ := activated_armed (s := s) (now := now) (p := s.armed p) rfl
  have hsame : (if (s.armed p).kind = .exporting then { s.armed p with forecast := some (s.forecastNow (s.armed p)) }
      else s.armed p) = s.armed p := ite_self _
  have hforecast : (s.armed p).forecast = some (s.forecastNow (s.armed p)) := rfl
  have hstart : (s.armed p).start = p.start := rfl
  rw [hsame, hstart] at hlater
  rw [hforecast, hstart] at hshort
  have hturns : turnsShort p (s.armed p) = true ↔ p.forecast ≠ some .shortForecast ∧ s.forecastNow p = .shortForecast := by
    simp [turnsShort, State.armed]
  refine ⟨?_, ?_, ?_⟩
  · unfold State.opening
    rw [hbooked, hlater, hafter]
    rfl
  · unfold State.openingShort State.opening State.shortNow
    rw [hbooked, Bool.or_assoc, Bool.eq_iff_iff, Bool.or_eq_true, hstart, hshort, hturns, hstate', hstate, harms,
      decide_eq_true_iff]
    by_cases h : minutesFrom now p.start ≤ 0
    · simp only [h]
      simp
      tauto
    · simp only [h]
      simp
  · unfold State.completesNow Pledge.isLive
    rw [hbooked, hstate', hstate]
    split <;> rfl

theorem opening_booked (hstate : p.state = .booked) :
    s.opening now p = s.pledgeAfter now p ∧ s.openingShort now p = s.shortNow now p
      ∧ (p.isLive && !(s.bookedMinute now p).isLive) = s.completesNow now p := by
  cases harms : s.armsNow now p with
  | true => exact opening_arming harms
  | false =>
    have hbooked := bookedMinute_booked (s := s) (now := now) hstate
    have hafter := pledgeAfter_booked (s := s) (now := now) hstate
    by_cases hover : minutesFrom now p.windowEnd ≤ 0
    · rw [if_pos hover] at hbooked hafter
      exact opening_unarmed hstate harms hbooked hafter (.inr ⟨_, rfl⟩)
    rw [if_neg hover] at hbooked hafter
    by_cases hlead : s.profile.armingLead < minutesFrom now p.start
    · rw [if_pos hlead] at hbooked hafter
      exact opening_unarmed hstate harms hbooked hafter (.inl rfl)
    rw [if_neg hlead] at hbooked hafter
    by_cases hfallback : s.supervision.fallback = true
    · rw [if_pos hfallback] at hbooked hafter
      exact opening_unarmed hstate harms hbooked hafter (.inr ⟨_, rfl⟩)
    exact absurd (armsNow_iff.2 ⟨hstate, hover, hlead, hfallback⟩) (by simp [harms])

end

/-! ## The steps as one change of every pledge -/

/-- R118 to R124: the six steps, but for the yields, make of each pledge what its state before them says. -/
theorem pledgeSteps_eq {s : State} (now : Nat) (hids : (s.pledges.map Pledge.id).Nodup) :
    (((s.assessPledges.completePledges now).bookedPledges now).activatePledges now).forecastPledges =
      s.turnPledges (s.pledgeAfter now) (s.shortNow now) (s.completesNow now) := by
  have hopening (f : Pledge → Pledge) (a b : Pledge → Bool) :
      (s.turnPledges f a b).opening now = s.opening now
        ∧ (s.turnPledges f a b).openingShort now = s.openingShort now
        ∧ (s.turnPledges f a b).bookedMinute now = s.bookedMinute now := by
    have hbooked := bookedMinute_turnPledges s now f a b
    have hopening : (s.turnPledges f a b).opening now = s.opening now := by
      funext p
      unfold State.opening
      rw [hbooked, reforecast_turnPledges]
    refine ⟨hopening, ?_, hbooked⟩
    funext p
    unfold State.openingShort
    rw [hbooked, hopening]
  rw [openingSteps_eq, closingSteps_eq, (hopening ..).1, (hopening ..).2.1, (hopening ..).2.2, turnPledges_turnPledges]
  refine turnPledges_congr fun p hp => ?_
  by_cases hactive : p.state = .active
  · have hclosed := closing_active_state (now := now) hids hp hactive
    have hended : (s.closing now p).state ≠ .booked ∧ (s.closing now p).state ≠ .armed := by
      rw [hclosed]
      split <;> simp
    obtain ⟨h, hshort, hcompletes⟩ := opening_of_ne (s := s) (now := now) hended.1 hended.2
    rw [h, hshort, hcompletes, Bool.or_false, Bool.or_false]
    exact ⟨closing_active hids hp hactive, closingShort_active hids hp hactive, endsNow_active hids hp hactive⟩
  · obtain ⟨h, hshort, hcompletes⟩ := closing_of_ne (now := now) hids hp hactive
    rw [h, hshort, hcompletes, Bool.false_or, Bool.false_or]
    cases hstate : p.state with
    | booked => exact opening_booked hstate
    | armed => exact opening_armed hstate
    | active => exact absurd hstate hactive
    | complete =>
      obtain ⟨h, hshort, hcompletes⟩ := opening_of_ne (s := s) (now := now) (p := p) (by simp [hstate]) (by simp [hstate])
      have hafter : s.pledgeAfter now p = p := by
        unfold State.pledgeAfter
        rw [hstate]
      rw [h, hshort, hcompletes]
      exact ⟨hafter.symm, by simp [State.shortNow, State.armsNow, hafter, hstate], by simp [State.completesNow, hstate]⟩

/-- R118: the pledge table's part of a minute event. -/
theorem pledgesMinute_eq {s : State} {now : Nat} (hn : s.now = some now) (hids : (s.pledges.map Pledge.id).Nodup)
    (risk : List Nat) :
    s.pledgesMinute risk =
      (s.turnPledges (s.pledgeAfter now) (s.shortNow now) (s.completesNow now)).updateYield risk := by
  unfold State.pledgesMinute
  rw [hn]
  exact congrArg (State.updateYield risk) (pledgeSteps_eq now hids)

end Sys2Proof.Machine
end

section
/-! PROOFS. The ticket table at a minute event (R111): every ticket by its own state and its bus's, and the buses that lose a
ticket. -/

namespace Sys2Proof.Machine

/-! ## One ticket -/

/-- A ticket as its turn leaves it, before the gradings. -/
def State.ticketTurned (s : State) (now : Nat) (x : Ticket) : Ticket :=
  if s.missedNow now x then x.leave .missed
  else if s.releasedNow now x then { x.leave .released with readyAtRelease := some (s.readyNow x) }
  else x

/-- A ticket that ends in the minute event. -/
def State.endsTicket (s : State) (now : Nat) (x : Ticket) : Bool := s.missedNow now x || s.releasedNow now x

/-- A bus once every ticket has had its turn. -/
def State.busTurned (s : State) (now : Nat) (b : Bus) : Bus :=
  { b with ticket := if s.losesTicket now b then none else b.ticket }

section
variable {s : State} {now : Nat} {x : Ticket}

@[simp] theorem ticketTurned_id : (s.ticketTurned now x).id = x.id := by
  unfold State.ticketTurned
  split
  · rfl
  · split <;> rfl

theorem graceOver_eq : s.graceOver now x = decide (minutesFrom now x.departure + s.profile.grace ≤ 0) := rfl

theorem missedNow_iff : s.missedNow now x = true ↔
    s.graceOver now x = true
      ∧ (x.state = .opened ∨ (x.state = .assigned ∧ ∃ b, x.bus.bind s.bus? = some b ∧ b.state = .attached)) := by
  simp [State.missedNow, graceOver_eq, Option.any_eq_true]

theorem releasedNow_iff : s.releasedNow now x = true ↔
    earlier now x.departure = false ∧ x.state = .assigned ∧ ∃ b, x.bus.bind s.bus? = some b ∧ b.state = .away := by
  have hdep : decide (minutesFrom now x.departure ≤ 0) = true ↔ earlier now x.departure = false := by
    rw [← Bool.not_eq_true, earlier_iff, decide_eq_true_iff, not_lt]
  unfold State.releasedNow
  rw [Bool.and_eq_true, Bool.and_eq_true, hdep, beq_iff_eq, Option.any_eq_true, and_assoc]
  simp only [beq_iff_eq]

/-- R111: one ticket's turn. -/
theorem ticketMinute_eq : s.ticketMinute now x =
    if s.missedNow now x then s.missTicket x else if s.releasedNow now x then s.releaseTicket x else s := by
  unfold State.ticketMinute
  cases hstate : x.state with
  | opened => simp [missedNow_iff, releasedNow_iff, hstate]
  | assigned =>
    cases hbus : x.bus.bind s.bus? with
    | none => simp [missedNow_iff, releasedNow_iff, hstate, hbus]
    | some b =>
      cases hb : b.state with
      | attached => simp [missedNow_iff, releasedNow_iff, hstate, hbus, hb]
      | away => cases hd : earlier now x.departure <;> simp [missedNow_iff, releasedNow_iff, hstate, hbus, hb, hd]
  | released => simp [missedNow_iff, releasedNow_iff, hstate]
  | missed => simp [missedNow_iff, releasedNow_iff, hstate]

end

/-! ## What a turn reads -/

/-- What the ticket table reads of a bus at a minute event. -/
def Bus.turnView (b : Bus) : Nat × BusState × Option Nat := (b.fleet, b.state, b.held)

section
variable {s u : State} (hb : u.buses.map Bus.turnView = s.buses.map Bus.turnView) (hp : u.profile = s.profile) (now : Nat)
  (x : Ticket)

include hb in
theorem namedBus_turnView : (x.bus.bind u.bus?).map Bus.turnView = (x.bus.bind s.bus?).map Bus.turnView := by
  have found (v : State) (k : Nat) := findKey_view (key := Bus.fleet) (view := Bus.turnView) (shown := Prod.fst)
    (fun _ => rfl) k v.buses
  cases x.bus with
  | none => rfl
  | some k => exact (found u k).symm.trans ((congrArg _ hb).trans (found s k))

include hb in
theorem namedBus_state (state : BusState) : ((x.bus.bind u.bus?).any fun b => b.state == state) =
    (x.bus.bind s.bus?).any fun b => b.state == state := by
  rcases map_eq_map_cases (namedBus_turnView hb x) with ⟨h, h'⟩ | ⟨a, b, h, h', hab⟩
  · rw [h, h']
  · simp only [Bus.turnView, Prod.mk.injEq] at hab
    simp [h, h', hab]

include hb hp in
theorem missedNow_of_views : u.missedNow now x = s.missedNow now x := by
  unfold State.missedNow
  rw [hp, namedBus_state hb]

include hb in
theorem releasedNow_of_views : u.releasedNow now x = s.releasedNow now x := by
  unfold State.releasedNow
  rw [namedBus_state hb]

include hb in
theorem readyNow_of_views : u.readyNow x = s.readyNow x := by
  rw [readyNow_eq, readyNow_eq]
  rcases map_eq_map_cases (namedBus_turnView hb x) with ⟨h, h'⟩ | ⟨a, b, h, h', hab⟩
  · rw [h, h']
  · simp only [Bus.turnView, Prod.mk.injEq] at hab
    simp [h, h', hab]

end

/-! ## The tickets one after another -/

/-- The records once the tickets of a list have had their turns. -/
def State.turnTickets (s : State) (now : Nat) (l : List Ticket) : State :=
  { s with
    tickets := s.tickets.map fun x => if x ∈ l then s.ticketTurned now x else x
    buses := s.buses.map fun b =>
      { b with ticket := if l.any (fun x => x.bus == some b.fleet && s.endsTicket now x) then none else b.ticket }
    attention := { s.attention with flags := s.attention.flags ||| raisedBit (l.any (s.missedNow now)) .ticketMissed } }

section
variable {s : State} {now : Nat} {l : List Ticket} {x : Ticket}

theorem turnTickets_view : (s.turnTickets now l).buses.map Bus.turnView = s.buses.map Bus.turnView := by
  unfold State.turnTickets
  rw [List.map_map]
  rfl

/-- A ticket ended, with its bus's field cleared. -/
theorem endTicket_eq (f : Ticket → Ticket) (u : State) : (u.updTicket x.id f).unlinkBus x.bus =
    { u with
      tickets := u.tickets.map fun y => if y.id = x.id then f y else y
      buses := u.buses.map fun b => if x.bus = some b.fleet then { b with ticket := none } else b } := by
  rw [unlinkBus_eq]
  unfold State.updTicket
  rw [updateKey_eq_map]

/-- The buses that the next ticket to end leaves. -/
theorem buses_turnTickets_concat (hends : s.endsTicket now x = true) :
    ((s.turnTickets now l).buses.map fun b => if x.bus = some b.fleet then { b with ticket := none } else b) =
      (s.turnTickets now (l ++ [x])).buses := by
  unfold State.turnTickets
  rw [List.map_map]
  refine List.map_congr_left fun b _ => ?_
  simp only [Function.comp, List.any_append, List.any_cons, List.any_nil, Bool.or_false, hends, Bool.and_true]
  by_cases h : x.bus = some b.fleet <;> simp [h]

/-- R111: a ticket that neither ends changes nothing in its turn. -/
theorem turnTickets_standing (hmissed : s.missedNow now x = false) (hreleased : s.releasedNow now x = false) :
    s.turnTickets now (l ++ [x]) = s.turnTickets now l := by
  have hturned : s.ticketTurned now x = x := by simp [State.ticketTurned, hmissed, hreleased]
  have htickets (y : Ticket) : (if y ∈ l ++ [x] then s.ticketTurned now y else y) =
      if y ∈ l then s.ticketTurned now y else y := by
    by_cases hy : y = x
    · subst hy
      simp [hturned]
    · simp [hy]
  unfold State.turnTickets
  simp only [htickets]
  simp [State.endsTicket, hmissed, hreleased]

section
variable (hids : (s.tickets.map Ticket.id).Nodup) (hx : x ∈ s.tickets) (hl : x ∉ l)
include hids hx hl

/-- The tickets that the next ticket to end leaves. -/
theorem tickets_turnTickets_concat {f : Ticket → Ticket} (hf : f x = s.ticketTurned now x) :
    ((s.turnTickets now l).tickets.map fun y => if y.id = x.id then f y else y) = (s.turnTickets now (l ++ [x])).tickets := by
  unfold State.turnTickets
  rw [List.map_map]
  refine List.map_congr_left fun y hy => ?_
  have hid : (if y ∈ l then s.ticketTurned now y else y).id = y.id := by split <;> simp
  simp only [Function.comp, hid]
  by_cases h : y.id = x.id
  · obtain rfl := List.inj_on_of_nodup_map hids hy hx h
    simp [hl, hf]
  · have hne : y ≠ x := fun e => h (congrArg Ticket.id e)
    simp [h, hne]

/-- R111: one more turn. -/
theorem turnTickets_ticketMinute : (s.turnTickets now l).ticketMinute now x = s.turnTickets now (l ++ [x]) := by
  rw [ticketMinute_eq, missedNow_of_views turnTickets_view rfl, releasedNow_of_views turnTickets_view]
  cases hmissed : s.missedNow now x with
  | true =>
    have hturned : x.leave .missed = s.ticketTurned now x := by simp [State.ticketTurned, hmissed]
    rw [if_pos rfl]
    unfold State.missTicket
    rw [endTicket_eq, tickets_turnTickets_concat hids hx hl hturned,
      buses_turnTickets_concat (by simp [State.endsTicket, hmissed])]
    unfold State.raiseCause State.turnTickets
    dsimp only
    rw [List.any_append, raisedBit_or, ← BitVec.or_assoc]
    simp [hmissed, raisedBit]
  | false =>
    rw [if_neg Bool.false_ne_true]
    cases hreleased : s.releasedNow now x with
    | true =>
      have hready := readyNow_of_views (turnTickets_view (s := s) (now := now) (l := l)) x
      have hturned : ({ x.leave .released with readyAtRelease := some (s.readyNow x) } : Ticket) = s.ticketTurned now x := by
        simp [State.ticketTurned, hmissed, hreleased]
      rw [if_pos rfl]
      unfold State.releaseTicket
      rw [hready, endTicket_eq,
        tickets_turnTickets_concat (f := fun y => { y.leave .released with readyAtRelease := some (s.readyNow x) }) hids hx hl
          hturned,
        buses_turnTickets_concat (by simp [State.endsTicket, hreleased])]
      unfold State.turnTickets
      simp [hmissed]
    | false =>
      rw [if_neg Bool.false_ne_true, turnTickets_standing hmissed hreleased]

end

/-- R111: the tickets of a list, each with its turn. -/
theorem foldl_ticketMinute (hids : (s.tickets.map Ticket.id).Nodup) (l : List Ticket) (hn : l.Nodup)
    (hl : ∀ x ∈ l, x ∈ s.tickets) : l.foldl (State.ticketMinute now) s = s.turnTickets now l := by
  induction l using List.reverseRecOn with
  | nil =>
    unfold State.turnTickets
    simp [raisedBit]
  | append_singleton l x ih =>
    rw [List.nodup_append] at hn
    obtain ⟨hn, -, hne⟩ := hn
    have hx : x ∉ l := fun h => hne x h x (List.mem_singleton_self x) rfl
    rw [List.foldl_append, ih hn fun y hy => hl y (List.mem_append_left _ hy), List.foldl_cons, List.foldl_nil]
    exact turnTickets_ticketMinute hids (hl x (by simp)) hx

/-- R111: the ticket table's turn in a minute event. -/
theorem ticketsMinute_eq (hn : s.now = some now) (hids : (s.tickets.map Ticket.id).Nodup) :
    s.ticketsMinute =
      { s with
        tickets := s.tickets.map (s.ticketTurned now)
        buses := s.buses.map (s.busTurned now)
        attention :=
          { s.attention with flags := s.attention.flags ||| raisedBit (s.tickets.any (s.missedNow now)) .ticketMissed } } := by
  have htickets : (s.tickets.map fun x => if x ∈ s.tickets then s.ticketTurned now x else x) =
      s.tickets.map (s.ticketTurned now) := List.map_congr_left fun x hx => if_pos hx
  unfold State.ticketsMinute
  rw [hn]
  refine (foldl_ticketMinute hids s.tickets (List.Nodup.of_map _ hids) fun _ h => h).trans ?_
  unfold State.turnTickets
  rw [htickets]
  rfl

end

end Sys2Proof.Machine
end

section
/-! PROOFS. A minute event (R98): the bus table, the ticket table and the bus table once more, then the gradings, the pledge table and
what is handed on, each said once of the records it is given. -/

namespace Sys2Proof.Machine

/-! ## The bus table and the ticket table (R98) -/

/-- The records once the ticket table has had its turn in a minute event. -/
def State.turned (s : State) : State := s.refreshBuses.ticketsMinute

/-- The records that the gradings of a minute event read: the bus table has followed the ticket table. -/
def State.ticketed (s : State) : State := s.turned.refreshBuses

/-- What the two tables leave in `u` at a minute event taken in `s`, beside the buses, the berths and the request for a pass. -/
structure TablesLeave (s u : State) (now : Nat) : Prop where
  powered : u.powered = s.powered
  depot : u.depot = s.depot
  line : u.line = s.line
  run : u.run = s.run
  clock : u.clock = s.clock
  grid : u.grid = s.grid
  supervision : u.supervision = s.supervision
  profile : u.profile = s.profile
  store : u.store = s.store
  freeIndex : u.freeIndex = s.freeIndex
  pending : u.pending = s.pending
  baseLoad : u.alloc.baseLoad = s.alloc.baseLoad
  pledges : u.pledges = s.pledges
  reserve : u.reserve = s.reserve
  tickets : u.tickets = s.tickets.map (s.ticketTurned now)
  flags : u.attention.flags = s.attention.flags ||| raisedBit (s.tickets.any (s.missedNow now)) .ticketMissed
  armed : u.attention.armed = s.attention.armed

section
variable {s : State} {now : Nat} (hn : s.now = some now) (hids : (s.tickets.map Ticket.id).Nodup)

theorem refreshBuses_turnView (s : State) : s.refreshBuses.buses.map Bus.turnView = s.buses.map Bus.turnView := by
  rw [refreshBuses_spec, List.map_map]
  rfl

/-- R14 to R19: the bus table's second turn derives what the records that the event leaves derive. -/
theorem ticketed_deriveBus : s.ticketed.deriveBus = s.turned.deriveBus := by
  funext b
  refine deriveBus_of_views ?_ ?_ ?_ ?_ b
  · unfold State.ticketed
    rw [refreshBuses_spec]
  · unfold State.ticketed
    rw [refreshBuses_spec, map_view_map (withdrawn_limits _)]
  · unfold State.ticketed
    rw [refreshBuses_spec]
    rfl
  · unfold State.ticketed
    rw [refreshBuses_spec]

include hn hids

theorem turned_eq : s.turned =
    { s with
      buses := s.buses.map fun b => s.busTurned now (s.deriveBus b)
      berths := s.berths.map s.withdrawn
      tickets := s.tickets.map (s.ticketTurned now)
      attention :=
        { s.attention with flags := s.attention.flags ||| raisedBit (s.tickets.any (s.missedNow now)) .ticketMissed }
      alloc := { s.alloc with passRequested := s.alloc.passRequested || s.demandChanged } } := by
  have hview := refreshBuses_turnView s
  have hprofile : s.refreshBuses.profile = s.profile := by rw [refreshBuses_spec]
  have htickets : s.refreshBuses.tickets = s.tickets := by rw [refreshBuses_spec]
  have hnow : s.refreshBuses.now = some now := by rw [refreshBuses_spec]; exact hn
  have hmissed := funext (missedNow_of_views hview hprofile now)
  have hreleased := funext (releasedNow_of_views hview now)
  have hturned : s.refreshBuses.ticketTurned now = s.ticketTurned now := by
    funext x
    unfold State.ticketTurned
    rw [hmissed, hreleased, readyNow_of_views hview]
  have hbus : s.refreshBuses.busTurned now = s.busTurned now := by
    funext b
    unfold State.busTurned State.losesTicket
    rw [hmissed, hreleased, htickets]
  unfold State.turned
  rw [ticketsMinute_eq hnow (by rwa [htickets]), hturned, hbus, hmissed, htickets, refreshBuses_spec, List.map_map]
  rfl

/-- R98: what the two tables leave. -/
theorem ticketed_leaves : TablesLeave s s.ticketed now := by
  unfold State.ticketed
  rw [refreshBuses_spec, turned_eq hn hids]
  constructor <;> rfl

/-- R98: the buses after both turns. -/
theorem ticketed_buses : s.ticketed.buses = s.buses.map fun b => s.ticketed.deriveBus (s.busTurned now b) := by
  have hbuses : s.turned.buses = s.buses.map fun b => s.busTurned now (s.deriveBus b) := by rw [turned_eq hn hids]
  have hticketed : s.ticketed.buses = s.turned.buses.map s.turned.deriveBus := by
    unfold State.ticketed
    rw [refreshBuses_spec]
  rw [hticketed, hbuses, List.map_map, ticketed_deriveBus]
  rfl

/-! ## Withdrawals (R20, R93) -/

omit hn hids in
theorem lostExport_iff (s : State) (x : Bus) (n : Nat) :
    s.lostExport x = some (n, x.fleet) ↔
      (x.exportEligible = true ∧ (s.deriveBus x).exportEligible = false) ∧ x.berth = some n := by
  unfold State.lostExport
  cases x.exportEligible <;> cases (s.deriveBus x).exportEligible <;> simp

omit hn hids in
theorem losesExport_iff (s : State) (r : Berth) :
    s.losesExport r = true ↔ ∃ x ∈ s.buses, x.berth = some r.number ∧ r.busOccupant = some x.fleet
      ∧ x.exportEligible = true ∧ (s.deriveBus x).exportEligible = false := by
  unfold State.losesExport
  simp only [List.any_eq_true, Bool.and_eq_true, beq_iff_eq, lostExport_iff]
  exact exists_congr fun x => and_congr_right fun _ => by tauto

omit hn hids in
/-- R93: two withdrawals in one event are one, by either loss. -/
theorem withdrawn_withdrawn {s u : State} (hl : u.line = s.line) (r : Berth) :
    u.withdrawn (s.withdrawn r) =
      if r.decided < 0 ∧ (s.losesExport r = true ∨ u.losesExport r = true) then r.setTarget (s.grantInFlight r.number) 0 0
      else r := by
  have hgrant : u.grantInFlight r.number = s.grantInFlight r.number := by
    unfold State.grantInFlight
    rw [hl]
  by_cases hfirst : r.decided < 0 ∧ s.losesExport r = true
  · have hs : s.withdrawn r = r.setTarget (s.grantInFlight r.number) 0 0 := if_pos hfirst
    rw [hs, if_pos ⟨hfirst.1, .inl hfirst.2⟩]
    exact if_neg fun h => absurd h.1 (lt_irrefl 0)
  · have hs : s.withdrawn r = r := if_neg hfirst
    rw [hs]
    unfold State.withdrawn
    rw [hgrant]
    by_cases hsecond : r.decided < 0 ∧ u.losesExport r = true
    · rw [if_pos hsecond, if_pos ⟨hsecond.1, .inr hsecond.2⟩]
    · rw [if_neg hsecond, if_neg fun h => h.2.elim (fun h' => hfirst ⟨h.1, h'⟩) fun h' => hsecond ⟨h.1, h'⟩]

/-- A bus after both turns, looked up. -/
theorem ticketed_bus?_of_mem {x : Bus} (ht : s.tablesOk = true) (hx : x ∈ s.buses) :
    s.ticketed.bus? x.fleet = some (s.ticketed.deriveBus (s.busTurned now x)) := by
  have hfind := findKey_map (key := Bus.fleet) x.fleet (fun b => s.ticketed.deriveBus (s.busTurned now b)) (fun _ => rfl) s.buses
  rw [findKey_of_mem ((tablesOk_iff s).1 ht).1.1 hx] at hfind
  unfold State.bus?
  rw [ticketed_buses hn hids]
  exact hfind

/-- R20: the losses of eligibility at the bus table's second turn are those that the ticket table has brought about. -/
theorem turned_losesExport_iff (ht : s.tablesOk = true) (r : Berth) :
    s.turned.losesExport r = true ↔ ∃ x ∈ s.buses, x.berth = some r.number ∧ r.busOccupant = some x.fleet
      ∧ (s.deriveBus x).exportEligible = true ∧ ∃ y, s.ticketed.bus? x.fleet = some y ∧ y.exportEligible = false := by
  have hbuses : s.turned.buses = s.buses.map fun b => s.busTurned now (s.deriveBus b) := by rw [turned_eq hn hids]
  rw [losesExport_iff, hbuses, ← ticketed_deriveBus]
  simp only [List.mem_map, exists_exists_and_eq_and]
  refine exists_congr fun x => and_congr_right fun hx => ?_
  rw [ticketed_bus?_of_mem hn hids ht hx]
  simp only [Option.some.injEq, exists_eq_left']
  exact Iff.rfl

/-- R20, R93: the berths after both turns. -/
theorem ticketed_berths (ht : s.tablesOk = true) {t : State} (hbuses : t.buses = s.ticketed.buses) :
    s.ticketed.berths = s.berths.map fun r =>
      if r.decided < 0 ∧ s.minuteLosesExport t r = true then r.setTarget (s.grantInFlight r.number) 0 0 else r := by
  have hberths : s.turned.berths = s.berths.map s.withdrawn := by rw [turned_eq hn hids]
  have hline : s.turned.line = s.line := by rw [turned_eq hn hids]
  have hticketed : s.ticketed.berths = s.turned.berths.map s.turned.withdrawn := by
    unfold State.ticketed
    rw [refreshBuses_spec]
  have hbus : t.bus? = s.ticketed.bus? := by
    unfold State.bus?
    rw [hbuses]
  rw [hticketed, hberths, List.map_map]
  refine List.map_congr_left fun r _ => ?_
  rw [Function.comp_apply, withdrawn_withdrawn hline]
  have hloses : s.minuteLosesExport t r = true ↔ s.losesExport r = true ∨ s.turned.losesExport r = true := by
    rw [losesExport_iff, turned_losesExport_iff hn hids ht, ← exists_or]
    unfold State.minuteLosesExport
    simp only [List.any_eq_true, Option.any_eq_true, Bool.and_eq_true, Bool.or_eq_true, beq_iff_eq, Bool.not_eq_true', hbus]
    refine exists_congr fun x => ?_
    tauto
  simp only [hloses]

/-! ## The request for a pass (R17) -/

/-- R17: a request for a pass after both turns: a change of what demand or eligibility shows, in either. -/
theorem ticketed_passRequested (ht : s.tablesOk = true) {t : State} (hbuses : t.buses = s.ticketed.buses) :
    s.ticketed.alloc.passRequested = true ↔ s.alloc.passRequested = true
      ∨ ∃ x ∈ s.buses, (s.deriveBus x).demandView ≠ x.demandView
          ∨ ∃ y ∈ t.buses, y.fleet = x.fleet ∧ y.demandView ≠ (s.deriveBus x).demandView := by
  have hturned : s.turned.alloc.passRequested = (s.alloc.passRequested || s.demandChanged) := by rw [turned_eq hn hids]
  have hticketed : s.ticketed.alloc.passRequested = (s.turned.alloc.passRequested || s.turned.demandChanged) := by
    unfold State.ticketed
    rw [refreshBuses_spec]
  have hsecond : s.turned.demandChanged = true ↔ ∃ x ∈ s.buses,
      ∃ y ∈ t.buses, y.fleet = x.fleet ∧ y.demandView ≠ (s.deriveBus x).demandView := by
    have hturnedBuses : s.turned.buses = s.buses.map fun b => s.busTurned now (s.deriveBus b) := by rw [turned_eq hn hids]
    unfold State.demandChanged
    rw [List.any_eq_true, hturnedBuses, ← ticketed_deriveBus, hbuses, ticketed_buses hn hids]
    simp only [List.mem_map, exists_exists_and_eq_and, bne_iff_ne]
    refine exists_congr fun x => and_congr_right fun hx => ⟨fun h => ⟨x, hx, rfl, h⟩, ?_⟩
    rintro ⟨y, hy, hfleet, hview⟩
    obtain rfl : y = x := key_injOn_of_keysRising ((tablesOk_iff s).1 ht).1.1 hy hx hfleet
    exact hview
  rw [hticketed, hturned, Bool.or_eq_true, Bool.or_eq_true, hsecond, or_assoc]
  unfold State.demandChanged
  simp only [List.any_eq_true, bne_iff_ne, and_or_left, exists_or]

end

end Sys2Proof.Machine
end

section
/-! PROOFS. What follows the two tables in a minute event: gradings, pledge table, commitments, ceilings and raises (R80, R98, R108,
R118 to R128); with it, all that a minute event leaves (`MinuteTaken`). -/

namespace Sys2Proof.Machine

/-! ## Gradings and the pledge table -/

/-- R108, R109: the gradings of an event. -/
theorem regrade_eq (s : State) : s.regrade =
    { s with
      tickets := s.tickets.map s.gradeTicket
      attention :=
        { s.attention with flags := s.attention.flags ||| raisedBit (!s.newlyAtRisk.isEmpty) .ticketAtRisk } } := by
  unfold State.regrade
  rw [raiseIf_eq]

/-- The flags that the gradings and the pledge table of a minute event raise. -/
def State.minuteFlags (s : State) (now : Nat) : BitVec 14 :=
  raisedBit (!s.newlyAtRisk.isEmpty) .ticketAtRisk
    ||| (raisedBit (s.pledges.any (s.completesNow now)) .pledgeComplete
      ||| raisedBit (s.pledges.any (s.shortNow now)) .pledgeShort)

/-- The records graded, with the pledge table's turn taken. -/
def State.assessedRecords (s : State) (now : Nat) : State :=
  { s with
    tickets := s.tickets.map s.gradeTicket
    pledges := s.pledges.map (s.pledgeAfter now)
    attention := { s.attention with flags := s.attention.flags ||| s.minuteFlags now } }

theorem pledgesMinute_regrade {s : State} {now : Nat} (hn : s.now = some now) (hids : (s.pledges.map Pledge.id).Nodup) :
    s.regrade.pledgesMinute s.newlyAtRisk = (s.assessedRecords now).updateYield s.newlyAtRisk := by
  have hgraded : s.regrade.now = some now ∧ (s.regrade.pledges.map Pledge.id).Nodup := by
    rw [regrade_eq]
    exact ⟨hn, hids⟩
  rw [pledgesMinute_eq hgraded.1 hgraded.2, turnPledges_eq, regrade_eq]
  dsimp only
  rw [BitVec.or_assoc]
  rfl

/-- What a minute event leaves in `t` of the records `u` that its two tables have left: everything else is as in `u`. -/
structure MinuteLeaves (before u t : State) (now : Nat) : Prop where
  powered : t.powered = u.powered
  depot : t.depot = u.depot
  line : t.line = u.line
  run : t.run = u.run
  clock : t.clock = u.clock
  grid : t.grid = u.grid
  supervision : t.supervision = u.supervision
  profile : t.profile = u.profile
  store : t.store = u.store
  freeIndex : t.freeIndex = u.freeIndex
  pending : t.pending = u.pending
  baseLoad : t.alloc.baseLoad = u.alloc.baseLoad
  buses : t.buses = u.buses
  berths : t.berths = u.berths
  tickets : t.tickets = u.tickets.map u.gradeTicket
  pledges : t.pledges = u.pledges.map (u.pledgeAfter now)
  yieldList : t.reserve.yieldList = ({ t with reserve := u.reserve } : State).updatedYields u.newlyAtRisk
  readinessYield : t.reserve.readinessYield = readinessYield t.reserve.yieldList t.pledges
  flags : t.attention.flags = u.attention.flags ||| u.minuteFlags now
  armed : t.attention.armed = (u.attention.armed || (before.faultedCount != 0 && t.faultedCount == 0))
  pass : t.alloc.passRequested = (u.alloc.passRequested || t.pledges.any Pledge.isExporting || before.passDue t)

/-- The end of a minute event, with the request that an ACTIVE EXPORT pledge makes (R80). -/
theorem minuteLeaves_finishEvent (before u : State) (now : Nat) :
    MinuteLeaves before u
      (({ (u.assessedRecords now).updateYield u.newlyAtRisk with
          alloc :=
            { u.alloc with
              passRequested := u.alloc.passRequested || (u.pledges.map (u.pledgeAfter now)).any Pledge.isExporting } } :
        State).finishEvent before) now := by
  rw [finishEvent_spec]
  constructor <;> rfl

/-- A request for a pass made under a condition. -/
theorem requestPassIf_eq (asked : Bool) (s : State) : (if asked then s.requestPass else s) =
    { s with alloc := { s.alloc with passRequested := s.alloc.passRequested || asked } } := by
  cases asked
  · simp
  · simp [State.requestPass]

/-- R98: a minute event, from the records that its two tables leave. -/
theorem takeMinute_leaves {s : State} {now : Nat} (before : State) (hn : s.ticketed.now = some now)
    (hids : (s.ticketed.pledges.map Pledge.id).Nodup) : MinuteLeaves before s.ticketed (s.takeMinute before) now := by
  have htaken : s.takeMinute before =
      (if (s.ticketed.regrade.pledgesMinute s.ticketed.newlyAtRisk).pledges.any Pledge.isExporting then
          (s.ticketed.regrade.pledgesMinute s.ticketed.newlyAtRisk).requestPass
        else s.ticketed.regrade.pledgesMinute s.ticketed.newlyAtRisk).finishEvent before := rfl
  rw [htaken, requestPassIf_eq, pledgesMinute_regrade hn hids]
  exact minuteLeaves_finishEvent before s.ticketed now

/-! ## The tickets and their grades (R108, R111) -/

section
variable {s u : State} {now : Nat} {x : Ticket}

theorem gradeTicket_of_unassigned (h : x.isAssigned = false) : s.gradeTicket x = x :=
  if_neg (by simp [h])

theorem gradeTicket_isAssigned : (s.gradeTicket x).isAssigned = x.isAssigned := by
  unfold State.gradeTicket
  split
  · split <;> rfl
  · rfl

/-- R109, R111: a ticket's turn and then its grading. -/
theorem gradeTicket_ticketTurned : u.gradeTicket (s.ticketTurned now x) = s.ticketAfter u now x := by
  unfold State.ticketTurned State.ticketAfter
  split
  · exact gradeTicket_of_unassigned rfl
  · split
    · rw [gradeTicket_of_unassigned rfl, readyNow_eq]
      rfl
    · rfl

/-- R108: a ticket is newly AT_RISK where its grade was another before its turn and is AT_RISK after its grading. -/
theorem newlyAtRisk_turned :
    ((s.ticketTurned now x).grade != some .atRisk && (s.ticketAfter u now x).isAssigned
        && (s.ticketAfter u now x).grade == some .atRisk) =
      (x.grade != some .atRisk && (s.ticketAfter u now x).grade == some .atRisk) := by
  unfold State.ticketTurned State.ticketAfter
  split
  · simp
  · split
    · simp
    · rw [gradeTicket_isAssigned]
      cases h : x.isAssigned with
      | true => rw [Bool.and_true]
      | false =>
        rw [gradeTicket_of_unassigned h]
        cases hgrade : x.grade == some .atRisk <;> simp [bne, hgrade]

/-- R108: the tickets that a minute event finds newly AT_RISK. -/
theorem newlyAtRisk_eq (hx : u.tickets = s.tickets.map (s.ticketTurned now)) : u.newlyAtRisk =
    (s.tickets.filter fun x => x.grade != some .atRisk && (s.ticketAfter u now x).grade == some .atRisk).map Ticket.id := by
  unfold State.newlyAtRisk
  rw [hx, List.filter_map, List.map_map]
  have hid : Ticket.id ∘ s.ticketTurned now = Ticket.id := funext fun _ => ticketTurned_id
  rw [hid]
  congr 1
  refine List.filter_congr fun x _ => ?_
  rw [Function.comp_apply, gradeTicket_ticketTurned]
  exact newlyAtRisk_turned

end

/-! ## What the pledge table reads (R118 to R124) -/

/-- Two states that hold what the pledge table reads at a minute event. -/
structure SamePledgeTurn (u v : State) : Prop where
  pledges : u.pledges = v.pledges
  buses : u.buses = v.buses
  berths : u.berths = v.berths
  clock : u.clock = v.clock
  profile : u.profile = v.profile
  run : u.run = v.run
  grid : u.grid = v.grid
  supervision : u.supervision = v.supervision
  baseLoad : u.alloc.baseLoad = v.alloc.baseLoad

namespace SamePledgeTurn

variable {u v : State} (h : SamePledgeTurn u v)
include h

theorem creditFor : u.creditFor = v.creditFor := by
  have horder : u.timeOrder = v.timeOrder := by
    funext time
    unfold State.timeOrder State.now
    rw [h.clock]
  funext p
  unfold State.creditFor
  rw [horder, h.pledges, h.run, h.grid, h.profile, h.baseLoad, h.berths]

theorem forecastNow : u.forecastNow = v.forecastNow := by
  have hberth : u.berthOf = v.berthOf := by
    funext b
    unfold State.berthOf State.berth?
    rw [h.berths]
  funext p
  unfold State.forecastNow State.forecastPower
  rw [h.buses, hberth]

theorem armsNow (now : Nat) : u.armsNow now = v.armsNow now := by
  funext p
  unfold State.armsNow
  rw [h.profile, h.supervision]

theorem pledgeAfter (now : Nat) : u.pledgeAfter now = v.pledgeAfter now := by
  funext p
  unfold State.pledgeAfter
  rw [h.profile, h.supervision, h.forecastNow, h.creditFor]

end SamePledgeTurn

/-! ## What a minute event raises -/

/-- The four causes that a minute event can raise. -/
theorem minuteRaises_iff (s u : State) (now : Nat) (c : Cause) : s.minuteRaises u now c ↔
    (c = .ticketMissed ∧ s.minuteRaises u now .ticketMissed) ∨ (c = .ticketAtRisk ∧ s.minuteRaises u now .ticketAtRisk)
      ∨ (c = .pledgeComplete ∧ s.minuteRaises u now .pledgeComplete)
      ∨ (c = .pledgeShort ∧ s.minuteRaises u now .pledgeShort) := by
  cases c <;> simp [State.minuteRaises]

section
variable {s t : State} {now : Nat}

/-- The flags that a minute event leaves. -/
theorem hasCause_minuteFlags (c : Cause) :
    hasCause (s.minuteFlags now) c.number = true ↔
      (c = .ticketAtRisk ∧ s.newlyAtRisk ≠ []) ∨ (c = .pledgeComplete ∧ ∃ p ∈ s.pledges, s.completesNow now p = true)
        ∨ (c = .pledgeShort ∧ ∃ p ∈ s.pledges, s.shortNow now p = true) := by
  unfold State.minuteFlags
  simp only [hasCause_or, hasCause_raisedBit, Bool.or_eq_true, Bool.and_eq_true, decide_eq_true_eq, Bool.not_eq_true',
    List.isEmpty_eq_false_iff, List.any_eq_true, and_comm]

end

/-! ## All that a minute event leaves -/

/-- R108, R111, R119 to R124: the flags that a minute event sets. -/
theorem MinuteLeaves.hasCause_iff {before s u t : State} {now : Nat} (hl : MinuteLeaves before u t now)
    (hu : TablesLeave s u now) (hafter : s.ticketAfter t now = s.ticketAfter u now)
    (hread : SamePledgeTurn { t with pledges := s.pledges } u) (c : Cause) :
    hasCause t.attention.flags c.number = true ↔
      hasCause s.attention.flags c.number = true ∨ s.minuteRaises { t with pledges := s.pledges } now c := by
  have hmissed : (∃ x ∈ s.tickets, s.missedNow now x = true) ↔
      s.minuteRaises { t with pledges := s.pledges } now .ticketMissed := Iff.rfl
  have hrisk : u.newlyAtRisk ≠ [] ↔ s.minuteRaises { t with pledges := s.pledges } now .ticketAtRisk := by
    have hafter' : s.ticketAfter { t with pledges := s.pledges } now = s.ticketAfter t now := rfl
    unfold State.minuteRaises
    rw [newlyAtRisk_eq hu.tickets, hafter', hafter]
    simp [List.filter_eq_nil_iff]
  have hcomplete : (∃ p ∈ u.pledges, u.completesNow now p = true) ↔
      s.minuteRaises { t with pledges := s.pledges } now .pledgeComplete := by
    unfold State.minuteRaises
    rw [hread.pledgeAfter, hu.pledges]
    simp [State.completesNow]
  have hshort : (∃ p ∈ u.pledges, u.shortNow now p = true) ↔
      s.minuteRaises { t with pledges := s.pledges } now .pledgeShort := by
    unfold State.minuteRaises
    rw [hread.pledgeAfter, hread.creditFor, hread.forecastNow, hread.armsNow, hu.pledges]
    simp only [State.shortNow, decide_eq_true_eq]
  rw [hl.flags, hu.flags, hasCause_or, hasCause_or, Bool.or_eq_true, Bool.or_eq_true, hasCause_minuteFlags, minuteRaises_iff,
    ← hmissed, ← hrisk, ← hcomplete, ← hshort, hasCause_raisedBit, Bool.and_eq_true, decide_eq_true_iff, List.any_eq_true,
    or_assoc, and_comm (a := ∃ x, _)]

/-- R98, R111, R118 to R128: a minute event with the clock at its new time leaves what the statement says of it. -/
theorem takeMinute_taken {s : State} {now : Nat} (before : State) (hn : s.now = some now) (ht : s.tablesOk = true) :
    MinuteTaken before s (s.takeMinute before) now := by
  have hrising := (tablesOk_iff s).1 ht
  have hids : (s.tickets.map Ticket.id).Nodup := ((keysRising_iff _).1 hrising.2.2.1.1).imp fun h => ne_of_lt h
  have hpids : (s.pledges.map Pledge.id).Nodup := ((keysRising_iff _).1 hrising.2.2.2.1).imp fun h => ne_of_lt h
  have hu := ticketed_leaves hn hids
  have hnow : s.ticketed.now = some now := by
    unfold State.now
    rw [hu.clock]
    exact hn
  have hl : MinuteLeaves before s.ticketed (s.takeMinute before) now :=
    takeMinute_leaves before hnow (by rwa [hu.pledges])
  have hceilings := takeMinute_ceilings s before
  have hcommitments := (takeMinute_derived before s).commitments
  generalize s.takeMinute before = t at hl hceilings hcommitments ⊢
  have hgrade : t.gradeTicket = s.ticketed.gradeTicket := funext fun x => gradeTicket_congr hl.buses hl.berths hl.clock x
  have hafter : s.ticketAfter t now = s.ticketAfter s.ticketed now := by
    funext x
    unfold State.ticketAfter
    rw [hgrade]
  have hderive : t.deriveBus = s.ticketed.deriveBus := by
    have hterms : t.tickets.map Ticket.terms = s.ticketed.tickets.map Ticket.terms := by
      rw [hl.tickets, map_view_map (gradeTicket_terms _)]
    have hnow' : t.now = s.ticketed.now := by
      unfold State.now
      rw [hl.clock]
    exact funext (deriveBus_of_views hterms (by rw [hl.berths]) hnow' hl.profile)
  have hread : SamePledgeTurn { t with pledges := s.pledges } s.ticketed :=
    ⟨hu.pledges.symm, hl.buses, hl.berths, hl.clock, hl.profile, hl.run, hl.grid, hl.supervision, hl.baseLoad⟩
  refine ⟨hl.powered.trans hu.powered, hl.depot.trans hu.depot, hl.line.trans hu.line, hl.run.trans hu.run,
    hl.clock.trans hu.clock, hl.grid.trans hu.grid, hl.supervision.trans hu.supervision, hl.profile.trans hu.profile,
    hl.store.trans hu.store, hl.freeIndex.trans hu.freeIndex, hl.pending.trans hu.pending, hl.baseLoad.trans hu.baseLoad,
    ?_, ?_, ?_, ?_, ?_, hl.readinessYield, hcommitments, hceilings, hl.hasCause_iff hu hafter hread, ?_, ?_⟩
  · rw [hl.buses, ticketed_buses hn hids, hderive]
    rfl
  · rw [hl.tickets, hu.tickets, List.map_map, hafter]
    exact List.map_congr_left fun x _ => gradeTicket_ticketTurned
  · rw [hl.pledges, hu.pledges, hread.pledgeAfter]
  · rw [hl.berths, ticketed_berths hn hids ht hl.buses]
  · rw [hl.yieldList, newlyAtRisk_eq hu.tickets, hafter, hu.reserve]
  · rw [hl.armed, hu.armed]
  · rw [hl.pass, Bool.or_eq_true, Bool.or_eq_true, ticketed_passRequested hn hids ht hl.buses]
    simp only [List.any_eq_true, Pledge.isExporting, Bool.and_eq_true, beq_iff_eq]
    exact iff_of_eq (by ac_rfl)

end Sys2Proof.Machine
end

section
/-! PROOFS. MINUTE_EVENT and SET_CLOCK (R97 to R100, R111, R112, R118 to R128; O38, O39): depot times compared, the clock advanced or
set, and the minute event that either is. -/

namespace Sys2Proof.Machine

/-! ## Depot times (R97, R98) -/

/-- R98: the next minute, with the wrap after day 65535. -/
theorem next_eq {time : DepotMoment} (hm : time.minute < 1440) (hd : time.day < 65536) :
    time.next =
      if time.minute < 1439 then { day := time.day, minute := time.minute + 1 }
      else if time.day < 65535 then { day := time.day + 1, minute := 0 }
      else { day := 0, minute := 0 } := by
  unfold DepotMoment.next
  by_cases hminute : time.minute < 1439
  · rw [if_pos hminute, if_pos (by omega)]
  · rw [if_neg hminute, if_neg (by omega)]
    by_cases hday : time.day < 65535
    · rw [if_pos hday, if_pos (by omega)]
    · rw [if_neg hday, if_neg (by omega)]

section
variable {a b : DepotMoment} (ha : a.minute < 1440) (hb : b.minute < 1440)
include ha hb

/-- R97: the minutes between two depot times, across the wrap where they stand on its two sides. -/
theorem minutesFrom_total : minutesFrom a.total b.total =
    if a.day = 65535 ∧ b.day = 0 then 1440 + (b.minute : Int) - a.minute
    else if a.day = 0 ∧ b.day = 65535 then (b.minute : Int) - a.minute - 1440
    else ((b.day : Int) - a.day) * 1440 + b.minute - a.minute := by
  have hda : a.total / 1440 = a.day := by unfold DepotMoment.total; omega
  have hdb : b.total / 1440 = b.day := by unfold DepotMoment.total; omega
  unfold minutesFrom
  rw [hda, hdb]
  unfold DepotMoment.total
  split
  · omega
  · split <;> omega

/-- R97: which of two depot times is the earlier. -/
theorem earlier_total_iff : earlier a.total b.total = true ↔
    (a.day = 65535 ∧ b.day = 0)
      ∨ (¬ (a.day = 0 ∧ b.day = 65535) ∧ (a.day < b.day ∨ (a.day = b.day ∧ a.minute < b.minute))) := by
  rw [earlier_iff, minutesFrom_total ha hb]
  split
  · omega
  · split <;> omega

end

/-! ## MINUTE_EVENT (R97, R98) -/

theorem exec_minuteEvent (s : State) : exec .minuteEvent s = ifPowered State.advanceMinute s := rfl

theorem advanceMinute_unset {s : State} (hc : s.clock.time = none) : s.advanceMinute = s := by
  unfold State.advanceMinute
  rw [hc]

theorem advanceMinute_set {s : State} {time : DepotMoment} (hc : s.clock.time = some time) :
    s.advanceMinute = ({ s with clock := { time := some time.next, seconds := 0 } } : State).takeMinute s := by
  unfold State.advanceMinute
  rw [hc]

/-- Settles O39: an UNSET clock makes no minute event; a SET one advances and takes one (`takeMinute_taken`); depot times as
arithmetic. -/
theorem minuteEventAdvancesClock : Obligations.MinuteEventAdvancesClock := by
  refine ⟨fun s hp hc => ?_, fun s time hp hc ht => ?_, fun time hm hd => next_eq hm hd, fun a b ha hb =>
    ⟨rfl, minutesFrom_total ha hb, earlier_total_iff ha hb⟩⟩
  · rw [exec_minuteEvent, ifPowered_on _ _ hp, advanceMinute_unset hc]
  · rw [exec_minuteEvent, ifPowered_on _ _ hp, advanceMinute_set hc]
    exact ⟨_, rfl, takeMinute_taken s rfl ht⟩

/-! ## SET_CLOCK (R99, R100, R112) -/

/-- A minute event reads and writes nothing of the depot link, and of the state before it the records alone. -/
theorem MinuteTaken.withDepot {before before' post t : State} {now : Nat} (h : MinuteTaken before post t now) (d : DepotLink)
    (hb : before'.buses = before.buses) (hr : before'.berths = before.berths) (hp : before'.profile = before.profile)
    (ha : before'.alloc = before.alloc) (hv : before'.reserve = before.reserve) :
    MinuteTaken before' { post with depot := d } { t with depot := d } now := by
  have hf : before'.faultedCount = before.faultedCount := by unfold State.faultedCount; rw [hr]
  have hdue : before'.passDue { t with depot := d } = before.passDue t := by
    unfold State.passDue busesChanged berthsChanged State.feederView State.bus?
    rw [hb, hr, hp, ha, hv]
  obtain ⟨hpowered, -, hrest⟩ := h
  unfold MinuteTaken
  rw [hf, hdue]
  exact ⟨hpowered, rfl, hrest⟩

/-- R99: the clock set to a time, with the seconds at 0. -/
def State.clockSet (day minute : Nat) (s : State) : State :=
  { s with clock := { time := some { day := day, minute := minute }, seconds := 0 } }

section
variable {s : State} {pairs : List Pair}

/-- R99, R100, R112: SET_CLOCK refused by its pairs. -/
theorem setClock_badPairs {st : Status} {f : Nat} (hc : checkPairs 2 clockFieldFits [1, 2] [] pairs = some (st, f)) :
    s.setClock pairs = { status := st, failing := f, body := s.clockBody, state := s } := by
  unfold State.setClock
  rw [hc]
  rfl

/-- R99, R100, R112: SET_CLOCK refused while a pledge is ARMED or ACTIVE. -/
theorem setClock_busy (hc : checkPairs 2 clockFieldFits [1, 2] [] pairs = none) (ha : s.pledges.any Pledge.isActing = true) :
    s.setClock pairs = { status := .busy, failing := 0, body := s.clockBody, state := s } := by
  unfold State.setClock
  rw [hc, withPairs_none, if_pos ha]
  rfl

/-- R112: the day and the minute as an answer carries them. -/
theorem clockBody_eq (s : State) : s.clockBody = pairsBody
    [(66, s.clock.time.map fun time => (time.day : Int)), (67, s.clock.time.map fun time => (time.minute : Int))] := by
  unfold State.clockBody State.clockItems
  cases s.clock.time <;> rfl

/-- R99, R100, R112: SET_CLOCK accepted. -/
theorem setClock_taken (hc : checkPairs 2 clockFieldFits [1, 2] [] pairs = none) (ha : s.pledges.any Pledge.isActing = false)
    {day minute : Nat} (hday : carriedFor pairs 1 = some (day : Int)) (hminute : carriedFor pairs 2 = some (minute : Int)) :
    s.setClock pairs =
      { status := .done, failing := 0, body := ((s.clockSet day minute).takeMinute s).clockBody
        state := (s.clockSet day minute).takeMinute s } := by
  have hset : s.clockTaken pairs = s.clockSet day minute := by
    unfold State.clockTaken
    rw [natField_eq hday, natField_eq hminute]
    rfl
  unfold State.setClock
  rw [hc, withPairs_none, if_neg (by simp [ha]), hset]
  rfl

/-- R149: an answer DONE of an owner that keeps the link, placed as the response. -/
theorem respond_done {h : RequestHead} {n : Nat} {body : List Byte} {t : State} (hd : t.depot = s.begun.depot) :
    (({ status := .done, failing := 0, body := body, state := t } : Answer).respond h).shifted
        ((if n ≤ 56 then s else s.midRequest).requestOut n) =
      { t with depot := s.answered h n .done 0 body } := by
  unfold Answer.respond State.place State.shifted State.answered
  simp only [hd]
  rfl

end

section
variable {s : State} {pairs : List Pair} (ht : s.takesRequests) (hlen : 1 + 5 * pairs.length ≤ 1024)
include ht hlen

/-- SET_CLOCK is answered by its owner. -/
theorem exec_setClock_owner :
    exec (.setClock pairs) s = .next (((s.begun.setClock pairs).respond (controlHead 0#16)).shifted
      ((if 1 + 5 * pairs.length ≤ 56 then s else s.midRequest).requestOut (1 + 5 * pairs.length))) := by
  have hn : (Request.control (.setClock pairs)).body.length = 1 + 5 * pairs.length := by
    show (9#8 :: pairBytes pairs).length = _
    rw [List.length_cons, length_pairBytes, Nat.add_comm]
  exact exec_owner (r := .control (.setClock pairs)) rfl ht hn hlen rfl (by simp)

/-- A SET_CLOCK that its owner refuses. -/
theorem exec_setClock_refused {st : Status} {f : Nat} {body : List Byte}
    (ho : s.begun.setClock pairs = { status := st, failing := f, body := body, state := s.begun }) :
    exec (.setClock pairs) s = .next (s.replied (controlHead 0#16) (1 + 5 * pairs.length) st f body) := by
  rw [exec_setClock_owner ht hlen, ho, respond_replied]

/-- A SET_CLOCK that is accepted is one minute event at the new time. -/
theorem exec_setClock_taken (hc : checkPairs 2 clockFieldFits [1, 2] [] pairs = none)
    (ha : s.pledges.any Pledge.isActing = false) {day minute : Nat} (hday : carriedFor pairs 1 = some (day : Int))
    (hminute : carriedFor pairs 2 = some (minute : Int)) (htables : s.tablesOk = true) :
    ∃ t, exec (.setClock pairs) s = .next t
      ∧ MinuteTaken s
          { s.clockSet day minute with
            depot := s.answered (controlHead 0#16) (1 + 5 * pairs.length) .done 0
              (pairsBody [(66, some (day : Int)), (67, some (minute : Int))])
            supervision := s.restarted } t (day * 1440 + minute) := by
  have htaken := takeMinute_taken (s := s.begun.clockSet day minute) (now := day * 1440 + minute) s.begun rfl htables
  obtain ⟨-, hdepot, -, -, hclock, -⟩ := id htaken
  have hbody : ((s.begun.clockSet day minute).takeMinute s.begun).clockBody =
      pairsBody [(66, some (day : Int)), (67, some (minute : Int))] := by
    rw [clockBody_eq, hclock]
    rfl
  refine ⟨_, exec_setClock_owner ht hlen, ?_⟩
  rw [setClock_taken (s := s.begun) hc ha hday hminute, respond_done hdepot, hbody]
  exact htaken.withDepot (before' := s) _ rfl rfl rfl rfl rfl

end

/-- Settles O38: the owner's answer branch by branch; an accepted set takes the time and is one minute event
(`takeMinute_taken`). -/
theorem setClockIsOneMinuteEvent : Obligations.SetClockIsOneMinuteEvent := by
  intro pairs s ht hlen h n check body held
  have hheld : s.begun.clockBody = held := clockBody_eq s.begun
  refine ⟨fun st f hc => ?_, fun hc hacting => ?_, fun day minute hc hidle hday hminute htables => ?_⟩
  · rw [← hheld]
    exact exec_setClock_refused ht hlen (setClock_badPairs (s := s.begun) hc)
  · obtain ⟨p, hp, hstate⟩ := hacting
    rw [← hheld]
    exact exec_setClock_refused ht hlen
      (setClock_busy (s := s.begun) hc (List.any_eq_true.2 ⟨p, hp, (isActing_iff p).2 hstate⟩))
  · refine exec_setClock_taken ht hlen hc ?_ hday hminute htables
    rw [List.any_eq_false]
    intro p hp
    rw [isActing_iff]
    rcases hidle p hp with hstate | hstate <;> simp [hstate]

end Sys2Proof.Machine
end

section
/-! PROOFS. The commitment test at window starts and at covered minutes (R115; O54), and the owner's answers to ENROL and AMEND of
a pledge, branch by branch (R116, R117; O21, O26). -/

namespace Sys2Proof.Machine

/-! ## The commitment test (R115; log entry 32) -/

theorem covers_iff (p : Pledge) (minute : Nat) :
    p.covers minute = true ↔ p.start ≤ minute ∧ minute < p.start + p.duration := by
  rw [Pledge.covers, Bool.and_eq_true, decide_eq_true_eq, decide_eq_true_eq]
  rfl

theorem committedAt_eq (set : List Pledge) (minute : Nat) :
    committedAt set minute =
      ((set.filter fun p => decide (p.start ≤ minute ∧ minute < p.start + p.duration)).map Pledge.committed).sum :=
  congrArg (sumOf Pledge.committed) (List.filter_congr fun p _ => by
    rw [Bool.eq_iff_iff, covers_iff, decide_eq_true_eq])

theorem exportCommittedAt_eq (set : List Pledge) (minute : Nat) :
    exportCommittedAt set minute =
      ((set.filter fun p =>
        decide (p.kind = .exporting ∧ p.start ≤ minute ∧ minute < p.start + p.duration)).map Pledge.committed).sum :=
  congrArg (sumOf Pledge.committed) (List.filter_congr fun p _ => by
    rw [Bool.eq_iff_iff, Bool.and_eq_true, beq_iff_eq, covers_iff, decide_eq_true_eq])

theorem commitmentTest_iff (reserveCeiling exportCeiling : Nat) (set : List Pledge) :
    commitmentTest reserveCeiling exportCeiling set = true ↔
      ∀ p ∈ set, committedAt set p.start ≤ reserveCeiling ∧ exportCommittedAt set p.start ≤ exportCeiling := by
  simp [commitmentTest]

/-- What is summed over some members is at most what is summed over more of them. -/
theorem sumOf_filter_le {α : Type} (f : α → Nat) {p q : α → Bool} {l : List α}
    (h : ∀ x ∈ l, p x = true → q x = true) : sumOf f (l.filter p) ≤ sumOf f (l.filter q) := by
  have hfilter : l.filter p = (l.filter q).filter p := by
    rw [List.filter_filter]
    refine List.filter_congr fun x hx => ?_
    rw [Bool.eq_iff_iff, Bool.and_eq_true]
    exact ⟨fun hp => ⟨hp, h x hx hp⟩, fun hpq => hpq.1⟩
  rw [hfilter]
  exact (List.filter_sublist.map f).sum_le_sum fun _ _ => Nat.zero_le _

/-- The windows that cover a minute all cover the latest of their starts. -/
theorem exists_start_covered {set : List Pledge} {minute : Nat} (h : ∃ p ∈ set, p.covers minute = true) :
    ∃ q ∈ set, ∀ p ∈ set, p.covers minute = true → p.covers q.start = true := by
  obtain ⟨p₀, hp₀, hcovers₀⟩ := h
  obtain ⟨q, hq, hlatest⟩ := (set.filter fun p => p.covers minute).toFinset.exists_max_image Pledge.start
    ⟨p₀, by simp [hp₀, hcovers₀]⟩
  simp only [List.mem_toFinset, List.mem_filter] at hq hlatest
  refine ⟨q, hq.1, fun p hp hcovers => ?_⟩
  have hstart := hlatest p ⟨hp, hcovers⟩
  have hqcovers := (covers_iff q minute).1 hq.2
  rw [covers_iff] at hcovers ⊢
  omega

/-- Settles O54: a covered minute's sums are at most those at the latest start of the windows that cover it, and every start is a
covered minute. -/
theorem commitmentTestCoversEveryMinute : Obligations.CommitmentTestCoversEveryMinute := by
  intro reserveCeiling exportCeiling set hduration
  simp only [← committedAt_eq, ← exportCommittedAt_eq]
  simp only [← covers_iff]
  rw [commitmentTest_iff]
  refine ⟨fun hstarts minute hcovered => ?_, fun hminutes p hp => ?_⟩
  · obtain ⟨q, hq, hlatest⟩ := exists_start_covered hcovered
    obtain ⟨hreserve, hexport⟩ := hstarts q hq
    refine ⟨(sumOf_filter_le Pledge.committed hlatest).trans hreserve,
      (sumOf_filter_le Pledge.committed fun p hp hpe => ?_).trans hexport⟩
    rw [Bool.and_eq_true] at hpe ⊢
    exact ⟨hpe.1, hlatest p hp hpe.2⟩
  · have := hduration p hp
    exact hminutes p.start ⟨p, hp, (covers_iff p p.start).2 ⟨le_rfl, by omega⟩⟩

/-! ## The start of a pledge (R116, check 5) -/

theorem startFits_iff {s : State} {p : Pledge} :
    s.startFits p = true ↔ ∃ now, s.now = some now ∧ 0 < minutesFrom now p.start
      ∧ (s.profile.armingLead : Int) ≤ minutesFrom now p.start ∧ p.start + p.duration ≤ 94371839 := by
  unfold State.startFits
  cases s.now with
  | none => simp
  | some now =>
    have hend : p.windowEnd ≤ Config.lastMinute ↔ p.start + p.duration ≤ 94371839 := Iff.rfl
    simp [earlier_iff, hend, and_assoc]

theorem startFits_at {s : State} {p : Pledge} {now : Nat} (hn : s.now = some now) :
    s.startFits p = true ↔ 0 < minutesFrom now p.start ∧ (s.profile.armingLead : Int) ≤ minutesFrom now p.start
      ∧ p.start + p.duration ≤ 94371839 := by
  simp [startFits_iff, hn]

/-! ## ENROL of a pledge (R116) -/

theorem kind_newPledge (key : Nat) (pairs : List Pair) :
    (newPledge key pairs).kind = .exporting ↔ carriedFor pairs 2 = some 1 := by
  show kindField pairs .curtail = .exporting ↔ _
  unfold kindField pledgeKindOf
  cases carriedFor pairs 2 with
  | none => simp
  | some v => simp

theorem yields_newPledge (key : Nat) (pairs : List Pair) :
    (newPledge key pairs).yields = (carriedFor pairs 6 == some 1) := flagField_false pairs 6

/-- R116, check 4: yields to readiness carried as yes for a kind carried as EXPORT. -/
theorem yieldsFailing_newPledge (key : Nat) (pairs : List Pair) :
    yieldsFailing (newPledge key pairs) = if carriedFor pairs 2 = some 1 ∧ carriedFor pairs 6 = some 1 then [6] else [] := by
  unfold yieldsFailing
  simp only [kind_newPledge, yields_newPledge, beq_iff_eq]

/-- The check of an ENROL's pairs. -/
def pledgeCheck (pairs : List Pair) : Option (Status × Nat) :=
  checkPairs 13 pledgeFieldFits [2, 3, 4, 5]
    (if carriedFor pairs 2 = some 1 ∧ carriedFor pairs 6 = some 1 then [6] else []) pairs

section
variable {key : Nat} {pairs : List Pair} {s : State}

theorem enrolPledge_badKey (hk : key = 0) : s.enrolPledge key pairs = refuse .badField 1 s := if_pos hk

variable (hk : key ≠ 0)
include hk

theorem enrolPledge_clockUnset (hn : s.now = none) : s.enrolPledge key pairs = refuse .clockUnset 0 s := by
  have hclock : s.clock.time.isNone = true := by simpa [State.now] using hn
  exact (if_neg hk).trans (if_pos hclock)

variable {now : Nat} (hn : s.now = some now)
include hn

theorem enrolPledge_clockSet : s.enrolPledge key pairs =
    if (s.pledge? key).isSome then refuse .existsAlready 0 s
    else withPairs (pledgeCheck pairs) s <|
      if !s.startFits (newPledge key pairs) then refuse .badField 3 s
      else if Config.pledgeSlots ≤ s.pledges.length then refuse .full 0 s
      else if !s.admits (newPledge key pairs :: s.livePledges) then refuse .overCeiling 0 s
      else s.settled { s with pledges := insertByKey Pledge.id (newPledge key pairs) s.pledges } fun t =>
        recordBody (t.pledgeValues key) := by
  obtain ⟨time, htime, -⟩ := Option.map_eq_some_iff.1 hn
  unfold pledgeCheck
  rw [← yieldsFailing_newPledge key]
  exact (if_neg hk).trans (if_neg (by simp [htime]))

theorem enrolPledge_exists (hp : (s.pledge? key).isSome) : s.enrolPledge key pairs = refuse .existsAlready 0 s := by
  rw [enrolPledge_clockSet hk hn, if_pos hp]

variable (hp : s.pledge? key = none)
include hp

theorem enrolPledge_badPairs {st : Status} {f : Nat} (hc : pledgeCheck pairs = some (st, f)) :
    s.enrolPledge key pairs = refuse st f s := by
  rw [enrolPledge_clockSet hk hn, if_neg (by simp [hp]), hc, withPairs_some]

variable (hc : pledgeCheck pairs = none)
include hc

theorem enrolPledge_badStart (hstart : s.startFits (newPledge key pairs) = false) :
    s.enrolPledge key pairs = refuse .badField 3 s := by
  rw [enrolPledge_clockSet hk hn, if_neg (by simp [hp]), hc, withPairs_none, hstart]
  rfl

variable (hstart : s.startFits (newPledge key pairs) = true)
include hstart

/-- R116: the checks after that of the start. -/
theorem enrolPledge_goodStart : s.enrolPledge key pairs =
    if 16 ≤ s.pledges.length then refuse .full 0 s
    else if !s.admits (newPledge key pairs :: s.livePledges) then refuse .overCeiling 0 s
    else s.settled { s with pledges := insertByKey Pledge.id (newPledge key pairs) s.pledges } fun t =>
      recordBody (t.pledgeValues key) := by
  rw [enrolPledge_clockSet hk hn, if_neg (by simp [hp]), hc, withPairs_none, hstart]
  rfl

theorem enrolPledge_full (hl : 16 ≤ s.pledges.length) : s.enrolPledge key pairs = refuse .full 0 s := by
  rw [enrolPledge_goodStart hk hn hp hc hstart, if_pos hl]

variable (hl : s.pledges.length < 16)
include hl

theorem enrolPledge_overCeiling (ha : s.admits (newPledge key pairs :: s.livePledges) = false) :
    s.enrolPledge key pairs = refuse .overCeiling 0 s := by
  rw [enrolPledge_goodStart hk hn hp hc hstart, if_neg (not_le.2 hl), ha]
  rfl

theorem enrolPledge_settled (ha : s.admits (newPledge key pairs :: s.livePledges) = true) : s.enrolPledge key pairs =
    s.settled { s with pledges := insertByKey Pledge.id (newPledge key pairs) s.pledges } fun t =>
      recordBody (t.pledgeValues key) := by
  rw [enrolPledge_goodStart hk hn hp hc hstart, if_neg (not_le.2 hl), ha]
  rfl

end

/-- A kind code is read back as it was carried. -/
theorem code_pledgeKindOf {v : Int} (h : 0 ≤ v ∧ v ≤ 1) : (pledgeKindOf v).code = v := by
  obtain rfl | rfl : v = 0 ∨ v = 1 := by omega
  · rfl
  · rfl

/-- R116: the host fields of a new pledge are those of a body that passes its check. -/
theorem newPledge_fields {key : Nat} {pairs : List Pair} (hc : pledgeCheck pairs = none) :
    some (newPledge key pairs).kind.code = carriedFor pairs 2 ∧ some ((newPledge key pairs).start : Int) = carriedFor pairs 3
      ∧ some ((newPledge key pairs).duration : Int) = carriedFor pairs 4
      ∧ some ((newPledge key pairs).committed : Int) = carriedFor pairs 5 := by
  obtain ⟨kind, h2⟩ := carriedFor_required hc (i := 2) (by simp)
  obtain ⟨start, h3⟩ := carriedFor_required hc (i := 3) (by simp)
  obtain ⟨duration, h4⟩ := carriedFor_required hc (i := 4) (by simp)
  obtain ⟨committed, h5⟩ := carriedFor_required hc (i := 5) (by simp)
  have fit2 := (within_iff 0 1 _).1 (carriedFor_fits hc h2)
  have fit3 := (within_iff 0 94371839 _).1 (carriedFor_fits hc h3)
  have fit4 := (within_iff 15 240 _).1 (carriedFor_fits hc h4)
  have fit5 := (within_iff 10 2000 _).1 (carriedFor_fits hc h5)
  have hkind : (newPledge key pairs).kind = pledgeKindOf kind := by
    show kindField pairs .curtail = _
    rw [kindField, h2, Option.map_some, Option.getD_some]
  exact ⟨by rw [hkind, code_pledgeKindOf fit2, h2], natField_of_carried h3 (by omega) 0, natField_of_carried h4 (by omega) 0,
    natField_of_carried h5 (by omega) 0⟩

/-- Settles O21: the owner's answer branch by branch, and the fields of the record it creates. -/
theorem enrolPledgeCreatesRecord : Obligations.EnrolPledgeCreatesRecord := by
  intro key pairs s ht hlen h n k refused p check
  have hrow : asRequest (.enrolPledge key pairs) = some (h, .enrol .pledge k pairs) := rfl
  have hn : (Request.enrol .pledge k pairs).body.length = n := length_pairBytes pairs
  have hform : (Request.enrol .pledge k pairs).formOk = true := by simpa [Request.formOk] using hlen
  have refuses {st : Status} {f : Nat} (ho : s.begun.enrolPledge k pairs = refuse st f s.begun) : refused st f :=
    exec_replied hrow ht hn (by omega) hform (by simp) ho
  refine ⟨fun hk => refuses (enrolPledge_badKey (s := s.begun) hk),
    fun hk hnow => refuses (enrolPledge_clockUnset (s := s.begun) hk hnow), fun now hk hnow =>
    ⟨fun hp => refuses (enrolPledge_exists (s := s.begun) hk hnow hp),
      fun hp st f hc => refuses (enrolPledge_badPairs (s := s.begun) hk hnow hp hc), fun hp hc =>
      ⟨fun hbad => refuses (enrolPledge_badStart (s := s.begun) hk hnow hp hc ?_), fun hlater hlead hend => ?_⟩⟩⟩
  · rw [← Bool.not_eq_true, startFits_at (s := s.begun) hnow]
    rintro ⟨hlater, hlead, hend⟩
    rcases hbad with hbad | hbad | hbad
    · exact absurd hlater (not_lt.2 hbad)
    · exact absurd hlead (not_le.2 hbad)
    · exact absurd hend (not_le.2 hbad)
  · have hstart : s.begun.startFits p = true := (startFits_at (s := s.begun) hnow).2 ⟨hlater, hlead, hend⟩
    refine ⟨fun hl => refuses (enrolPledge_full (s := s.begun) hk hnow hp hc hstart hl),
      fun hl ha => refuses (enrolPledge_overCeiling (s := s.begun) hk hnow hp hc hstart hl ha), fun hl ha => ?_⟩
    obtain ⟨t, hexec, hdone⟩ := exec_answered hrow ht hn (by omega) hform (by simp)
      (enrolPledge_settled (s := s.begun) hk hnow hp hc hstart hl ha) rfl rfl fun _ _ => rfl
    obtain ⟨hkind, hstarts, hduration, hcommitted⟩ := newPledge_fields (key := k) hc
    exact ⟨t, hexec, hdone, rfl, rfl, rfl, rfl, rfl, rfl, rfl, rfl, hkind, hstarts, hduration, hcommitted,
      yields_newPledge k pairs⟩

/-! ## AMEND of a pledge (R117) -/

/-- What a lookup finds in records that are settled, after one pledge has changed. -/
theorem AnsweredDone.pledge?_updated {s t post : State} {h : RequestHead} {n : Nat} {body : State → List Byte}
    (hd : AnsweredDone s h n post body t) {k : Nat} {f : Pledge → Pledge} (hf : ∀ p, (f p).id = p.id)
    (hp : post.pledges = updateKey Pledge.id k f s.pledges) {p : Pledge} (hfound : s.pledge? k = some p) :
    t.pledge? k = some (f p) := by
  obtain ⟨⟨_, _, _, _, _, hpledges, -⟩, -⟩ := hd
  have hid : p.id = k := key_of_findKey hfound
  unfold State.pledge? at hfound ⊢
  rw [hpledges]
  show findKey Pledge.id k post.pledges = _
  rw [hp, findKey_updateKey k k f hf, hfound, Option.map_some, if_pos (by simp [hid])]

section
variable {key : Nat} {pairs : List Pair} {s : State} {old : Pledge}

theorem amendPledge_notFound (hp : s.pledge? key = none) : s.amendPledge key pairs = refuse .notFound 0 s := by
  unfold State.amendPledge
  rw [hp, withRecord_none]

variable (hp : s.pledge? key = some old)
include hp

theorem amendPledge_begun (hb : old.state ≠ .booked) : s.amendPledge key pairs = refuse .badState 0 s := by
  unfold State.amendPledge
  rw [hp, withRecord_some]
  exact if_pos hb

variable (hb : old.state = .booked)
include hb

theorem amendPledge_booked : s.amendPledge key pairs =
    withPairs (checkPairs 13 pledgeFieldFits [] (yieldsFailing (old.amend pairs)) pairs) s
      (if !s.startFits (old.amend pairs) then refuse .badField 3 s
      else if !s.admits (old.amend pairs :: eraseKey Pledge.id key s.livePledges) then refuse .overCeiling 0 s
      else s.settled (s.updPledge key (Pledge.amend pairs)) fun t => recordBody (t.pledgeValues key)) := by
  unfold State.amendPledge
  rw [hp, withRecord_some]
  exact if_neg (not_not.2 hb)

theorem amendPledge_badPairs {st : Status} {f : Nat}
    (hc : checkPairs 13 pledgeFieldFits [] (yieldsFailing (old.amend pairs)) pairs = some (st, f)) :
    s.amendPledge key pairs = refuse st f s := by
  rw [amendPledge_booked hp hb, hc, withPairs_some]

variable (hc : checkPairs 13 pledgeFieldFits [] (yieldsFailing (old.amend pairs)) pairs = none)
include hc

theorem amendPledge_badStart (hstart : s.startFits (old.amend pairs) = false) :
    s.amendPledge key pairs = refuse .badField 3 s := by
  rw [amendPledge_booked hp hb, hc, withPairs_none, hstart]
  rfl

variable (hstart : s.startFits (old.amend pairs) = true)
include hstart

theorem amendPledge_overCeiling (ha : s.admits (old.amend pairs :: eraseKey Pledge.id key s.livePledges) = false) :
    s.amendPledge key pairs = refuse .overCeiling 0 s := by
  rw [amendPledge_booked hp hb, hc, withPairs_none, hstart, ha]
  rfl

theorem amendPledge_settled (ha : s.admits (old.amend pairs :: eraseKey Pledge.id key s.livePledges) = true) :
    s.amendPledge key pairs =
      s.settled (s.updPledge key (Pledge.amend pairs)) fun t => recordBody (t.pledgeValues key) := by
  rw [amendPledge_booked hp hb, hc, withPairs_none, hstart, ha]
  rfl

end

/-- Settles O26: the checks in their order; an accepted amendment writes `Pledge.amend` to the record of its key. -/
theorem amendPledgeWritesHostFields : Obligations.AmendPledgeWritesHostFields := by
  intro key pairs s ht hmin hlen h n k refused
  have hrow : asRequest (.amendPledge key pairs) = some (h, .amend .pledge k pairs) := rfl
  have hn : (Request.amend .pledge k pairs).body.length = n := length_pairBytes pairs
  have hform : (Request.amend .pledge k pairs).formOk = true := by simpa [Request.formOk] using ⟨hmin, hlen⟩
  have refuses {st : Status} {f : Nat} (ho : s.begun.amendPledge k pairs = refuse st f s.begun) : refused st f :=
    exec_replied hrow ht hn (by omega) hform (by simp) ho
  refine ⟨fun hp => refuses (amendPledge_notFound (s := s.begun) hp), ?_⟩
  intro old hp p check fits
  have hfits : s.begun.startFits (old.amend pairs) = true ↔ fits := startFits_iff
  refine ⟨fun hb => refuses (amendPledge_begun (s := s.begun) hp hb), fun hb =>
    ⟨fun st f hc => refuses (amendPledge_badPairs (s := s.begun) hp hb hc),
      fun hc hbad => refuses (amendPledge_badStart (s := s.begun) hp hb hc (Bool.eq_false_iff.2 fun h => hbad (hfits.1 h))),
      fun hc hgood ha => refuses (amendPledge_overCeiling (s := s.begun) hp hb hc (hfits.2 hgood) ha), fun hc hgood ha => ?_⟩⟩
  obtain ⟨t, hexec, hdone⟩ := exec_answered hrow ht hn (by omega) hform (by simp)
    (amendPledge_settled (s := s.begun) hp hb hc (hfits.2 hgood) ha) rfl rfl fun _ _ => rfl
  have hdone' : AnsweredDone s h n { s with pledges := updateKey Pledge.id k (Pledge.amend pairs) s.pledges }
      (fun u => recordBody (u.pledgeValues k)) t := hdone
  refine ⟨t, hexec, ?_, hdone'.pledge?_updated (pledgeAmend_id pairs) rfl hp⟩
  rw [← updateKey_eq_map Pledge.id]
  exact hdone'

end Sys2Proof.Machine
end

section
/-! PROOFS. The yield list brought up to date, entry by entry, and the readiness yield (R125 to R127); WITHDRAW, which brings the
list up to date where the pledge yields (R129; O29). -/

namespace Sys2Proof.Machine

/-! ## Which tickets qualify, and the power they need (R125) -/

theorem isYielding_iff (p : Pledge) :
    p.isYielding = true ↔ p.kind = .curtail ∧ p.yields = true ∧ (p.state = .armed ∨ p.state = .active) := by
  rw [Pledge.isYielding, Pledge.isCurtailing, Bool.and_eq_true, Bool.and_eq_true, beq_iff_eq, isActing_iff, and_assoc,
    and_comm (a := _ ∨ _)]

/-- R125: a ticket qualifies with the bus it names, at the present time. -/
def State.QualifiesAt (s : State) (x : Ticket) (b : Bus) (now : Nat) : Prop :=
  x.state = .assigned ∧ b.state = .attached ∧ 0 < minutesFrom now x.departure
    ∧ ∃ p, (p ∈ s.pledges ∧ p.kind = .curtail ∧ p.yields = true ∧ (p.state = .armed ∨ p.state = .active))
      ∧ minutesFrom now x.departure ≤ minutesFrom now p.windowEnd + 60

section
variable {s : State} {x : Ticket} {b : Bus} {now : Nat}

theorem State.QualifiesAt.later (h : s.QualifiesAt x b now) : 0 < minutesFrom now x.departure := by
  obtain ⟨-, -, hlater, -⟩ := h
  exact hlater

/-- A ticket that qualifies names a bus, and the clock is SET. -/
theorem exists_of_qualifies (h : s.qualifies x = true) : ∃ b now, x.bus.bind s.bus? = some b ∧ s.now = some now := by
  unfold State.qualifies at h
  cases hn : s.now with
  | none => simp [hn] at h
  | some now =>
    cases hb : x.bus.bind s.bus? with
    | none => simp [hn, hb] at h
    | some b => exact ⟨b, now, rfl, rfl⟩

theorem qualifies_iff (hb : x.bus.bind s.bus? = some b) (hn : s.now = some now) :
    s.qualifies x = true ↔ s.QualifiesAt x b now := by
  unfold State.qualifies State.QualifiesAt
  rw [hn, hb]
  simp only [Bool.and_eq_true, List.any_eq_true, isYielding_iff, earlier_iff, decide_eq_true_eq, beq_iff_eq, Ticket.isAssigned,
    and_assoc]

/-- R125: the needed power is the least whose energy, in the minutes that are left, covers what the ticket lacks. -/
theorem neededPower_le_iff (hlater : 0 < minutesFrom now x.departure) (k : Nat) :
    neededPower (some now) x ≤ k ↔ (x.need - x.projected.getD 0) * 6 ≤ k * (minutesFrom now x.departure).toNat := by
  have hpos : 0 < (minutesFrom now x.departure).toNat := by omega
  unfold neededPower minutesTo
  dsimp only
  rw [Nat.div_le_iff_le_mul_add_pred hpos, Nat.mul_comm k]
  omega

theorem eq_neededPower_iff (hlater : 0 < minutesFrom now x.departure) (power : Nat) :
    (∀ k : Nat, power ≤ k ↔ (x.need - x.projected.getD 0) * 6 ≤ k * (minutesFrom now x.departure).toNat)
      ↔ power = neededPower (some now) x := by
  simp only [← neededPower_le_iff hlater]
  exact ⟨fun h => le_antisymm ((h _).2 le_rfl) ((h _).1 le_rfl), fun h k => by rw [h]⟩

end

/-! ## The steps of the update (R126) -/

section
variable {s : State} {x : Ticket} {b : Bus} {risk : List Nat} {e d : YieldEntry}

theorem keepsEntry_iff : s.keepsEntry e = true ↔
    ∃ x, s.ticket? e.ticket = some x ∧ s.qualifies x = true ∧ x.grade ≠ some .ready ∧ x.grade ≠ some .unknown := by
  unfold State.keepsEntry
  cases s.ticket? e.ticket with
  | none => simp
  | some x => simp [and_assoc]

@[simp] theorem topUp_ticket : (s.topUp risk e).ticket = e.ticket := by
  unfold State.topUp
  split
  · split <;> rfl
  · rfl

theorem topUp_power (hx : s.ticket? e.ticket = some x) :
    (s.topUp risk e).power = e.power + if e.ticket ∈ risk then neededPower s.now x else 0 := by
  unfold State.topUp
  rw [hx]
  by_cases h : e.ticket ∈ risk <;> simp [h]

@[simp] theorem capEntry_ticket : (s.capEntry e).ticket = e.ticket := by
  unfold State.capEntry
  split <;> rfl

theorem capEntry_eq_iff (hx : s.ticket? e.ticket = some x) (hb : x.bus.bind s.bus? = some b) :
    s.capEntry e = d ↔ e.ticket = d.ticket ∧ d.power = min e.power b.charge := by
  unfold State.capEntry
  rw [hx, Option.bind_some, hb]
  obtain ⟨ticket, power⟩ := d
  rw [YieldEntry.mk.injEq, eq_comm (a := power)]

/-- R126: no entry leaves the list whose ticket could enter it, so an entry is new where the list as it was has none for its
ticket. -/
theorem mem_newEntries (ht : s.tablesOk = true) :
    d ∈ s.newEntries (s.reserve.yieldList.filter s.keepsEntry) ↔
      ∃ x, s.ticket? d.ticket = some x ∧ s.qualifies x = true ∧ x.grade = some .atRisk
        ∧ (∀ old ∈ s.reserve.yieldList, old.ticket ≠ d.ticket) ∧ d.power = neededPower s.now x := by
  unfold State.newEntries
  simp only [List.mem_map, List.mem_filter, Bool.and_eq_true, Bool.not_eq_true', beq_iff_eq, List.any_eq_false, and_assoc]
  constructor
  · rintro ⟨x, hx, hq, hg, hnone, rfl⟩
    have hfound := ticket?_of_mem ht hx
    refine ⟨x, hfound, hq, hg, fun old hold hid => hnone old ⟨hold, keepsEntry_iff.2 ⟨x, ?_, hq, ?_⟩⟩ hid, rfl⟩
    · exact hid ▸ hfound
    · simp [hg]
  · rintro ⟨x, hfound, hq, hg, hnone, hpower⟩
    have hid := id_of_ticket? hfound
    refine ⟨x, mem_of_ticket? hfound, hq, hg, fun old hold hold' => hnone old hold.1 (hold'.trans hid), ?_⟩
    rw [hid, ← hpower]

theorem newEntries_tickets_nodup (ht : s.tablesOk = true) (kept : List YieldEntry) :
    ((s.newEntries kept).map YieldEntry.ticket).Nodup := by
  have hids : (s.tickets.map Ticket.id).Nodup :=
    ((keysRising_iff _).1 ((tablesOk_iff s).1 ht).2.2.1.1).imp fun h => ne_of_lt h
  unfold State.newEntries
  rw [List.map_map]
  exact hids.sublist (List.filter_sublist.map Ticket.id)

end

/-! ## Records put into a table one after another -/

section
variable {α : Type} {key : α → Nat}

theorem mem_foldl_insertByKey {z : α} (l init : List α) :
    z ∈ l.foldl (fun m x => insertByKey key x m) init ↔ z ∈ l ∨ z ∈ init := by
  induction l generalizing init with
  | nil => simp
  | cons x l ih =>
    rw [List.foldl_cons, ih, mem_insertByKey, List.mem_cons]
    tauto

/-- Records of new keys, no key twice, keep the table form. -/
theorem keysRising_foldl_insertByKey (l init : List α) (h : keysRising key init = true) (hl : (l.map key).Nodup)
    (hnew : ∀ x ∈ l, ∀ y ∈ init, key y ≠ key x) :
    keysRising key (l.foldl (fun m x => insertByKey key x m) init) = true := by
  induction l generalizing init with
  | nil => exact h
  | cons x l ih =>
    rw [List.map_cons, List.nodup_cons] at hl
    rw [List.forall_mem_cons] at hnew
    refine ih _ (keysRising_insertByKey x init h hnew.1) hl.2 fun z hz y hy => ?_
    rcases (mem_insertByKey x y init).1 hy with rfl | hy
    · exact fun hk => hl.1 (hk ▸ List.mem_map_of_mem hz)
    · exact hnew.2 z hz y hy

end

/-! ## The list brought up to date (R126) -/

section
variable {s : State} {risk : List Nat}

/-- Each member of the updated list is an entry that stays, topped up and limited, or a new one, limited. -/
theorem mem_updatedYields {e : YieldEntry} : e ∈ s.updatedYields risk ↔
    (∃ old, (old ∈ s.reserve.yieldList ∧ s.keepsEntry old = true) ∧ s.capEntry (s.topUp risk old) = e)
      ∨ ∃ d ∈ s.newEntries (s.reserve.yieldList.filter s.keepsEntry), s.capEntry d = e := by
  unfold State.updatedYields
  simp only [List.mem_map, mem_foldl_insertByKey, List.mem_filter, or_and_right, exists_or]
  rw [or_comm]
  refine or_congr_left ⟨?_, ?_⟩
  · rintro ⟨_, ⟨old, hold, rfl⟩, he⟩
    exact ⟨old, hold, he⟩
  · rintro ⟨old, hold, he⟩
    exact ⟨_, ⟨old, hold, rfl⟩, he⟩

theorem keysRising_updatedYields (ht : s.tablesOk = true) (hy : keysRising YieldEntry.ticket s.reserve.yieldList = true) :
    keysRising YieldEntry.ticket (s.updatedYields risk) = true := by
  refine keysRising_map _ (fun _ => capEntry_ticket) _ (keysRising_foldl_insertByKey _ _ ?_ (newEntries_tickets_nodup ht _) ?_)
  · exact keysRising_map _ (fun _ => topUp_ticket) _ (keysRising_filter _ _ hy)
  · intro d hd y hy
    obtain ⟨x, -, -, -, hnone, -⟩ := (mem_newEntries ht).1 hd
    obtain ⟨old, hold, rfl⟩ := List.mem_map.1 hy
    rw [topUp_ticket]
    exact hnone old (List.mem_filter.1 hold).1

variable {x : Ticket} {b : Bus} {now : Nat} {e : YieldEntry}

/-- R126: an entry that stays, of a ticket that names a bus while the clock is SET. -/
theorem staying_iff (hx : s.ticket? e.ticket = some x) (hb : x.bus.bind s.bus? = some b) (hn : s.now = some now) :
    (∃ old, (old ∈ s.reserve.yieldList ∧ s.keepsEntry old = true) ∧ s.capEntry (s.topUp risk old) = e) ↔
      s.QualifiesAt x b now ∧ ∃ old ∈ s.reserve.yieldList, old.ticket = e.ticket ∧ x.grade ≠ some .ready
        ∧ x.grade ≠ some .unknown
        ∧ e.power = min (old.power + if e.ticket ∈ risk then neededPower (some now) x else 0) b.charge := by
  have hcap {old : YieldEntry} (hid : old.ticket = e.ticket) : s.capEntry (s.topUp risk old) = e ↔
      e.power = min (old.power + if e.ticket ∈ risk then neededPower (some now) x else 0) b.charge := by
    have hold : s.ticket? old.ticket = some x := hid ▸ hx
    rw [capEntry_eq_iff (by rwa [topUp_ticket]) hb, topUp_ticket, topUp_power hold, hid, hn]
    exact and_iff_right rfl
  have hid {old : YieldEntry} (h : s.capEntry (s.topUp risk old) = e) : old.ticket = e.ticket := by
    rw [← h, capEntry_ticket, topUp_ticket]
  rw [← qualifies_iff hb hn]
  constructor
  · rintro ⟨old, ⟨hold, hkeeps⟩, he⟩
    obtain ⟨y, hy, hq, hready, hunknown⟩ := keepsEntry_iff.1 hkeeps
    obtain rfl : x = y := Option.some.inj (hx.symm.trans (hid he ▸ hy))
    exact ⟨hq, old, hold, hid he, hready, hunknown, (hcap (hid he)).1 he⟩
  · rintro ⟨hq, old, hold, hticket, hready, hunknown, hpower⟩
    exact ⟨old, ⟨hold, keepsEntry_iff.2 ⟨x, hticket ▸ hx, hq, hready, hunknown⟩⟩, (hcap hticket).2 hpower⟩

/-- R126: a new entry, of a ticket that names a bus while the clock is SET. -/
theorem entering_iff (ht : s.tablesOk = true) (hx : s.ticket? e.ticket = some x) (hb : x.bus.bind s.bus? = some b)
    (hn : s.now = some now) :
    (∃ d ∈ s.newEntries (s.reserve.yieldList.filter s.keepsEntry), s.capEntry d = e) ↔
      s.QualifiesAt x b now ∧ (∀ old ∈ s.reserve.yieldList, old.ticket ≠ e.ticket) ∧ x.grade = some .atRisk
        ∧ e.power = min (neededPower (some now) x) b.charge := by
  rw [← qualifies_iff hb hn]
  constructor
  · rintro ⟨d, hd, he⟩
    obtain ⟨y, hy, hq, hg, hnone, hpower⟩ := (mem_newEntries ht).1 hd
    have hid : d.ticket = e.ticket := by rw [← he, capEntry_ticket]
    obtain rfl : x = y := Option.some.inj (hx.symm.trans (hid ▸ hy))
    exact ⟨hq, hid ▸ hnone, hg, by rw [((capEntry_eq_iff hy hb).1 he).2, hpower, hn]⟩
  · rintro ⟨hq, hnone, hg, hpower⟩
    exact ⟨⟨e.ticket, neededPower (some now) x⟩, (mem_newEntries ht).2 ⟨x, hx, hq, hg, hnone, by rw [hn]⟩,
      (capEntry_eq_iff (e := ⟨e.ticket, neededPower (some now) x⟩) hx hb).2 ⟨rfl, hpower⟩⟩

/-- R126: every member of the updated list is of a ticket that qualifies. -/
theorem exists_ticket_of_mem_updatedYields (ht : s.tablesOk = true) (he : e ∈ s.updatedYields risk) :
    ∃ x b now, s.ticket? e.ticket = some x ∧ x.bus.bind s.bus? = some b ∧ s.now = some now := by
  suffices h : ∃ x, s.ticket? e.ticket = some x ∧ s.qualifies x = true by
    obtain ⟨x, hx, hq⟩ := h
    obtain ⟨b, now, hb, hn⟩ := exists_of_qualifies hq
    exact ⟨x, b, now, hx, hb, hn⟩
  rcases mem_updatedYields.1 he with ⟨old, ⟨-, hkeeps⟩, rfl⟩ | ⟨d, hd, rfl⟩
  · obtain ⟨x, hx, hq, -⟩ := keepsEntry_iff.1 hkeeps
    exact ⟨x, by rwa [capEntry_ticket, topUp_ticket], hq⟩
  · obtain ⟨x, hx, hq, -⟩ := (mem_newEntries ht).1 hd
    exact ⟨x, by rwa [capEntry_ticket], hq⟩

/-- R126: the members of the updated list. -/
theorem mem_updatedYields_iff (ht : s.tablesOk = true) : e ∈ s.updatedYields risk ↔
    ∃ x b now, s.ticket? e.ticket = some x ∧ x.bus.bind s.bus? = some b ∧ s.now = some now ∧ s.QualifiesAt x b now
      ∧ ((∃ old ∈ s.reserve.yieldList, old.ticket = e.ticket ∧ x.grade ≠ some .ready ∧ x.grade ≠ some .unknown
            ∧ e.power = min (old.power + if e.ticket ∈ risk then neededPower (some now) x else 0) b.charge)
          ∨ ((∀ old ∈ s.reserve.yieldList, old.ticket ≠ e.ticket) ∧ x.grade = some .atRisk
            ∧ e.power = min (neededPower (some now) x) b.charge)) := by
  have hcases {x b now} (hx : s.ticket? e.ticket = some x) (hb : x.bus.bind s.bus? = some b) (hn : s.now = some now) :=
    mem_updatedYields.trans ((or_congr (staying_iff (risk := risk) hx hb hn) (entering_iff ht hx hb hn)).trans and_or_left.symm)
  constructor
  · intro he
    obtain ⟨x, b, now, hx, hb, hn⟩ := exists_ticket_of_mem_updatedYields ht he
    exact ⟨x, b, now, hx, hb, hn, (hcases hx hb hn).1 he⟩
  · rintro ⟨x, b, now, hx, hb, hn, h⟩
    exact (hcases hx hb hn).2 h

end

/-! ## The readiness yield (R127) -/

theorem readinessYield_eq (yields : List YieldEntry) (pledges : List Pledge) :
    readinessYield yields pledges =
      min (yields.map YieldEntry.power).sum
        ((pledges.filter fun p =>
          decide (p.kind = .curtail ∧ p.yields = true ∧ (p.state = .armed ∨ p.state = .active))).map Pledge.committed).sum := by
  have hfilter : pledges.filter Pledge.isYielding =
      pledges.filter fun p => decide (p.kind = .curtail ∧ p.yields = true ∧ (p.state = .armed ∨ p.state = .active)) :=
    List.filter_congr fun p _ => by rw [Bool.eq_iff_iff, isYielding_iff, decide_eq_true_eq]
  rw [← hfilter]
  rfl

/-! ## WITHDRAW (R129) -/

section
variable {s : State} {p : Pledge}

/-- R129: the pledge that a WITHDRAW completes; of the rest, the yield list and the readiness yield alone. -/
theorem pledgeWithdrawn_eq : s.pledgeWithdrawn p =
    { s with
      pledges := updateKey Pledge.id p.id (Pledge.completeWith .withdrawn) s.pledges
      reserve := (s.pledgeWithdrawn p).reserve } := by
  unfold State.pledgeWithdrawn
  dsimp only
  split <;> rfl

theorem pledgeWithdrawn_unyielding (h : p.kind = .exporting ∨ p.yields = false) : (s.pledgeWithdrawn p).reserve = s.reserve := by
  have hyields : p.isYielding = false := by
    rw [← Bool.not_eq_true, isYielding_iff]
    rcases h with h | h <;> simp [h]
  unfold State.pledgeWithdrawn
  rw [hyields]
  rfl

theorem pledgeWithdrawn_yielding (h : p.isYielding = true) :
    s.pledgeWithdrawn p = (s.updPledge p.id (Pledge.completeWith .withdrawn)).updateYield [] := if_pos h

variable {key : Nat}

theorem withdraw_notFound (hp : s.pledge? key = none) : s.withdraw key = refuse .notFound 0 s := by
  unfold State.withdraw
  rw [hp, withRecord_none]

variable (hp : s.pledge? key = some p)
include hp

theorem withdraw_unacting (hs : p.state = .booked ∨ p.state = .complete) : s.withdraw key = refuse .badState 0 s := by
  unfold State.withdraw
  rw [hp, withRecord_some]
  refine if_neg ?_
  rw [isActing_iff]
  rcases hs with h | h <;> simp [h]

theorem withdraw_acting (hs : p.state = .armed ∨ p.state = .active) :
    s.withdraw key = s.settled (s.pledgeWithdrawn p) fun _ => [] := by
  unfold State.withdraw
  rw [hp, withRecord_some]
  exact if_pos ((isActing_iff p).2 hs)

end

/-- R129: WITHDRAW of an ARMED or ACTIVE pledge. -/
theorem exec_withdraw_done {key : Half} {s : State} {p : Pledge} (ht : s.takesRequests) (hp : s.pledge? key.toNat = some p)
    (hs : p.state = .armed ∨ p.state = .active) :
    ∃ t, exec (.withdraw key) s = .next t
      ∧ AnsweredDone s (controlHead key) 1
          { s with
            pledges := updateKey Pledge.id key.toNat (Pledge.completeWith .withdrawn) s.pledges
            reserve := (s.begun.pledgeWithdrawn p).reserve } (fun _ => []) t := by
  have hid : p.id = key.toNat := key_of_findKey hp
  have ho := withdraw_acting (s := s.begun) hp hs
  rw [pledgeWithdrawn_eq, hid] at ho
  exact (exec_answered (n := 1) (c := .withdraw key) (r := .control (.withdraw key.toNat)) rfl ht rfl (by decide) rfl (by simp)
    ho rfl rfl fun _ _ => rfl :)

/-- Settles O29: the owner's answer branch by branch (`exec_withdraw_done`), the updated list member by member
(`mem_updatedYields_iff`), and the smaller of the two sums. -/
theorem withdrawCompletesPledge : Obligations.WithdrawCompletesPledge := by
  refine ⟨fun key s ht => ?_, fun u risk ht hy => ?_, readinessYield_eq⟩
  · intro k h
    have refuses {st : Status} {f : Nat} (ho : s.begun.withdraw k = refuse st f s.begun) :
        exec (.withdraw key) s = .next (s.replied h 1 st f []) :=
      exec_replied (n := 1) (c := .withdraw key) (r := .control (.withdraw k)) rfl ht rfl (by decide) rfl (by simp) ho
    refine ⟨fun hp => refuses (withdraw_notFound (s := s.begun) hp), fun p hp =>
      ⟨fun hs => refuses (withdraw_unacting (s := s.begun) hp hs), fun hs => ?_⟩⟩
    obtain ⟨t, hexec, hdone⟩ := exec_withdraw_done ht hp hs
    have hfound := hdone.pledge?_updated (completeWith_id .withdrawn) rfl hp
    rw [updateKey_eq_map] at hdone
    refine ⟨t, _, hexec, hdone, hfound, fun h => pledgeWithdrawn_unyielding (s := s.begun) h, fun hkind hyields => ?_⟩
    have hid : p.id = k := key_of_findKey hp
    rw [pledgeWithdrawn_yielding ((isYielding_iff p).2 ⟨hkind, hyields, hs⟩), hid, ← updateKey_eq_map Pledge.id]
    exact ⟨updatedYields_congr rfl rfl rfl rfl rfl _, rfl⟩
  · refine ⟨keysRising_updatedYields ht hy, fun e => (mem_updatedYields_iff ht).trans ⟨?_, ?_⟩⟩
    · rintro ⟨x, b, now, hx, hb, hn, hq, h⟩
      exact ⟨x, b, now, _, hx, hb, hn, hq, (eq_neededPower_iff hq.later _).2 rfl, h⟩
    · rintro ⟨x, b, now, power, hx, hb, hn, hq, hneeded, h⟩
      have hlater : 0 < minutesFrom now x.departure := State.QualifiesAt.later hq
      obtain rfl := (eq_neededPower_iff hlater power).1 hneeded
      exact ⟨x, b, now, hx, hb, hn, hq, h⟩

end Sys2Proof.Machine
end

section
/-! PROOFS. The trip latch (R134 to R136; O36). -/

namespace Sys2Proof.Machine

/-! ## The grid line monitor after each operation -/

/-- R136: the monitor after a recognised release of TRIP. -/
def GridMonitor.tripReleased (mode : TripMode) (g : GridMonitor) : GridMonitor :=
  if mode = .edgeLevel ∧ g.tripLatch = true ∧ g.tripAck = true then
    { g with tripLevel := .released, tripCount := 0, tripLatch := false, tripAck := false }
  else { g with tripLevel := .released, tripCount := 0 }

/-- R135: the monitor after an acknowledgement. -/
def GridMonitor.tripAcknowledged (mode : TripMode) (g : GridMonitor) : GridMonitor :=
  if g.tripLatch = false then g
  else if mode = .edge ∨ g.tripLevel = .released then { g with tripLatch := false, tripAck := false }
  else { g with tripAck := true }

section
variable {s : State}

theorem tripReleased_level (mode : TripMode) (g : GridMonitor) : (g.tripReleased mode).tripLevel = .released := by
  unfold GridMonitor.tripReleased
  split <;> rfl

theorem tripReleased_count (mode : TripMode) (g : GridMonitor) : (g.tripReleased mode).tripCount = 0 := by
  unfold GridMonitor.tripReleased
  split <;> rfl

theorem releaseTrip_eq : s.releaseTrip = { s with grid := s.grid.tripReleased s.profile.tripMode } := by
  unfold State.releaseTrip GridMonitor.tripReleased
  dsimp only
  split <;> rfl

theorem ackTrip_eq : s.ackTrip = { s with grid := s.grid.tripAcknowledged s.profile.tripMode } := by
  unfold State.ackTrip GridMonitor.tripAcknowledged
  by_cases hlatch : s.grid.tripLatch = true
  · rw [if_pos hlatch, if_neg (by simp [hlatch])]
    split
    · rename_i hmode
      rw [if_pos (.inl hmode)]
      rfl
    · rename_i hlevel
      rw [if_pos (.inr hlevel)]
      rfl
    · rename_i hmode hlevel
      rw [if_neg (by simp [hmode, hlevel])]
  · rw [if_neg hlatch, if_pos (Bool.eq_false_iff.2 hlatch)]

/-- R77: no import ceiling above the trip allowance while a trip is in force. -/
theorem Settles.importCeiling_le_tripAllowance {post t : State} (h : Settles s post t) (htrip : post.tripInForce = true)
    (hfree : t.heldAtZero = false) : t.alloc.importCeiling ≤ post.profile.tripAllowance := by
  obtain ⟨⟨_, _, _, _, _, _, hgrid, _, hprofile, _⟩, _, _, _, _, _, ⟨hceiling, _, _⟩, _⟩ := h
  have htrip' : t.tripInForce = true := by
    unfold State.tripInForce
    rw [hgrid, hprofile]
    exact htrip
  obtain ⟨_, _, hle, _⟩ := importCeiling_of_terms (s := t) Iff.rfl Iff.rfl Iff.rfl (Bool.eq_false_iff.1 hfree)
  rw [hceiling, ← hprofile]
  exact hle htrip'

end

/-- Settles O36: each row settles the monitor that `releaseTrip_eq` and `ackTrip_eq` give; the TRIP term bounds the ceiling. -/
theorem tripLatchAndAcknowledgement : Obligations.TripLatchAndAcknowledgement := by
  intro s hp
  refine ⟨⟨_, exec_event hp (c := .tripAssertion) rfl, closeEvent_settles s s.assertTrip, fun henabled hfree => ?_⟩,
    ⟨_, exec_event hp (c := .tripRelease) rfl, ?_⟩, fun hlink => ?_⟩
  · have htrip : s.assertTrip.tripInForce = true := (tripInForce_iff s.assertTrip).2 ⟨rfl, henabled⟩
    exact (closeEvent_settles s s.assertTrip).importCeiling_le_tripAllowance htrip hfree
  · rw [releaseTrip_eq]
    exact closeEvent_settles s _
  · exact exec_answered_asBegun (c := .ackTrip) (r := .control .ackTrip) (n := 1) rfl ⟨hp, hlink⟩ rfl (by decide) rfl
      (by simp) (body := fun u => pairsBody u.tripAnswer) rfl (ackTrip_eq (s := s.begun)) fun _ _ => rfl

end Sys2Proof.Machine
end

section
/-! PROOFS. The depot stop and the line that carries its break (R59, R60, R138 to R140; O35). -/

namespace Sys2Proof.Machine

/-! ## The line (R59, R60) -/

/-- R59: the line when a depot stop comes into force. A break begins again at once out of a preamble. -/
def BerthLine.stopped (l : BerthLine) : BerthLine :=
  match l.condition with
  | .preamble =>
    { l with condition := .brk, nextSend := none, grantCount := 0, roundList := [], sweep := .start, roundOpen := false }
  | .frames => { l with nextSend := none }
  | .brk => l

/-- R60: the line when a depot stop ceases to be in force. -/
def BerthLine.released (l : BerthLine) : BerthLine :=
  match l.condition with
  | .brk => { l with condition := .preamble, firstRound := false, qualifying := false }
  | .frames =>
    { l with
      nextSend := none, restart := true, roundList := [], sweep := .start, roundOpen := false
      firstRound := false, qualifying := false }
  | .preamble => { l with firstRound := false, qualifying := false }

section
variable {s : State}

theorem lineStopped_eq :
    s.lineStopped =
      { s with
        line := s.line.stopped
        berths := if s.line.condition = .preamble then s.berths.map Berth.atBreak else s.berths } := by
  unfold State.lineStopped
  split <;> rename_i hc <;> simp [BerthLine.stopped, State.beginBreak, State.abandonRound, hc]

theorem lineReleased_eq : s.lineReleased = { s with line := s.line.released } := by
  unfold State.lineReleased
  split <;> rename_i hc <;> simp [BerthLine.released, State.clearFirstRound, State.abandonRound, hc]

end

/-! ## The stop latch (R138 to R140) -/

/-- R59, R140: a berth when a depot stop comes into force: its targets at 0, and as a break leaves it where one begins. -/
def State.berthStopped (s : State) (b : Berth) : Berth :=
  if s.line.condition = .preamble then (b.setTarget (s.grantInFlight b.number) 0 0).atBreak
  else b.setTarget (s.grantInFlight b.number) 0 0

/-- R140: the stop latch set, which leaves the monitor `g`; a latch that was set already changes nothing else. -/
def State.stopLatched (s : State) (g : GridMonitor) : State :=
  if s.grid.stopLatch then { s with grid := g }
  else
    { s with
      grid := g
      line := s.line.stopped
      berths := s.berths.map s.berthStopped
      alloc := { s.alloc with passRequested := true } }

/-- R140: the stop latch cleared, which leaves the monitor `g`. -/
def State.stopCleared (s : State) (g : GridMonitor) : State :=
  { s with grid := g, line := s.line.released, alloc := { s.alloc with passRequested := true } }

/-- R138: the monitor with its stop latch set. -/
def GridMonitor.stopSet (g : GridMonitor) : GridMonitor := { g with stopLatch := true, clearRemembered := false }

/-- R139: the monitor with its stop latch clear. -/
def GridMonitor.stopClear (g : GridMonitor) : GridMonitor := { g with stopLatch := false, clearRemembered := false }

section
variable {s : State}

theorem latchStop_eq : s.latchStop = s.stopLatched s.grid.stopSet := by
  unfold State.latchStop State.stopLatched
  cases hlatch : s.grid.stopLatch with
  | true => rfl
  | false =>
    dsimp only
    rw [if_neg (by decide), if_neg (by decide), lineStopped_eq]
    have hberths : (if s.line.condition = .preamble then s.zeroTargets.berths.map Berth.atBreak else s.zeroTargets.berths)
        = s.berths.map s.berthStopped := by
      unfold State.berthStopped
      split
      · exact List.map_map
      · rfl
    rw [← hberths]
    rfl

theorem unlatchStop_eq : s.unlatchStop = s.stopCleared s.grid.stopClear := lineReleased_eq

theorem assertStop_eq :
    s.assertStop = (s.stopLatched { s.grid.stopSet with stopLevel := .asserted, stopCount := 0 }).raiseCause .stop :=
  congrArg (State.raiseCause .stop) latchStop_eq

theorem allStop_eq :
    s.allStop =
      if s.grid.stopLatch then s.stopLatched s.grid.stopSet else (s.stopLatched s.grid.stopSet).raiseCause .stop := by
  unfold State.allStop
  rw [latchStop_eq]
  cases s.grid.stopLatch <;> rfl

theorem releaseStop_of_remembered (hlatch : s.grid.stopLatch = true) (hclear : s.grid.clearRemembered = true) :
    s.releaseStop = s.stopCleared { s.grid.stopClear with stopLevel := .released, stopCount := 0 } :=
  (if_pos ⟨hlatch, hclear⟩).trans unlatchStop_eq

theorem releaseStop_of_not_remembered (h : s.grid.stopLatch = false ∨ s.grid.clearRemembered = false) :
    s.releaseStop = { s with grid := { s.grid with stopLevel := .released, stopCount := 0 } } :=
  if_neg fun ⟨hlatch, hclear⟩ => by simp [hlatch, hclear] at h

theorem clearStop_of_clear (hlatch : ¬ s.grid.stopLatch = true) : s.clearStop = s := if_neg hlatch

theorem clearStop_of_released (hlatch : s.grid.stopLatch = true) (hlevel : s.grid.stopLevel = .released) :
    s.clearStop = s.stopCleared s.grid.stopClear := by
  unfold State.clearStop
  rw [if_pos hlatch, hlevel]
  exact unlatchStop_eq

theorem clearStop_of_asserted (hlatch : s.grid.stopLatch = true) (hlevel : s.grid.stopLevel = .asserted) :
    s.clearStop = { s with grid := { s.grid with clearRemembered := true } } := by
  simp [State.clearStop, hlatch, hlevel]

/-! ## The owners of ALL_STOP and CLEAR_STOP find the records as the request found them -/

theorem stopLatched_begun (g : GridMonitor) : s.begun.stopLatched g = s.asBegun (s.stopLatched g) := by
  unfold State.stopLatched
  rw [apply_ite s.asBegun]
  rfl

theorem allStop_begun :
    s.begun.allStop =
      s.asBegun (if s.grid.stopLatch then s.stopLatched s.grid.stopSet
        else (s.stopLatched s.grid.stopSet).raiseCause .stop) := by
  rw [allStop_eq, stopLatched_begun, apply_ite s.asBegun]
  rfl

theorem clearStop_begun :
    s.begun.clearStop =
      s.asBegun (if s.grid.stopLatch = true then
        match s.grid.stopLevel with
        | .released => s.stopCleared s.grid.stopClear
        | .asserted => { s with grid := { s.grid with clearRemembered := true } }
       else s) := by
  by_cases hlatch : s.grid.stopLatch = true
  · rw [if_pos hlatch]
    split <;> rename_i hlevel
    · exact clearStop_of_released (s := s.begun) hlatch hlevel
    · exact clearStop_of_asserted (s := s.begun) hlatch hlevel
  · rw [if_neg hlatch]
    exact clearStop_of_clear (s := s.begun) hlatch

/-! ## What a depot stop in force leaves (R77 to R79, R140) -/

@[simp] theorem stopLatched_grid (g : GridMonitor) : (s.stopLatched g).grid = g := by
  unfold State.stopLatched
  split <;> rfl

theorem berthStopped_atZero (b : Berth) : (s.berthStopped b).atZero := by
  unfold State.berthStopped
  split <;> exact ⟨rfl, rfl⟩

theorem stopLatched_atZero (hlatch : s.grid.stopLatch = false) (g : GridMonitor) :
    ∀ b ∈ (s.stopLatched g).berths, b.atZero := by
  unfold State.stopLatched
  rw [if_neg (by simp [hlatch])]
  exact List.forall_mem_map.2 fun b _ => berthStopped_atZero b

variable {post t : State} (h : Settles s post t)
include h

/-- The end of an event gives no target. -/
theorem Settles.all_atZero (hz : ∀ b ∈ post.berths, b.atZero) : ∀ b ∈ t.berths, b.atZero := by
  obtain ⟨_, _, hberths, _⟩ := h
  rw [hberths]
  exact List.forall_mem_map.2 fun b hb => (keepsAim_withdrawn post b).of_atZero (hz b hb)

theorem Settles.ceilings_of_stop (hstop : post.grid.stopLatch = true) :
    t.alloc.importCeiling = 0 ∧ t.alloc.exportCeiling = 0 ∧ t.alloc.binding = .held := by
  obtain ⟨⟨_, _, _, _, _, _, hgrid, _⟩, _, _, _, _, _, hceilings, _⟩ := h
  exact ceilings_of_held hceilings ((heldAtZero_iff t).2 (.inl (hgrid ▸ hstop)))

/-- An event that leaves the stop latch set: the ceilings, and the targets where the stop came into force. -/
theorem Settles.stop_holds {g : GridMonitor} (hgrid : post.grid = g) (hberths : post.berths = (s.stopLatched g).berths)
    (hset : g.stopLatch = true) :
    t.alloc.importCeiling = 0 ∧ t.alloc.exportCeiling = 0 ∧ t.alloc.binding = .held
      ∧ (s.grid.stopLatch = false → ∀ b ∈ t.berths, b.wanted = 0 ∧ b.decided = 0) := by
  obtain ⟨himport, hexport, hbinding⟩ := h.ceilings_of_stop (hgrid ▸ hset)
  exact ⟨himport, hexport, hbinding, fun hlatch => h.all_atZero (hberths ▸ stopLatched_atZero hlatch g)⟩

end

/-- Settles O35: the four rows by `assertStop_eq`, `allStop_begun`, the two cases of a release and `clearStop_begun`; a stop
latch left set holds the ceilings and, where it was clear, the targets at 0. -/
theorem depotStopSetAndCleared : Obligations.DepotStopSetAndCleared := by
  intro s hp stopped released zeroed latched cleared setLatch clearLatch pressed freed
  have hlatched : latched = s.stopLatched := rfl
  refine ⟨?_, fun hlink => ?_, ?_, fun hlink => ?_⟩
  · have hsettles : Settles s ((latched pressed).raiseCause .stop) (s.assertStop.closeEvent s) := by
      rw [hlatched, assertStop_eq]
      exact closeEvent_settles s _
    exact ⟨_, exec_event hp (c := .stopAssertion) rfl, hsettles,
      hsettles.stop_holds (g := pressed) (stopLatched_grid pressed) rfl rfl⟩
  · obtain ⟨t, hexec, hdone⟩ := exec_answered_asBegun (c := .allStop) (r := .control .allStop) (n := 1) rfl ⟨hp, hlink⟩
      rfl (by decide) rfl (by simp) (body := fun u => pairsBody u.allStopAnswer) rfl (allStop_begun (s := s)) fun _ _ => rfl
    refine ⟨t, hexec, hdone, Settles.stop_holds hdone (g := setLatch) ?_ ?_ rfl⟩
    · cases s.grid.stopLatch <;> exact stopLatched_grid setLatch
    · cases s.grid.stopLatch <;> rfl
  · refine ⟨_, exec_event hp (c := .stopRelease) rfl, fun hlatch hclear => ?_, fun hno => ?_⟩
    · rw [releaseStop_of_remembered hlatch hclear]
      exact closeEvent_settles s _
    · rw [releaseStop_of_not_remembered hno]
      exact closeEvent_settles s _
  · exact exec_answered_asBegun (c := .clearStop) (r := .control .clearStop) (n := 1) rfl ⟨hp, hlink⟩ rfl (by decide) rfl
      (by simp) (body := fun u => pairsBody u.clearStopAnswer) rfl (clearStop_begun (s := s)) fun _ _ => rfl

end Sys2Proof.Machine
end

section
/-! PROOFS. The line samples (R133; O37). -/

namespace Sys2Proof.Machine

/-! ## A sample that shows no recognised change -/

section
variable {level : Level} {s : State}

theorem sampleTrip_of_quiet (h : level = s.grid.tripLevel ∨ s.grid.tripCount < 2) :
    s.sampleTrip level =
      { s with grid := { s.grid with tripCount := if level = s.grid.tripLevel then 0 else s.grid.tripCount + 1 } } := by
  unfold State.sampleTrip
  by_cases hlevel : level = s.grid.tripLevel
  · rw [if_pos hlevel, if_pos hlevel]
  · have hcount : s.grid.tripCount + 1 < 3 := Nat.succ_lt_succ (h.resolve_left hlevel)
    rw [if_neg hlevel, if_neg hlevel, if_pos hcount]

theorem sampleStop_of_quiet (h : level = s.grid.stopLevel ∨ s.grid.stopCount < 2) :
    s.sampleStop level =
      { s with grid := { s.grid with stopCount := if level = s.grid.stopLevel then 0 else s.grid.stopCount + 1 } } := by
  unfold State.sampleStop
  by_cases hlevel : level = s.grid.stopLevel
  · rw [if_pos hlevel, if_pos hlevel]
  · have hcount : s.grid.stopCount + 1 < 3 := Nat.succ_lt_succ (h.resolve_left hlevel)
    rw [if_neg hlevel, if_neg hlevel, if_pos hcount]

/-! ## The third sample at the opposite level -/

/-- The recognised change of TRIP to a level. -/
def State.changeTrip (level : Level) (s : State) : State :=
  match level with
  | .asserted => s.assertTrip
  | .released => s.releaseTrip

/-- The recognised change of STOP to a level. -/
def State.changeStop (level : Level) (s : State) : State :=
  match level with
  | .asserted => s.assertStop
  | .released => s.releaseStop

theorem sampleTrip_of_third (h : ¬ (level = s.grid.tripLevel ∨ s.grid.tripCount < 2)) :
    s.sampleTrip level = s.changeTrip level := by
  obtain ⟨hlevel, hcount⟩ := not_or.1 h
  unfold State.sampleTrip
  rw [if_neg hlevel, if_neg (by omega)]
  rfl

theorem sampleStop_of_third (h : ¬ (level = s.grid.stopLevel ∨ s.grid.stopCount < 2)) :
    s.sampleStop level = s.changeStop level := by
  obtain ⟨hlevel, hcount⟩ := not_or.1 h
  unfold State.sampleStop
  rw [if_neg hlevel, if_neg (by omega)]
  rfl

/-- R133: with a recognised change the level is the new one and the count begins again. -/
theorem changeTrip_line (level : Level) (s : State) :
    (s.changeTrip level).grid.tripLevel = level ∧ (s.changeTrip level).grid.tripCount = 0 := by
  cases level with
  | asserted => exact ⟨rfl, rfl⟩
  | released =>
    show s.releaseTrip.grid.tripLevel = .released ∧ s.releaseTrip.grid.tripCount = 0
    rw [releaseTrip_eq]
    exact ⟨tripReleased_level _ _, tripReleased_count _ _⟩

theorem changeStop_line (level : Level) (s : State) :
    (s.changeStop level).grid.stopLevel = level ∧ (s.changeStop level).grid.stopCount = 0 := by
  cases level with
  | asserted =>
    show s.assertStop.grid.stopLevel = .asserted ∧ s.assertStop.grid.stopCount = 0
    rw [assertStop_eq, raiseCause_grid, stopLatched_grid]
    exact ⟨rfl, rfl⟩
  | released =>
    show s.releaseStop.grid.stopLevel = .released ∧ s.releaseStop.grid.stopCount = 0
    by_cases h : s.grid.stopLatch = true ∧ s.grid.clearRemembered = true
    · rw [releaseStop_of_remembered h.1 h.2]
      exact ⟨rfl, rfl⟩
    · rw [not_and_or, Bool.not_eq_true, Bool.not_eq_true] at h
      rw [releaseStop_of_not_remembered h]
      exact ⟨rfl, rfl⟩

end

/-- Settles O37: a sample counts (`sampleTrip_of_quiet`, `sampleStop_of_quiet`) or is the recognised change, which is the effect
of the line's own row. -/
theorem lineSampleQualifies : Obligations.LineSampleQualifies := by
  intro trip stop s hp quiet
  refine ⟨⟨_, exec_event hp (c := .lineSample trip stop) rfl, closeEvent_settles s _⟩, sampleTrip_of_quiet,
    sampleStop_of_quiet, fun hthird => ?_, fun hthird => ?_⟩
  · rw [sampleTrip_of_third hthird]
    refine ⟨?_, changeTrip_line trip s⟩
    cases trip with
    | asserted => exact exec_event (f := fun s => s.assertTrip.closeEvent s) hp rfl
    | released => exact exec_event (f := fun s => s.releaseTrip.closeEvent s) hp rfl
  · rw [sampleStop_of_third hthird]
    refine ⟨?_, changeStop_line stop s⟩
    cases stop with
    | asserted => exact exec_event (f := fun s => s.assertStop.closeEvent s) hp rfl
    | released => exact exec_event (f := fun s => s.releaseStop.closeEvent s) hp rfl

end Sys2Proof.Machine
end

section
/-! PROOFS. The line and the counters (R46 to R60, R70, R97, R133, R141), operation by operation: nearly every operation keeps the
line's condition and the stop latch, chooses no frame and keeps every counter in its range. -/

namespace Sys2Proof.Machine

/-! ## The invariants of O60 as propositions -/

/-- Every counter lies in the range its rule gives it, counter by counter. -/
structure CountersIn (s : State) : Prop where
  misses : ∀ b ∈ s.berths, b.missCount ≤ 3
  meterMiss : s.line.meterMiss ≤ 3
  roundCounter : s.line.roundCounter < 65536
  overdraw : s.run.overdraw ≤ 3
  lowCount : s.grid.lowCount ≤ 8
  tripCount : s.grid.tripCount < 3
  stopCount : s.grid.stopCount < 3
  seconds : s.clock.seconds < 60
  time : ∀ x, s.clock.time = some x → x.day < 65536 ∧ x.minute < 1440

theorem countersOk_iff (s : State) : s.countersOk = true ↔ CountersIn s := by
  have htime : (match s.clock.time with
      | some x => decide (x.day < 65536) && decide (x.minute < 1440)
      | none => true) = true ↔ ∀ x, s.clock.time = some x → x.day < 65536 ∧ x.minute < 1440 := by
    cases s.clock.time <;> simp
  unfold State.countersOk
  simp only [Bool.and_eq_true, List.all_eq_true, decide_eq_true_eq]
  constructor
  · rintro ⟨⟨⟨⟨⟨⟨⟨⟨h1, h2⟩, h3⟩, h4⟩, h5⟩, h6⟩, h7⟩, h8⟩, h9⟩
    exact ⟨h1, h2, h3, h4, h5, h6, h7, h8, htime.1 h9⟩
  · rintro ⟨h1, h2, h3, h4, h5, h6, h7, h8, h9⟩
    exact ⟨⟨⟨⟨⟨⟨⟨⟨h1, h2⟩, h3⟩, h4⟩, h5⟩, h6⟩, h7⟩, h8⟩, htime.2 h9⟩

/-- R48: the cap on GRANT frames. -/
theorem grantCapOk_iff (s : State) :
    s.grantCapOk = true ↔ s.line.grantCount ≤ 4 ∧ ∀ n, s.line.nextSend = some (.grantTo n) → s.line.grantCount < 4 := by
  unfold State.grantCapOk
  rw [Bool.and_eq_true, decide_eq_true_eq]
  cases s.line.nextSend with
  | none => simp
  | some f => cases f <;> simp

/-- R46, R59, R60: what the line may hold in each condition. -/
theorem lineOk_iff (s : State) :
    s.lineOk = true ↔
      (s.line.condition = .frames ∨ (s.line.exchange = none ∧ s.line.nextSend = none))
        ∧ (s.line.exchange = none ∨ s.line.nextSend = none) ∧ (s.line.condition = .brk → s.stopInForce = true) := by
  have hbrk : (s.line.condition != .brk || s.stopInForce) = true ↔ (s.line.condition = .brk → s.stopInForce = true) := by
    cases s.line.condition <;> simp
  unfold State.lineOk
  simp only [Bool.and_eq_true, Bool.or_eq_true, beq_iff_eq, Option.isNone_iff_eq_none, and_assoc] at hbrk ⊢
  rw [hbrk]

/-- R59: a berth to which nothing has been sent and no grant is held back, and no grant is due of a target of 0. A break begins
with every berth so, and nothing but a reply changes it. -/
def Berth.unsent (b : Berth) : Prop := b.sent = 0 ∧ b.retryWait = false ∧ (b.grantDue = true → b.decided ≠ 0)

/-- While the line carries break every berth is `unsent`. -/
def State.unsentAtBreak (s : State) : Prop := s.line.condition = .brk → ∀ b ∈ s.berths, b.unsent

theorem unsentAtBreak_of_breakOk {s : State} (h : s.breakOk) : s.unsentAtBreak := by
  intro hbrk b hb
  obtain ⟨hsent, hdue, hretry⟩ := h hbrk b hb
  exact ⟨hsent, hretry, fun h => by rw [hdue] at h; cases h⟩

/-- R59, R79: under a depot stop the targets are 0, so that no grant is due. -/
theorem breakOk_of_unsentAtBreak {s : State} (hl : s.lineOk = true) (ht : s.heldTargetsZero) (h : s.unsentAtBreak) :
    s.breakOk := by
  intro hbrk b hb
  obtain ⟨hsent, hretry, hdue⟩ := h hbrk b hb
  have hstop : s.stopInForce = true := ((lineOk_iff s).1 hl).2.2 hbrk
  have hzero := (ht (by simp [State.heldAtZero, hstop]) b hb).2
  exact ⟨hsent, Bool.eq_false_iff.2 fun h => hdue h hzero, hretry⟩

/-! ## The relations -/

/-- From `s` to `t` nothing is put on the line: the depot link, the store, the line's condition and the stop latch stay, no
exchange begins, no frame is chosen, and the counters stay in their ranges. -/
structure KeepsCounts (s t : State) : Prop where
  powered : t.powered = s.powered
  depot : t.depot = s.depot
  store : t.store = s.store
  condition : t.line.condition = s.line.condition
  exchange : s.line.exchange = none → t.line.exchange = none
  nextSend : t.line.nextSend = s.line.nextSend ∨ t.line.nextSend = none
  grantCount : t.line.grantCount ≤ s.line.grantCount
  stop : t.stopInForce = s.stopInForce
  counters : CountersIn s → CountersIn t

/-- `KeepsCounts`, and a berth to which nothing has been sent stays so. -/
structure Regular (s t : State) : Prop extends KeepsCounts s t where
  unsent : (∀ b ∈ s.berths, b.unsent) → ∀ b ∈ t.berths, b.unsent

/-- Berth `b'` is `b` with its miss count in range and nothing sent to it. -/
structure Berth.KeepsBounds (b b' : Berth) : Prop where
  misses : b.missCount ≤ 3 → b'.missCount ≤ 3
  unsent : b.unsent → b'.unsent

theorem Berth.KeepsBounds.refl (b : Berth) : b.KeepsBounds b := ⟨id, id⟩

theorem Berth.KeepsBounds.trans {a b c : Berth} (h : a.KeepsBounds b) (h' : b.KeepsBounds c) : a.KeepsBounds c :=
  ⟨h'.misses ∘ h.misses, h'.unsent ∘ h.unsent⟩

section
variable {s t u : State}

theorem KeepsCounts.trans (h : KeepsCounts s t) (h' : KeepsCounts t u) : KeepsCounts s u where
  powered := h'.powered.trans h.powered
  depot := h'.depot.trans h.depot
  store := h'.store.trans h.store
  condition := h'.condition.trans h.condition
  exchange := h'.exchange ∘ h.exchange
  nextSend := h'.nextSend.elim (fun e => by rw [e]; exact h.nextSend) .inr
  grantCount := h'.grantCount.trans h.grantCount
  stop := h'.stop.trans h.stop
  counters := h'.counters ∘ h.counters

theorem Regular.trans (h : Regular s t) (h' : Regular t u) : Regular s u :=
  ⟨h.toKeepsCounts.trans h'.toKeepsCounts, h'.unsent ∘ h.unsent⟩

/-- What O60 reads of the records other than the berths. -/
def State.linkView (s : State) : (Bool × DepotLink × ProfileStore) × BerthLine × Nat × GridMonitor × DepotClock :=
  ((s.powered, s.depot, s.store), s.line, s.run.overdraw, s.grid, s.clock)

/-- The berths changed in their places, and neither a link nor any counter but the miss counts. -/
theorem regular_mapBerths {f : Berth → Berth} (hf : ∀ b : Berth, b.KeepsBounds (f b)) (hr : t.berths = s.berths.map f)
    (hv : t.linkView = s.linkView) : Regular s t := by
  simp only [State.linkView, Prod.mk.injEq] at hv
  obtain ⟨⟨hp, hd, hs⟩, hl, ho, hg, hc⟩ := hv
  refine ⟨⟨hp, hd, hs, by rw [hl], by rw [hl]; exact id, .inl (by rw [hl]), by rw [hl], ?_, fun h => ?_⟩, fun h => ?_⟩
  · unfold State.stopInForce
    rw [hg]
  · refine ⟨?_, hl ▸ h.meterMiss, hl ▸ h.roundCounter, ho ▸ h.overdraw, hg ▸ h.lowCount, hg ▸ h.tripCount,
      hg ▸ h.stopCount, hc ▸ h.seconds, hc ▸ h.time⟩
    rw [hr]
    exact List.forall_mem_map.2 fun b hb => (hf b).misses (h.misses b hb)
  · rw [hr]
    exact List.forall_mem_map.2 fun b hb => (hf b).unsent (h b hb)

/-- Only records that O60 does not read change. -/
theorem regular_of_same (h : (t.berths, t.linkView) = (s.berths, s.linkView)) : Regular s t :=
  regular_mapBerths (f := id) Berth.KeepsBounds.refl (by rw [(Prod.mk.inj h).1, List.map_id]) (Prod.mk.inj h).2

theorem regular_refl (s : State) : Regular s s := regular_of_same (by rfl)

theorem regular_updBerth (n : Nat) {f : Berth → Berth} (hf : ∀ b : Berth, b.KeepsBounds (f b)) (s : State) :
    Regular s (s.updBerth n f) :=
  regular_mapBerths (f := fun b => if b.number == n then f b else b) (fun b => by split <;> [exact hf b; exact .refl b]) rfl rfl

/-- One berth changed in any way that keeps its miss count in range. -/
theorem keepsCounts_updBerth (n : Nat) {f : Berth → Berth} (hf : ∀ b : Berth, (f b).missCount ≤ b.missCount) (s : State) :
    KeepsCounts s (s.updBerth n f) :=
  ⟨rfl, rfl, rfl, rfl, id, .inl rfl, le_rfl, rfl, fun h =>
    { h with
      misses := by
        show ∀ b ∈ updateKey Berth.number n f s.berths, b.missCount ≤ 3
        unfold updateKey
        refine List.forall_mem_map.2 fun b hb => ?_
        split
        · exact (hf b).trans (h.misses b hb)
        · exact h.misses b hb }⟩

theorem regular_foldl {α : Type} {f : State → α → State} (hf : ∀ s x, Regular s (f s x)) (l : List α) (s : State) :
    Regular s (l.foldl f s) := by
  induction l generalizing s with
  | nil => exact regular_refl s
  | cons x l ih => exact (hf s x).trans (ih _)

end

/-! ## Shared operations -/

/-- R54: a grant that a change of target makes due is due of a target other than the sent one. -/
theorem keepsBounds_setTarget (inFlight : Bool) (w d : Int) (b : Berth) : b.KeepsBounds (b.setTarget inFlight w d) where
  misses := id
  unsent := by
    rintro ⟨hsent, hretry, hdue⟩
    refine ⟨hsent, hretry, ?_⟩
    unfold Berth.setTarget
    dsimp only
    split
    · rename_i h
      rw [h]
      exact hdue
    · split
      · simp
      · rw [hsent]
        exact of_decide_eq_true

/-- The line changed with its condition kept, no exchange begun, no frame chosen and its counters in range. -/
theorem regular_line {l : BerthLine} (s : State) (hc : l.condition = s.line.condition)
    (hx : s.line.exchange = none → l.exchange = none) (hn : l.nextSend = s.line.nextSend ∨ l.nextSend = none)
    (hg : l.grantCount ≤ s.line.grantCount) (hm : s.line.meterMiss ≤ 3 → l.meterMiss ≤ 3)
    (hr : s.line.roundCounter < 65536 → l.roundCounter < 65536) : Regular s { s with line := l } :=
  ⟨⟨rfl, rfl, rfl, hc, hx, hn, hg, rfl, fun h =>
    { h with meterMiss := hm h.meterMiss, roundCounter := hr h.roundCounter }⟩, id⟩

/-- The grid line monitor changed with the stop latch kept and its counters in range. -/
theorem regular_grid {g : GridMonitor} (s : State) (hs : g.stopLatch = s.grid.stopLatch)
    (hl : s.grid.lowCount ≤ 8 → g.lowCount ≤ 8) (ht : s.grid.tripCount < 3 → g.tripCount < 3)
    (hc : s.grid.stopCount < 3 → g.stopCount < 3) : Regular s { s with grid := g } :=
  ⟨⟨rfl, rfl, rfl, rfl, id, .inl rfl, le_rfl, hs, fun h =>
    { h with lowCount := hl h.lowCount, tripCount := ht h.tripCount, stopCount := hc h.stopCount }⟩, id⟩

theorem regular_raiseIf (raised : Bool) (c : Cause) (s : State) : Regular s (s.raiseIf raised c) := by
  cases raised <;> exact regular_of_same (by rfl)

theorem regular_setTarget (n : Nat) (w d : Int) (s : State) : Regular s (s.setTarget n w d) :=
  regular_updBerth n (keepsBounds_setTarget _ w d) s

theorem regular_zeroTargets (s : State) : Regular s s.zeroTargets :=
  regular_mapBerths (f := fun b => b.setTarget (s.grantInFlight b.number) 0 0) (fun b => keepsBounds_setTarget _ 0 0 b) rfl rfl

/-! ## The end of an event and a minute event -/

theorem keepsBounds_withdrawn (s : State) (b : Berth) : b.KeepsBounds (s.withdrawn b) := by
  unfold State.withdrawn
  split
  · exact keepsBounds_setTarget _ 0 0 b
  · exact .refl b

theorem regular_refreshBuses (s : State) : Regular s s.refreshBuses := by
  rw [refreshBuses_spec]
  exact regular_mapBerths (keepsBounds_withdrawn s) rfl rfl

theorem regular_finishEvent (s before : State) : Regular s (s.finishEvent before) := by
  rw [finishEvent_spec]
  exact regular_of_same (by rfl)

theorem regular_closeEvent (s before : State) : Regular s (s.closeEvent before) := by
  have hsettled : Regular s.refreshBuses (s.refreshBuses.settleTickets before) := by
    rw [settleTickets_spec]
    exact regular_of_same (by rfl)
  exact ((regular_refreshBuses s).trans hsettled).trans (regular_finishEvent _ before)

theorem regular_unlinkBus (k : Option Nat) (s : State) : Regular s (s.unlinkBus k) := by
  cases k <;> exact regular_of_same (by rfl)

theorem regular_releaseTicket (x : Ticket) (s : State) : Regular s (s.releaseTicket x) :=
  Regular.trans (t := s.updTicket x.id _) (regular_of_same (by rfl)) (regular_unlinkBus x.bus _)

theorem regular_missTicket (x : Ticket) (s : State) : Regular s (s.missTicket x) :=
  Regular.trans (t := (s.updTicket x.id _).unlinkBus x.bus)
    (Regular.trans (t := s.updTicket x.id _) (regular_of_same (by rfl)) (regular_unlinkBus x.bus _)) (regular_of_same (by rfl))

theorem regular_ticketMinute (now : Nat) (s : State) (x : Ticket) : Regular s (s.ticketMinute now x) := by
  rcases ticketMinute_cases now s x with e | e | e <;> rw [e]
  exacts [regular_refl s, regular_missTicket x s, regular_releaseTicket x s]

theorem regular_ticketsMinute (s : State) : Regular s s.ticketsMinute := by
  unfold State.ticketsMinute
  split
  · exact regular_foldl (regular_ticketMinute _) _ s
  · exact regular_refl s

theorem regular_takeMinute (s before : State) : Regular s (s.takeMinute before) := by
  unfold State.takeMinute
  dsimp only
  have ticketed : Regular s s.refreshBuses.ticketsMinute.refreshBuses :=
    ((regular_refreshBuses s).trans (regular_ticketsMinute _)).trans (regular_refreshBuses _)
  generalize s.refreshBuses.ticketsMinute.refreshBuses = u at ticketed
  have graded : Regular u u.regrade := by
    unfold State.regrade
    exact Regular.trans (t := { u with tickets := u.tickets.map u.gradeTicket }) (regular_of_same (by rfl)) (regular_raiseIf ..)
  have pledged : Regular u.regrade (u.regrade.pledgesMinute u.newlyAtRisk) := by
    obtain ⟨pledges, reserve, attention, -, h⟩ := pledgesMinute_moved u.newlyAtRisk u.regrade
    rw [h]
    exact regular_of_same (by rfl)
  refine ((ticketed.trans graded).trans pledged).trans ?_
  split
  · exact Regular.trans (t := State.requestPass _) (regular_of_same (by rfl)) (regular_finishEvent ..)
  · exact regular_finishEvent ..

/-! ## Tickets -/

theorem regular_detachBus (k : Nat) (s : State) : Regular s (s.detachBus k) := by
  rw [detachBus_eq]
  exact regular_of_same (by rfl)

theorem regular_ticketAmended (x : Ticket) (pairs : List Pair) (s : State) : Regular s (s.ticketAmended x pairs) := by
  have taken (value : Nat) (u : State) : Regular u (u.busTaken x value) := by
    unfold State.busTaken
    split
    · split
      · exact Regular.trans (t := u.updTicket x.id _) (regular_of_same (by rfl)) (regular_unlinkBus _ _)
      · exact regular_refl u
    · split
      · exact regular_refl u
      · exact (regular_unlinkBus x.bus u).trans (regular_of_same (by rfl))
  have amended : Regular s (s.updTicket x.id (Ticket.amend pairs)) := regular_of_same (by rfl)
  unfold State.ticketAmended
  dsimp only
  split
  · exact amended.trans (taken _ _)
  · exact amended

/-! ## Run control (R63 to R72) -/

theorem regular_setRun (r : RunState) (s : State) : Regular s (s.setRun r) := by
  have moved : Regular s { s with run := { s.run with state := r } } := regular_of_same (by rfl)
  unfold State.setRun
  dsimp only
  split
  · exact moved
  · split
    · exact (moved.trans (regular_zeroTargets _)).trans (regular_of_same (by rfl))
    · exact moved.trans (regular_of_same (by rfl))

theorem regular_abortRun (c : AbortCause) (s : State) : Regular s (s.abortRun c) :=
  (regular_setRun .idle s).trans (regular_of_same (by rfl))

theorem regular_causeArises (c : AbortCause) (s : State) : Regular s (s.causeArises c) := by
  unfold State.causeArises
  split
  · exact regular_abortRun c s
  · exact regular_refl s

theorem regular_clearFirstRound (s : State) : Regular s s.clearFirstRound := regular_line s rfl id (.inl rfl) le_rfl id id

theorem regular_startRun (s : State) : Regular s s.startRun := by
  unfold State.startRun
  split
  · exact regular_of_same (by rfl)
  · exact ((regular_setRun .starting s).trans (regular_of_same (by rfl))).trans (regular_clearFirstRound _)

theorem regular_testStarting (s : State) : Regular s s.testStarting := by
  unfold State.testStarting State.endStarting
  split
  · split
    · exact regular_abortRun _ s
    · split <;> exact regular_setRun _ s
  · exact regular_refl s

theorem regular_setSources (host thermal : Bool) (s : State) : Regular s (s.setSources host thermal) := by
  have moved : Regular s { s with run := { s.run with hostPause := host, thermalPause := thermal } } :=
    regular_of_same (by rfl)
  unfold State.setSources
  dsimp only
  split
  · split
    · exact moved.trans (regular_setRun _ _)
    · exact moved
  · split
    · split
      · exact moved.trans (regular_abortRun _ _)
      · exact moved.trans (regular_setRun _ _)
    · exact moved
  · exact moved
  · exact moved

theorem regular_stopRun (s : State) : Regular s s.stopRun := by
  unfold State.stopRun
  split
  · exact regular_refl s
  · exact (regular_setRun .idle s).trans (regular_of_same (by rfl))

/-- R70: the overdraw count moves between 0 and 3. -/
theorem regular_overdraw {n : Nat} (hn : n ≤ 3) (s : State) : Regular s { s with run := { s.run with overdraw := n } } :=
  ⟨⟨rfl, rfl, rfl, rfl, id, .inl rfl, le_rfl, rfl, fun h => { h with overdraw := hn }⟩, id⟩

theorem regular_meterToRun (measured : Nat) (warn : Bool) (s : State) : Regular s (s.meterToRun measured warn) := by
  have counted : Regular s (s.countOverdraw measured) := by
    unfold State.countOverdraw
    dsimp only
    split
    · split
      · exact (regular_overdraw (Nat.min_le_left ..) s).trans (regular_causeArises .overdraw _)
      · exact regular_overdraw (Nat.min_le_left ..) s
    · exact regular_overdraw (Nat.zero_le _) s
  exact counted.trans (regular_setSources ..)

/-! ## Rounds and misses (R49, R50, R53, R58) -/

theorem regular_completeRound (s : State) : Regular s s.completeRound :=
  Regular.trans (t := { s with line := { s.line with
      roundOpen := false, roundCounter := (s.line.roundCounter + 1) % 65536
      firstRound := s.line.firstRound || s.line.qualifying } })
    (regular_line s rfl id (.inl rfl) le_rfl id (fun _ => Nat.mod_lt _ (by decide))) (regular_testStarting _)

theorem regular_pollEnded (a : Nat) (s : State) : Regular s (s.pollEnded a) := by
  unfold State.pollEnded
  split
  · exact regular_completeRound s
  · exact regular_refl s

theorem regular_abandonRound (s : State) : Regular s s.abandonRound := regular_line s rfl id (.inl rfl) le_rfl id id

theorem regular_endExchange (s : State) : Regular s s.endExchange := regular_line s rfl (fun _ => rfl) (.inl rfl) le_rfl id id

/-- R42: a frame chosen and not yet begun is dropped (log entry 5). -/
theorem regular_dropSend (s : State) : Regular s { s with line := { s.line with nextSend := none } } :=
  regular_line s rfl id (.inr rfl) le_rfl id id

/-- R58: a berth that leaves the line makes its exchange void and drops its frame. -/
theorem regular_leaveLine (n : Nat) (s : State) : Regular s (s.leaveLine n) := by
  unfold State.leaveLine
  refine regular_line s rfl (fun h => ?_) ?_ le_rfl id id
  · rw [h]
    rfl
  · dsimp only
    split
    · exact .inr rfl
    · exact .inl rfl

/-- R53: the meter miss count moves between 0 and 3. -/
theorem regular_meterMiss {n : Nat} (hn : n ≤ 3) (s : State) : Regular s { s with line := { s.line with meterMiss := n } } :=
  regular_line s rfl id (.inl rfl) le_rfl (fun _ => hn) id

theorem regular_meterMissed (s : State) : Regular s s.meterMissed := by
  unfold State.meterMissed
  dsimp only
  split
  · exact ((regular_meterMiss (Nat.min_le_left ..) s).trans (regular_of_same (by rfl))).trans (regular_causeArises ..)
  · exact regular_meterMiss (Nat.min_le_left ..) s

/-! ## The trip and sag (R134 to R137, R141, R142) -/

theorem regular_clearTrip (s : State) : Regular s s.clearTrip := regular_grid s rfl id id id

theorem regular_assertTrip (s : State) : Regular s s.assertTrip :=
  Regular.trans (t := { s with grid := { s.grid with
      tripLevel := .asserted, tripCount := 0, tripLatch := true, tripAck := false } })
    (regular_grid s rfl id (fun _ => Nat.zero_lt_succ _) id) (regular_of_same (by rfl))

theorem regular_releaseTrip (s : State) : Regular s s.releaseTrip := by
  have released : Regular s { s with grid := { s.grid with tripLevel := .released, tripCount := 0 } } :=
    regular_grid s rfl id (fun _ => Nat.zero_lt_succ _) id
  unfold State.releaseTrip
  dsimp only
  split
  · exact released.trans (regular_clearTrip _)
  · exact released

theorem regular_ackTrip (s : State) : Regular s s.ackTrip := by
  unfold State.ackTrip
  split
  · split
    · exact regular_clearTrip s
    · exact regular_clearTrip s
    · exact regular_grid s rfl id id id
  · exact regular_refl s

theorem regular_tripModeTaken (s : State) : Regular s s.tripModeTaken := by
  unfold State.tripModeTaken
  split
  · exact regular_clearTrip s
  · exact regular_refl s

theorem regular_sampleTrip (level : Level) (s : State) : Regular s (s.sampleTrip level) := by
  unfold State.sampleTrip
  split
  · exact regular_grid s rfl id (fun _ => Nat.zero_lt_succ _) id
  · split
    · rename_i h
      exact regular_grid s rfl id (fun _ => h) id
    · split
      · exact regular_assertTrip s
      · exact regular_releaseTrip s

theorem regular_takeVoltage (voltage : Nat) (s : State) : Regular s (s.takeVoltage voltage) := by
  have counted : Regular s { s with grid := { s.grid with lowCount := min 8 (s.grid.lowCount + 1) } } :=
    regular_grid s rfl (fun _ => Nat.min_le_left ..) id id
  have cleared : Regular s { s with grid := { s.grid with lowCount := 0 } } :=
    regular_grid s rfl (fun _ => Nat.zero_le _) id id
  have sagged (g : Bool) (u : State) : Regular u { u with grid := { u.grid with sag := g } } := regular_grid u rfl id id id
  unfold State.takeVoltage
  dsimp only
  split
  · split
    · exact ((counted.trans (sagged true _)).trans (regular_zeroTargets _)).trans (regular_of_same (by rfl))
    · exact counted
  · split
    · exact (cleared.trans (sagged false _)).trans (regular_of_same (by rfl))
    · exact cleared

end Sys2Proof.Machine
end

section
/-! PROOFS. The berth table, the end of an exchange, the allocation pass and the owners of requests keep the line and the counters
(O60). -/

namespace Sys2Proof.Machine

/-! ## One berth changed (R28 to R39) -/

theorem keepsBounds_settle (state : BerthState) (occupant : Option Nat) (b : Berth) : b.KeepsBounds (b.settle state occupant) :=
  ⟨id, id⟩

theorem keepsBounds_heard (b : Berth) : b.KeepsBounds b.heard := by
  unfold Berth.heard
  split
  · exact keepsBounds_settle _ _ b
  · exact .refl b

theorem keepsBounds_restore (b : Berth) : b.KeepsBounds b.restore := by
  unfold Berth.restore
  split
  · exact ⟨id, id⟩
  · exact .refl b

theorem keepsBounds_isolate (b : Berth) : b.KeepsBounds b.isolate :=
  ⟨fun _ => Nat.zero_le _, fun _ => ⟨rfl, rfl, fun h => Bool.noConfusion h⟩⟩

theorem keepsBounds_atBreak (b : Berth) : b.KeepsBounds b.atBreak :=
  ⟨id, fun _ => ⟨rfl, rfl, fun h => Bool.noConfusion h⟩⟩

/-- R62: after a records reset a grant is due where a target had been sent, which none has during break. -/
theorem keepsBounds_afterReset (b : Berth) : b.KeepsBounds b.afterReset where
  misses := id
  unsent h := ⟨h.1, rfl, fun hdue => absurd h.1 (of_decide_eq_true hdue)⟩

theorem endRetry_missCount (b : Berth) : b.endRetry.missCount = b.missCount := by
  unfold Berth.endRetry
  split <;> rfl

/-! ## The plug table, faults and misses (R30 to R39) -/

theorem regular_storeOutput (n : Nat) (present : Half) (s : State) : Regular s (s.storeOutput n present) := by
  unfold State.storeOutput
  exact regular_updBerth n (fun _ => by exact ⟨fun _ => Nat.zero_le _, id⟩) s

theorem regular_detachOccupant (n : Nat) (s : State) : Regular s (s.detachOccupant n) := by
  unfold State.detachOccupant
  split
  · exact (regular_updBerth n (f := Berth.unoccupied) (fun _ => ⟨id, id⟩) s).trans (regular_detachBus _ _)
  · exact regular_refl s

theorem regular_attachBus (n k : Nat) (s : State) : Regular s (s.attachBus n k) :=
  (regular_updBerth n (keepsBounds_settle .occupied (some k)) s).trans (regular_of_same (by rfl))

theorem regular_moveBus (m n k : Nat) (s : State) : Regular s (s.moveBus m n k) := by
  have left : Regular s (s.updBerth m Berth.unoccupied) := regular_updBerth m (fun _ => by exact ⟨id, id⟩) s
  exact (left.trans (regular_of_same (by rfl))).trans (regular_attachBus n k _)

theorem regular_unplugged (n : Nat) (state : BerthState) (s : State) : Regular s (s.unplugged n state) :=
  ((regular_detachOccupant n s).trans (regular_updBerth n (keepsBounds_settle state none) _)).trans (regular_setTarget n 0 0 _)

theorem regular_toForeign (n vehicle : Nat) (reason : ForeignReason) (s : State) :
    Regular s (s.toForeign n vehicle reason) := by
  have held : Regular s (s.updBerth n (Berth.holdVehicle vehicle reason)) :=
    regular_updBerth n (fun _ => by exact ⟨id, id⟩) s
  unfold State.toForeign
  split
  · refine Regular.trans ?_ (regular_raiseIf ..)
    split
    · exact held.trans (regular_setTarget n 0 0 _)
    · exact held
  · exact regular_refl s

theorem regular_takeVehicle (n vehicle : Nat) (s : State) : Regular s (s.takeVehicle n vehicle) := by
  unfold State.takeVehicle
  split
  · exact regular_toForeign ..
  · split
    · exact regular_attachBus ..
    · split
      · exact regular_moveBus ..
      · exact regular_toForeign ..
    · exact regular_toForeign ..

theorem regular_plugged (n vehicle : Nat) (s : State) : Regular s (s.plugged n vehicle) := by
  unfold State.plugged
  split
  · split
    · exact regular_updBerth n (keepsBounds_settle .occupied _) s
    · exact ((regular_detachOccupant n s).trans (regular_setTarget n 0 0 _)).trans (regular_takeVehicle ..)
  · exact regular_takeVehicle ..

theorem regular_plugEvaluation (n : Nat) (body : StatusBody) (s : State) : Regular s (s.plugEvaluation n body) := by
  unfold State.plugEvaluation
  split
  · split
    · exact regular_unplugged ..
    · exact regular_plugged ..
  · exact regular_unplugged ..

theorem regular_faultedPlugCheck (n : Nat) (body : StatusBody) (s : State) : Regular s (s.faultedPlugCheck n body) := by
  unfold State.faultedPlugCheck
  split
  · split
    · exact regular_refl s
    · exact regular_detachOccupant n s
  · exact regular_refl s

theorem regular_episode (entered : Bool) (s : State) : Regular s (s.episode entered) := by
  unfold State.episode
  split <;> exact regular_of_same (by rfl)

theorem regular_fault (n : Nat) (cause : FaultCause) (code : Option Nat) (s : State) : Regular s (s.fault n cause code) := by
  unfold State.fault
  split
  · refine Regular.trans (Regular.trans ?_ (regular_setTarget n 0 0 _)) (regular_episode ..)
    exact regular_updBerth n (fun _ => by exact ⟨id, id⟩) s
  · exact regular_refl s

theorem regular_takePlug (n : Nat) (body : StatusBody) (s : State) : Regular s (s.takePlug n body) := by
  unfold State.takePlug
  split
  · split
    · exact regular_faultedPlugCheck ..
    · split
      · exact (regular_fault ..).trans (regular_faultedPlugCheck ..)
      · exact regular_plugEvaluation ..
  · exact regular_refl s

theorem regular_takePackData (n : Nat) (pack : Option PackData) (s : State) : Regular s (s.takePackData n pack) := by
  unfold State.takePackData
  split
  · split <;> exact regular_of_same (by rfl)
  · exact regular_refl s

theorem regular_takeStatus (n : Nat) (body : StatusBody) (s : State) : Regular s (s.takeStatus n body) :=
  ((regular_storeOutput n body.output s).trans (regular_takePlug n body _)).trans (regular_takePackData ..)

theorem regular_thirdMiss (n : Nat) (s : State) : Regular s (s.thirdMiss n) := by
  have stale (u : State) : Regular u (u.staleOccupant n) := by
    unfold State.staleOccupant
    split <;> exact regular_of_same (by rfl)
  unfold State.thirdMiss
  split
  · split
    · exact stale s
    · exact (regular_fault ..).trans (stale _)
  · exact regular_refl s

theorem regular_confirmPlug (n : Nat) (accepted : Bool) (s : State) : Regular s (s.confirmPlug n accepted) := by
  unfold State.confirmPlug
  split
  · exact regular_updBerth n keepsBounds_heard s
  · exact regular_fault ..

theorem regular_setOutOfService (n : Nat) (s : State) : Regular s (s.setOutOfService n) := by
  unfold State.setOutOfService
  split
  · split
    · exact regular_refl s
    · exact ((regular_detachOccupant n s).trans (regular_updBerth n keepsBounds_isolate _)).trans (regular_leaveLine n _)
  · exact regular_refl s

theorem regular_berthAmended (key : Nat) (pairs : List Pair) (s : State) : Regular s (s.berthAmended key pairs) := by
  have service (u : State) : Regular u (u.serviceTaken key pairs) := by
    unfold State.serviceTaken
    split
    · exact regular_refl u
    · split
      · exact regular_setOutOfService ..
      · exact regular_updBerth key keepsBounds_restore u
  have amended : Regular s ((s.updBerth key (Berth.amend pairs)).serviceTaken key pairs) :=
    (regular_updBerth key (f := Berth.amend pairs) (fun _ => ⟨id, id⟩) s).trans (service _)
  unfold State.berthAmended
  dsimp only
  split
  · exact amended.trans (regular_of_same (by rfl))
  · exact amended

/-! ## The end of an exchange (R44, R45, R52, R53, R56 to R58)

A reply can leave a grant due of a berth, so that it keeps the counts alone; it comes to no line that carries break. -/

theorem regular_takeMeter (body : MeterBody) (s : State) : Regular s (s.takeMeter body) :=
  (((regular_meterMiss (Nat.zero_le _) s).trans (regular_takeVoltage ..)).trans (regular_meterToRun ..)).trans
    (regular_of_same (by rfl))

theorem regular_countMiss (n : Nat) (s : State) : Regular s (s.countMiss n) := by
  unfold State.countMiss
  split
  · have counted : Regular s (s.updBerth n fun b => { b with missCount := min 3 (b.missCount + 1) }) :=
      regular_updBerth n (fun _ => by exact ⟨fun _ => Nat.min_le_left .., id⟩) s
    dsimp only
    split
    · exact counted.trans (regular_thirdMiss ..)
    · exact counted
  · exact regular_refl s

theorem keepsCounts_berthPollEnded (n : Nat) (s : State) : KeepsCounts s (s.berthPollEnded n) :=
  (keepsCounts_updBerth n (fun b => (endRetry_missCount b).le) s).trans (regular_pollEnded n _).toKeepsCounts

theorem keepsCounts_grantConfirm (n : Nat) (target : Int) (body : ConfirmBody) (s : State) :
    KeepsCounts s (s.grantConfirm n target body) := by
  have stored : Regular s (s.endExchange.storeOutput n body.output) := (regular_endExchange s).trans (regular_storeOutput ..)
  refine (stored.toKeepsCounts.trans (keepsCounts_updBerth n (fun b => ?_) _)).trans (regular_confirmPlug ..).toKeepsCounts
  split <;> exact le_rfl

theorem keepsCounts_exchangeMissed (e : Exchange) (s : State) : KeepsCounts s (s.exchangeMissed e) := by
  have ended := (regular_endExchange s).toKeepsCounts
  unfold State.exchangeMissed
  split
  · split
    · exact (ended.trans (regular_meterMissed _).toKeepsCounts).trans (regular_pollEnded ..).toKeepsCounts
    · exact (ended.trans (regular_countMiss ..).toKeepsCounts).trans (keepsCounts_berthPollEnded ..)
  · exact (ended.trans (keepsCounts_updBerth e.address (f := Berth.holdBack) (fun _ => le_rfl) _)).trans
      (regular_countMiss ..).toKeepsCounts

theorem keepsCounts_exchangeReply (e : Exchange) (r : Reply) (s : State) : KeepsCounts s (s.exchangeReply e r) := by
  have ended := (regular_endExchange s).toKeepsCounts
  unfold State.exchangeReply
  split
  · split
    · exact (ended.trans (regular_takeStatus ..).toKeepsCounts).trans (keepsCounts_berthPollEnded ..)
    · exact keepsCounts_exchangeMissed e s
  · split
    · exact (ended.trans (regular_takeMeter ..).toKeepsCounts).trans (regular_pollEnded ..).toKeepsCounts
    · exact keepsCounts_exchangeMissed e s
  · split
    · exact keepsCounts_grantConfirm ..
    · exact keepsCounts_exchangeMissed e s
  · exact keepsCounts_exchangeMissed e s
  · exact keepsCounts_exchangeMissed e s
  · exact keepsCounts_exchangeMissed e s

theorem keepsCounts_exchangeVoid (e : Exchange) (s : State) : KeepsCounts s (s.exchangeVoid e) := by
  have ended := (regular_endExchange s).toKeepsCounts
  unfold State.exchangeVoid
  split
  · exact ended.trans (regular_pollEnded ..).toKeepsCounts
  · exact ended

/-! ## The allocation pass (R82 to R92) -/

/-- Every change that a pass makes is the setting of a target. -/
theorem regular_allocate (s : State) : Regular s s.allocate := by
  have cleared : Regular s s.zeroOthers :=
    regular_mapBerths (f := fun b => if b.isClaimant then b else b.setTarget (s.grantInFlight b.number) 0 0)
      (fun b => by split <;> [exact .refl b; exact keepsBounds_setTarget _ 0 0 b]) rfl rfl
  have decided (exporters : List (Nat × Nat)) (shares : List Share) (u : State) :
      Regular u (u.decideAtOnce exporters shares) := by
    refine regular_mapBerths (f := u.decideBerth exporters shares) (fun b => ?_) rfl rfl
    unfold State.decideBerth
    split
    · exact keepsBounds_setTarget _ _ _ b
    · exact .refl b
  have imported (u : State) (n : Nat) : Regular u (u.raiseImport n) := by
    unfold State.raiseImport
    split
    · split
      · exact regular_setTarget ..
      · exact regular_refl u
    · exact regular_refl u
  have exported (u : State) (n : Nat) : Regular u (u.raiseExport n) := by
    unfold State.raiseExport
    split
    · split
      · exact regular_setTarget ..
      · exact regular_refl u
    · exact regular_refl u
  exact ((cleared.trans (decided _ _ _)).trans (regular_foldl imported _ _)).trans (regular_foldl exported _ _)

/-! ## What is put on the line (R47 to R60, R138 to R140) -/

/-- From `s` to `t` each invariant of O60 on the line and the counters is kept. -/
structure KeepsLine (s t : State) : Prop where
  cap : s.grantCapOk = true → t.grantCapOk = true
  counters : CountersIn s → CountersIn t
  line : s.lineOk = true → t.lineOk = true
  unsent : s.lineOk = true → s.unsentAtBreak → t.unsentAtBreak

/-- `KeepsLine`, with the depot link and the store as they were. -/
structure KeepsLink (s t : State) : Prop extends KeepsLine s t where
  powered : t.powered = s.powered
  depot : t.depot = s.depot
  store : t.store = s.store

section
variable {s t u : State}

theorem KeepsLink.trans (h : KeepsLink s t) (h' : KeepsLink t u) : KeepsLink s u where
  cap := h'.cap ∘ h.cap
  counters := h'.counters ∘ h.counters
  line := h'.line ∘ h.line
  unsent hl hs := h'.unsent (h.line hl) (h.unsent hl hs)
  powered := h'.powered.trans h.powered
  depot := h'.depot.trans h.depot
  store := h'.store.trans h.store

theorem KeepsCounts.cap (h : KeepsCounts s t) (hs : s.grantCapOk = true) : t.grantCapOk = true := by
  rw [grantCapOk_iff] at hs ⊢
  refine ⟨h.grantCount.trans hs.1, fun n hn => ?_⟩
  rcases h.nextSend with e | e
  · exact h.grantCount.trans_lt (hs.2 n (e ▸ hn))
  · rw [e] at hn
    cases hn

theorem KeepsCounts.line (h : KeepsCounts s t) (hs : s.lineOk = true) : t.lineOk = true := by
  have dropped : s.line.nextSend = none → t.line.nextSend = none := fun e => h.nextSend.elim (fun e' => e'.trans e) id
  rw [lineOk_iff] at hs ⊢
  rw [h.condition, h.stop]
  exact ⟨hs.1.imp id (And.imp h.exchange dropped), hs.2.1.imp h.exchange dropped, hs.2.2⟩

theorem KeepsCounts.keepsLink (h : KeepsCounts s t) (hu : s.lineOk = true → s.unsentAtBreak → t.unsentAtBreak) :
    KeepsLink s t :=
  ⟨⟨h.cap, h.counters, h.line, hu⟩, h.powered, h.depot, h.store⟩

theorem Regular.keepsLink (h : Regular s t) : KeepsLink s t :=
  h.toKeepsCounts.keepsLink fun _ hs hbrk => h.unsent (hs (h.condition ▸ hbrk))

theorem keepsLink_refl (s : State) : KeepsLink s s := (regular_refl s).keepsLink

/-- R46: the line of an exchange in flight carries no break. -/
theorem condition_of_exchange {e : Exchange} (hl : s.lineOk = true) (he : s.line.exchange = some e) :
    s.line.condition = .frames := by
  rcases ((lineOk_iff s).1 hl).1 with h | ⟨h, _⟩
  · exact h
  · rw [he] at h
    cases h

/-- What ends an exchange in flight. -/
theorem KeepsCounts.ofExchange (h : KeepsCounts s t) {e : Exchange} (he : s.line.exchange = some e) : KeepsLink s t :=
  h.keepsLink fun hl _ hbrk => by
    rw [h.condition, condition_of_exchange hl he] at hbrk
    cases hbrk

theorem SameRecords.keepsLine (h : SameRecords s t) : KeepsLine s t where
  cap hs := by unfold State.grantCapOk at hs ⊢; rwa [h.line]
  counters hs := (countersOk_iff t).1 (by
    rw [← countersOk_iff] at hs
    unfold State.countersOk at hs ⊢
    rwa [h.berths, h.line, h.run, h.grid, h.clock])
  line hs := by unfold State.lineOk State.stopInForce at hs ⊢; rwa [h.line, h.grid]
  unsent _ hs := by unfold State.unsentAtBreak at hs ⊢; rwa [h.line, h.berths]

/-- R59: break begins at no exchange in flight and under a stop. -/
theorem keepsLink_beginBreak (hstop : s.stopInForce = true) (hx : s.lineOk = true → s.line.exchange = none) :
    KeepsLink s s.beginBreak where
  cap _ := rfl
  counters h := { h with misses := List.forall_mem_map.2 h.misses }
  line hl := (lineOk_iff _).2 ⟨.inr ⟨hx hl, rfl⟩, .inr rfl, fun _ => hstop⟩
  unsent _ _ _ := List.forall_mem_map.2 fun _ _ => ⟨rfl, rfl, fun h => Bool.noConfusion h⟩
  powered := rfl
  depot := rfl
  store := rfl

/-- R47, R48: a frame chosen while the line carries frames and no exchange, a GRANT below the cap. -/
theorem keepsLink_chooseSend {f : NextSend} (hc : s.line.condition = .frames) (hx : s.line.exchange = none)
    (hcap : ∀ n, f = .grantTo n → s.line.grantCount < 4) : KeepsLink s (s.chooseSend f) where
  cap h := (grantCapOk_iff _).2 ⟨((grantCapOk_iff s).1 h).1, fun n hn => hcap n (Option.some.inj hn)⟩
  counters h := { h with }
  line h := (lineOk_iff _).2 ⟨.inl hc, .inl hx, ((lineOk_iff s).1 h).2.2⟩
  unsent _ h := h
  powered := rfl
  depot := rfl
  store := rfl

theorem keepsLink_pollStep (hc : s.line.condition = .frames) (hx : s.line.exchange = none) : KeepsLink s s.pollStep := by
  unfold State.pollStep
  split
  · exact keepsLink_chooseSend hc hx (by simp)
  · split
    · exact keepsLink_chooseSend hc hx (by simp)
    · have completed := regular_completeRound s
      exact completed.keepsLink.trans
        (keepsLink_chooseSend (completed.condition.trans hc) (completed.exchange hx) (by simp))

theorem keepsLink_chooseNext (hc : s.line.condition = .frames) (hx : s.line.exchange = none) : KeepsLink s s.chooseNext := by
  unfold State.chooseNext
  split
  · rename_i hstop
    exact keepsLink_beginBreak hstop fun _ => hx
  · split
    · exact keepsLink_chooseSend hc hx (by simp)
    · split
      · rename_i hcap
        split
        · exact keepsLink_chooseSend hc hx fun _ _ => hcap
        · exact keepsLink_pollStep hc hx
      · exact keepsLink_pollStep hc hx

theorem keepsLink_takeChoice (s : State) : KeepsLink s s.takeChoice := by
  unfold State.takeChoice
  split
  · rename_i hdue
    unfold State.choiceDue at hdue
    simp only [Bool.and_eq_true, beq_iff_eq, Option.isNone_iff_eq_none] at hdue
    obtain ⟨⟨hc, hx⟩, -⟩ := hdue
    exact (keepsLink_chooseNext hc hx).trans (regular_closeEvent _ s).keepsLink
  · exact keepsLink_refl s

/-- The line as a frame's first character leaves it: an exchange in flight, no frame chosen, and at most one GRANT more, which
had been chosen below the cap. -/
theorem keepsLink_sent {line : BerthLine} (hc : s.lineOk = true → line.condition = .frames) (hn : line.nextSend = none)
    (hcap : s.grantCapOk = true → line.grantCount ≤ 4) (hmiss : line.meterMiss = s.line.meterMiss)
    (hround : line.roundCounter = s.line.roundCounter) : KeepsLink s { s with line := line } where
  cap h := (grantCapOk_iff _).2 ⟨hcap h, fun n hf => by rw [show line.nextSend = _ from hf] at hn; cases hn⟩
  counters h :=
    { h with
      meterMiss := show line.meterMiss ≤ 3 from hmiss ▸ h.meterMiss
      roundCounter := show line.roundCounter < 65536 from hround ▸ h.roundCounter }
  line h := (lineOk_iff _).2 ⟨.inl (hc h), .inr hn, fun hbrk => by
    rw [show line.condition = _ from hbrk] at hc
    cases hc h⟩
  unsent hl _ hbrk := by
    rw [show line.condition = _ from hbrk] at hc
    cases hc hl
  powered := rfl
  depot := rfl
  store := rfl

/-- R46: a frame is chosen only while the line carries frames. -/
theorem condition_of_nextSend {f : NextSend} (hf : s.line.nextSend = some f) (hl : s.lineOk = true) :
    s.line.condition = .frames := by
  rcases ((lineOk_iff s).1 hl).1 with h | ⟨_, h⟩
  · exact h
  · rw [hf] at h
    cases h

theorem keepsLink_sendPoll (s : State) : KeepsLink s s.sendPoll := by
  unfold State.sendPoll
  split
  · rename_i hf
    exact keepsLink_sent (condition_of_nextSend hf) rfl (fun _ => Nat.zero_le _) rfl rfl
  · rename_i hf
    exact keepsLink_sent (condition_of_nextSend hf) rfl (fun _ => Nat.zero_le _) rfl rfl
  · exact keepsLink_refl s
  · exact keepsLink_refl s

theorem keepsLink_sendGrant {n : Nat} (hf : s.line.nextSend = some (.grantTo n)) (target : Int) :
    KeepsLink s (s.sendGrant n target) := by
  have sent := keepsLink_sent (s := s)
    (line :=
      { s.line with
        exchange := some { address := n, kind := .grant target, void := false }
        nextSend := none, grantCount := s.line.grantCount + 1, txd := grantFrame n target })
    (condition_of_nextSend hf) rfl (fun h => ((grantCapOk_iff s).1 h).2 n hf) rfl rfl
  refine sent.trans (Regular.keepsLink ?_)
  unfold State.sendGrant
  exact regular_updBerth n (fun _ => by exact ⟨id, fun h => ⟨h.1, h.2.1, fun hdue => Bool.noConfusion hdue⟩⟩) _

theorem keepsLink_sendChosenGrant (s : State) : KeepsLink s s.sendChosenGrant := by
  unfold State.sendChosenGrant
  split
  · rename_i n hf
    split
    · split
      · exact keepsLink_sendGrant hf _
      · exact (regular_dropSend s).keepsLink
    · exact (regular_dropSend s).keepsLink
  · exact keepsLink_refl s
  · exact keepsLink_refl s
  · exact keepsLink_refl s

/-- R46: no exchange is in flight during break and preamble. -/
theorem exchange_of_condition (hc : s.line.condition ≠ .frames) (hl : s.lineOk = true) : s.line.exchange = none :=
  (((lineOk_iff s).1 hl).1.resolve_left hc).1

theorem keepsLink_endPreamble (s : State) : KeepsLink s s.endPreamble := by
  unfold State.endPreamble
  split
  · rename_i hc
    split
    · rename_i hstop
      exact keepsLink_beginBreak hstop (exchange_of_condition (by simp [hc]))
    · exact keepsLink_sent (fun _ => rfl) rfl (fun _ => Nat.zero_le _) rfl rfl
  · exact keepsLink_refl s
  · exact keepsLink_refl s

theorem keepsLink_lineStopped (hstop : s.stopInForce = true) : KeepsLink s s.lineStopped := by
  unfold State.lineStopped
  split
  · rename_i hc
    exact keepsLink_beginBreak hstop (exchange_of_condition (by simp [hc]))
  · exact (regular_dropSend s).keepsLink
  · exact keepsLink_refl s

/-- R140: a depot stop comes into force, or stays so. -/
theorem keepsLink_stopSet (s : State) :
    KeepsLink s { s with grid := { s.grid with stopLatch := true, clearRemembered := false } } where
  cap := id
  counters h := { h with }
  line h := by
    obtain ⟨hcarried, hone, -⟩ := (lineOk_iff s).1 h
    exact (lineOk_iff _).2 ⟨hcarried, hone, fun _ => rfl⟩
  unsent _ h := h
  powered := rfl
  depot := rfl
  store := rfl

theorem keepsLink_latchStop (s : State) : KeepsLink s s.latchStop := by
  have latched := keepsLink_stopSet s
  unfold State.latchStop
  dsimp only
  split
  · exact latched
  · exact (latched.trans ((regular_zeroTargets _).trans (regular_of_same (by rfl))).keepsLink).trans (keepsLink_lineStopped rfl)

/-- R60: with the depot stop the line leaves break. -/
theorem lineReleased_condition (s : State) : s.lineReleased.line.condition ≠ .brk := by
  unfold State.lineReleased
  split
  · simp
  · rename_i hc
    simp [hc]
  · rename_i hc
    simp [hc]

/-- R60: from break the line enters PREAMBLE. -/
theorem keepsLink_beginPreamble (hc : s.line.condition = .brk) :
    KeepsLink s { s with line := { s.line with condition := .preamble } } where
  cap := id
  counters h := { h with }
  line h := by
    obtain ⟨hcarried, hone, -⟩ := (lineOk_iff s).1 h
    exact (lineOk_iff _).2 ⟨.inr (hcarried.resolve_left (by simp [hc])), hone, fun hbrk => by cases hbrk⟩
  unsent _ _ hbrk := by cases hbrk
  powered := rfl
  depot := rfl
  store := rfl

theorem keepsLink_lineReleased (s : State) : KeepsLink s s.lineReleased := by
  unfold State.lineReleased
  split
  · rename_i hc
    exact (keepsLink_beginPreamble hc).trans (regular_clearFirstRound _).keepsLink
  · have dropped : Regular s { s with line := { s.line with nextSend := none, restart := true } } :=
      regular_line s rfl id (.inr rfl) le_rfl id id
    exact ((dropped.trans (regular_abandonRound _)).trans (regular_clearFirstRound _)).keepsLink
  · exact (regular_clearFirstRound s).keepsLink

/-- R139: the stop latch cleared, on a line that does not carry break. -/
theorem keepsLink_stopCleared (hc : s.line.condition ≠ .brk) :
    KeepsLink s { s with grid := { s.grid with stopLatch := false, clearRemembered := false } } where
  cap := id
  counters h := { h with }
  line h := by
    obtain ⟨hcarried, hone, -⟩ := (lineOk_iff s).1 h
    exact (lineOk_iff _).2 ⟨hcarried, hone, fun hbrk => absurd hbrk hc⟩
  unsent _ h := h
  powered := rfl
  depot := rfl
  store := rfl

/-- The release of the line and the stop latch touch each their own items. -/
theorem unlatchStop_eq_lineReleased (s : State) :
    s.unlatchStop =
      State.requestPass
        { s.lineReleased with grid := { s.lineReleased.grid with stopLatch := false, clearRemembered := false } } := by
  unfold State.unlatchStop State.lineReleased
  cases hc : s.line.condition <;> simp only [requestPass_line, hc] <;> rfl

theorem keepsLink_unlatchStop (s : State) : KeepsLink s s.unlatchStop := by
  rw [unlatchStop_eq_lineReleased]
  exact ((keepsLink_lineReleased s).trans (keepsLink_stopCleared (lineReleased_condition s))).trans
    (Regular.keepsLink (regular_of_same (by rfl)))

theorem keepsLink_assertStop (s : State) : KeepsLink s s.assertStop := by
  have asserted : Regular s { s with grid := { s.grid with stopLevel := .asserted, stopCount := 0 } } :=
    regular_grid s rfl id id (fun _ => Nat.zero_lt_succ _)
  exact (asserted.keepsLink.trans (keepsLink_latchStop _)).trans (Regular.keepsLink (regular_of_same (by rfl)))

theorem keepsLink_allStop (s : State) : KeepsLink s s.allStop :=
  (keepsLink_latchStop s).trans (regular_raiseIf ..).keepsLink

theorem keepsLink_releaseStop (s : State) : KeepsLink s s.releaseStop := by
  have released : Regular s { s with grid := { s.grid with stopLevel := .released, stopCount := 0 } } :=
    regular_grid s rfl id id (fun _ => Nat.zero_lt_succ _)
  unfold State.releaseStop
  dsimp only
  split
  · exact released.keepsLink.trans (keepsLink_unlatchStop _)
  · exact released.keepsLink

theorem keepsLink_clearStop (s : State) : KeepsLink s s.clearStop := by
  unfold State.clearStop
  split
  · split
    · exact keepsLink_unlatchStop s
    · exact Regular.keepsLink (by exact regular_grid s rfl id id id)
  · exact keepsLink_refl s

theorem keepsLink_sampleStop (level : Level) (s : State) : KeepsLink s (s.sampleStop level) := by
  unfold State.sampleStop
  split
  · exact Regular.keepsLink (by exact regular_grid s rfl id id fun _ => Nat.zero_lt_succ _)
  · split
    · rename_i h
      exact Regular.keepsLink (by exact regular_grid s rfl id id fun _ => h)
    · split
      · exact keepsLink_assertStop s
      · exact keepsLink_releaseStop s

end

end Sys2Proof.Machine
end

section
/-! PROOFS. Every step keeps both links in a legal state and every counter in its range (O60): the owners of requests, the events,
POWER_ON, and the depot link's own transactions. -/

namespace Sys2Proof.Machine

/-! ## The clock (R97 to R99) -/

/-- The clock set within its ranges. -/
theorem regular_clock {c : DepotClock} (s : State) (hs : s.clock.seconds < 60 → c.seconds < 60)
    (ht : (∀ x, s.clock.time = some x → x.day < 65536 ∧ x.minute < 1440) →
      ∀ x, c.time = some x → x.day < 65536 ∧ x.minute < 1440) : Regular s { s with clock := c } :=
  ⟨⟨rfl, rfl, rfl, rfl, id, .inl rfl, le_rfl, rfl, fun h => { h with seconds := hs h.seconds, time := ht h.time }⟩, id⟩

/-- R98: the next minute is a depot time. -/
theorem next_in_range {x : DepotMoment} (h : x.day < 65536 ∧ x.minute < 1440) : x.next.day < 65536 ∧ x.next.minute < 1440 := by
  unfold DepotMoment.next
  split
  · rename_i hm
    exact ⟨h.1, hm⟩
  · dsimp only
    split <;> omega

theorem regular_advanceMinute (s : State) : Regular s s.advanceMinute := by
  unfold State.advanceMinute
  split
  · rename_i x hx
    refine (regular_clock s (fun _ => Nat.zero_lt_succ _) fun h y hy => ?_).trans (regular_takeMinute _ s)
    cases hy
    exact next_in_range (h x hx)
  · exact regular_refl s

/-- R99: the day and the minute that an accepted SET_CLOCK carries are a depot time. -/
theorem regular_clockTaken {pairs : List Pair} (hc : checkPairs 2 clockFieldFits [1, 2] [] pairs = none) (s : State) :
    Regular s (s.clockTaken pairs) := by
  obtain ⟨day, hday⟩ := carriedFor_required hc (i := 1) (by simp)
  obtain ⟨minute, hminute⟩ := carriedFor_required hc (i := 2) (by simp)
  have hd := (within_iff 0 65535 day).1 (carriedFor_fits hc hday)
  have hm := (within_iff 0 1439 minute).1 (carriedFor_fits hc hminute)
  refine regular_clock s (fun _ => Nat.zero_lt_succ _) fun _ x hx => ?_
  cases hx
  simp only [natField, hday, hminute, Option.map_some, Option.getD_some]
  omega

theorem regular_countSecond (s : State) : Regular s s.countSecond := by
  rw [countSecond_eq]
  have counted : Regular s
      { s with
        clock :=
          if s.clock.time.isSome ∧ s.clock.seconds < 59 then { s.clock with seconds := s.clock.seconds + 1 }
          else s.clock } := by
    refine regular_clock s ?_ ?_
    · split
      · rename_i h
        intro
        show s.clock.seconds + 1 < 60
        omega
      · exact id
    · split <;> exact id
  exact counted.trans (regular_of_same (by rfl))

/-! ## Owners of requests (R151, R152) -/

section
variable {s t : State}

/-- What an owner leaves, settled. -/
theorem KeepsLink.settled (h : KeepsLink s t) (body : State → List Byte) : KeepsLink s (s.settled t body).state :=
  h.trans (regular_closeEvent t s).keepsLink

theorem Regular.settled (h : Regular s t) (body : State → List Byte) : KeepsLink s (s.settled t body).state :=
  h.keepsLink.settled body

theorem keepsLink_withRecord {α : Type} {record : Option α} {answer : α → Answer} (ha : ∀ r, KeepsLink s (answer r).state) :
    KeepsLink s (withRecord record s answer).state := by
  cases record with
  | none => exact keepsLink_refl s
  | some r => exact ha r

theorem keepsLink_withPairs {check : Option (Status × Nat)} {answer : Answer} (ha : KeepsLink s answer.state) :
    KeepsLink s (withPairs check s answer).state := by
  cases check with
  | none => exact ha
  | some failure => exact keepsLink_refl s

theorem keepsLink_lookup (record : Option (List (Option Int))) (s : State) : KeepsLink s (lookupAnswer record s).state := by
  cases record <;> exact keepsLink_refl s

theorem keepsLink_enrolBus (key : Nat) (pairs : List Pair) (s : State) : KeepsLink s (s.enrolBus key pairs).state := by
  unfold State.enrolBus
  split
  · exact keepsLink_refl s
  · split
    · exact keepsLink_refl s
    · refine keepsLink_withPairs ?_
      split
      · exact keepsLink_refl s
      · exact Regular.settled (regular_of_same (by rfl)) _

/-- R25: a berth enrolled has missed nothing and been sent nothing. -/
theorem regular_insertBerth {b : Berth} (hm : b.missCount ≤ 3) (hu : b.unsent) (s : State) :
    Regular s { s with berths := insertByKey Berth.number b s.berths } := by
  have inserted {P : Berth → Prop} (hb : P b) (hs : ∀ x ∈ s.berths, P x) :
      ∀ x ∈ insertByKey Berth.number b s.berths, P x := by
    intro x hx
    rcases (mem_insertByKey b x s.berths).1 hx with rfl | hx
    · exact hb
    · exact hs x hx
  exact ⟨⟨rfl, rfl, rfl, rfl, id, .inl rfl, le_rfl, rfl, fun h => { h with misses := inserted hm h.misses }⟩, inserted hu⟩

theorem newBerth_unsent (n b t q mi me : Nat) (c : Int) (o : Bool) : (newBerth n b t q mi me c o).unsent :=
  ⟨rfl, rfl, fun h => Bool.noConfusion h⟩

theorem keepsLink_enrolBerth (key : Nat) (pairs : List Pair) (s : State) : KeepsLink s (s.enrolBerth key pairs).state := by
  unfold State.enrolBerth
  split
  · exact keepsLink_refl s
  · split
    · exact keepsLink_refl s
    · split
      · exact keepsLink_refl s
      · refine keepsLink_withPairs (Regular.settled ?_ _)
        exact (regular_insertBerth (b := enrolledBerth key pairs) (Nat.zero_le _) (newBerth_unsent ..) s).trans
          (regular_of_same (by rfl))

theorem keepsLink_enrolTicket (key : Nat) (pairs : List Pair) (s : State) : KeepsLink s (s.enrolTicket key pairs).state := by
  unfold State.enrolTicket
  split
  · exact keepsLink_refl s
  · split
    · exact keepsLink_refl s
    · split
      · exact keepsLink_refl s
      · refine keepsLink_withPairs ?_
        split
        · exact keepsLink_refl s
        · split
          · exact keepsLink_refl s
          · exact Regular.settled (regular_of_same (by rfl)) _

theorem keepsLink_enrolPledge (key : Nat) (pairs : List Pair) (s : State) : KeepsLink s (s.enrolPledge key pairs).state := by
  unfold State.enrolPledge
  dsimp only
  split
  · exact keepsLink_refl s
  · split
    · exact keepsLink_refl s
    · split
      · exact keepsLink_refl s
      · refine keepsLink_withPairs ?_
        split
        · exact keepsLink_refl s
        · split
          · exact keepsLink_refl s
          · split
            · exact keepsLink_refl s
            · exact Regular.settled (regular_of_same (by rfl)) _

theorem keepsLink_amendBerth (key : Nat) (pairs : List Pair) (s : State) : KeepsLink s (s.amendBerth key pairs).state := by
  refine keepsLink_withRecord fun b => ?_
  split
  · exact keepsLink_refl s
  · split
    · exact keepsLink_refl s
    · exact keepsLink_withPairs ((regular_berthAmended key pairs s).settled _)

theorem keepsLink_amendTicket (key : Nat) (pairs : List Pair) (s : State) : KeepsLink s (s.amendTicket key pairs).state := by
  refine keepsLink_withRecord fun x => ?_
  split
  · exact keepsLink_refl s
  · exact keepsLink_withPairs (keepsLink_withPairs ((regular_ticketAmended x pairs s).settled _))

theorem keepsLink_amendPledge (key : Nat) (pairs : List Pair) (s : State) : KeepsLink s (s.amendPledge key pairs).state := by
  refine keepsLink_withRecord fun p => ?_
  dsimp only
  split
  · exact keepsLink_refl s
  · refine keepsLink_withPairs ?_
    split
    · exact keepsLink_refl s
    · split
      · exact keepsLink_refl s
      · exact Regular.settled (regular_of_same (by rfl)) _

theorem regular_profileAmended (pairs : List Pair) (s : State) : Regular s (s.profileAmended pairs) := by
  have carried {effect : State → State} (he : ∀ u, Regular u (effect u)) (idents : List Nat) (u : State) :
      Regular u (u.onCarried pairs idents effect) := by
    unfold State.onCarried
    split
    · exact he u
    · exact regular_refl u
  have feeder (u : State) : Regular u u.feederLimitTaken := regular_of_same (by rfl)
  have interval (u : State) : Regular u u.intervalTaken := regular_of_same (by rfl)
  have pass (u : State) : Regular u u.requestPass := regular_of_same (by rfl)
  have amended : Regular s { s with profile := s.profile.amend pairs } := regular_of_same (by rfl)
  exact (((amended.trans (carried feeder _ _)).trans (carried regular_tripModeTaken _ _)).trans
    (carried interval _ _)).trans (carried pass _ _)

theorem keepsLink_amendProfile (key : Nat) (pairs : List Pair) (s : State) : KeepsLink s (s.amendProfile key pairs).state := by
  unfold State.amendProfile
  dsimp only
  split
  · exact keepsLink_refl s
  · refine keepsLink_withPairs ?_
    split
    · exact keepsLink_refl s
    · split
      · exact keepsLink_refl s
      · exact (regular_profileAmended pairs s).settled _

theorem keepsLink_retireBus (key : Nat) (s : State) : KeepsLink s (s.retireBus key).state := by
  refine keepsLink_withRecord fun b => ?_
  split
  · exact keepsLink_refl s
  · exact Regular.settled (regular_of_same (by rfl)) _

theorem regular_berthRetired (key : Nat) (s : State) : Regular s (s.berthRetired key) := by
  have kept {P : Berth → Prop} (hs : ∀ x ∈ s.berths, P x) : ∀ x ∈ eraseKey Berth.number key s.berths, P x :=
    fun x hx => hs x (List.mem_of_mem_filter hx)
  have erased : Regular s { s with berths := eraseKey Berth.number key s.berths } :=
    ⟨⟨rfl, rfl, rfl, rfl, id, .inl rfl, le_rfl, rfl, fun h => { h with misses := kept h.misses }⟩, kept⟩
  exact (erased.trans (regular_leaveLine key _)).trans (regular_of_same (by rfl))

theorem keepsLink_retireBerth (key : Nat) (s : State) : KeepsLink s (s.retireBerth key).state := by
  refine keepsLink_withRecord fun b => ?_
  split
  · exact keepsLink_refl s
  · split
    · exact keepsLink_refl s
    · exact (regular_berthRetired key s).settled _

theorem keepsLink_retireTicket (key : Nat) (s : State) : KeepsLink s (s.retireTicket key).state :=
  keepsLink_withRecord fun x => by
    have erased : Regular s { s with tickets := eraseKey Ticket.id key s.tickets } := regular_of_same (by rfl)
    exact (erased.trans (regular_unlinkBus x.bus _)).settled _

theorem keepsLink_retirePledge (key : Nat) (s : State) : KeepsLink s (s.retirePledge key).state := by
  refine keepsLink_withRecord fun p => ?_
  split
  · exact keepsLink_refl s
  · exact Regular.settled (regular_of_same (by rfl)) _

theorem keepsLink_withdraw (key : Nat) (s : State) : KeepsLink s (s.withdraw key).state := by
  refine keepsLink_withRecord fun p => ?_
  split
  · refine Regular.settled ?_ _
    unfold State.pledgeWithdrawn
    dsimp only
    split <;> exact regular_of_same (by rfl)
  · exact keepsLink_refl s

/-- R41, R62: a records reset keeps the exchange in flight and the meter miss count, and drops the frame chosen. -/
theorem regular_recordsCleared (s : State) : Regular s s.recordsCleared := by
  have line : Regular s { s with line := s.line.afterReset } :=
    regular_line s rfl id (.inr rfl) (Nat.zero_le _) id (fun _ => Nat.zero_lt_succ _)
  have berths : Regular { s with line := s.line.afterReset }
      { s with line := s.line.afterReset, berths := s.berths.map Berth.afterReset } :=
    regular_mapBerths keepsBounds_afterReset rfl rfl
  exact (line.trans berths).trans (regular_of_same (by rfl))

theorem keepsLink_setClock (pairs : List Pair) (s : State) : KeepsLink s (s.setClock pairs).state := by
  unfold State.setClock
  dsimp only
  cases hc : checkPairs 2 clockFieldFits [1, 2] [] pairs with
  | some failure => exact keepsLink_refl s
  | none =>
    rw [withPairs_none]
    split
    · exact keepsLink_refl s
    · exact ((regular_clockTaken hc s).trans (regular_takeMinute _ s)).keepsLink

theorem keepsLink_control (f : Control) (s : State) : KeepsLink s (s.owner (.control f)).state := by
  cases f
  case runStart =>
    rcases runStart_state s with e | e <;> rw [Machine.State.owner, e]
    · exact keepsLink_refl s
    · exact ((regular_startRun s).trans (regular_closeEvent _ s)).keepsLink
  case runStop => exact (regular_stopRun s).settled _
  case pause => exact (regular_setSources _ _ s).settled _
  case resume => exact (regular_setSources _ _ s).settled _
  case allStop => exact (keepsLink_allStop s).settled _
  case clearStop => exact (keepsLink_clearStop s).settled _
  case ackTrip => exact (regular_ackTrip s).settled _
  case withdraw key => exact keepsLink_withdraw key s
  case setClock pairs => exact keepsLink_setClock pairs s
  case saveProfile => exact keepsLink_refl s
  case recordsReset => exact (regular_recordsCleared s).settled _

/-- R151: whatever an owner answers, it keeps the line and the counters and leaves the depot link and the store to the
dispatch. -/
theorem owner_keepsLink (s : State) (r : Request) : KeepsLink s (s.owner r).state := by
  cases r with
  | lookup table key =>
    cases table
    case profile =>
      show KeepsLink s (s.lookupProfile key).state
      unfold State.lookupProfile
      split
      · exact keepsLink_refl s
      · exact keepsLink_lookup _ s
    all_goals exact keepsLink_lookup _ s
  | list table key count => cases table <;> exact keepsLink_refl s
  | enrol table key pairs =>
    cases table
    case profile => exact keepsLink_refl s
    case bus => exact keepsLink_enrolBus key pairs s
    case berth => exact keepsLink_enrolBerth key pairs s
    case ticket => exact keepsLink_enrolTicket key pairs s
    case pledge => exact keepsLink_enrolPledge key pairs s
  | amend table key pairs =>
    cases table
    case profile => exact keepsLink_amendProfile key pairs s
    case bus => exact keepsLink_withRecord fun _ => keepsLink_withPairs (Regular.settled (regular_of_same (by rfl)) _)
    case berth => exact keepsLink_amendBerth key pairs s
    case ticket => exact keepsLink_amendTicket key pairs s
    case pledge => exact keepsLink_amendPledge key pairs s
  | retire table key =>
    cases table
    case profile => exact keepsLink_refl s
    case bus => exact keepsLink_retireBus key s
    case berth => exact keepsLink_retireBerth key s
    case ticket => exact keepsLink_retireTicket key s
    case pledge => exact keepsLink_retirePledge key s
  | summary => exact keepsLink_refl s
  | attend causes => exact Regular.keepsLink (regular_of_same (by rfl))
  | control f => exact keepsLink_control f s

/-! ## Events -/

theorem keepsLink_takeReply (r : Reply) (s : State) : KeepsLink s (s.takeReply r) := by
  unfold State.takeReply
  split
  · rename_i e he
    refine KeepsLink.trans (KeepsCounts.ofExchange ?_ he) (regular_closeEvent _ s).keepsLink
    split
    · exact keepsCounts_exchangeVoid e s
    · exact keepsCounts_exchangeReply e r s
  · exact keepsLink_refl s

theorem keepsLink_takeMiss (s : State) : KeepsLink s s.takeMiss := by
  unfold State.takeMiss
  split
  · rename_i e he
    refine KeepsLink.trans (KeepsCounts.ofExchange ?_ he) (regular_closeEvent _ s).keepsLink
    split
    · exact keepsCounts_exchangeVoid e s
    · exact keepsCounts_exchangeMissed e s
  · exact keepsLink_refl s

theorem regular_selfStart (s : State) : Regular s s.selfStart := by
  unfold State.selfStart
  split
  · exact regular_startRun s
  · exact regular_refl s

theorem eventEffect_keepsLink {c : Instr} {f : State → State} (hc : eventEffect c = some f) (s : State) :
    KeepsLink s (f s) := by
  have closed {t : State} (h : KeepsLink s t) : KeepsLink s (t.closeEvent s) := h.trans (regular_closeEvent t s).keepsLink
  have closedIf {due : Prop} [Decidable due] {t : State} (h : Regular s t) :
      KeepsLink s (if due then t.closeEvent s else s) := by
    split
    · exact closed h.keepsLink
    · exact keepsLink_refl s
  cases c <;> cases hc
  case nextExchangeChoice => exact keepsLink_takeChoice s
  case preambleEnd => exact keepsLink_endPreamble s
  case poll => exact keepsLink_sendPoll s
  case grant => exact keepsLink_sendChosenGrant s
  case status => exact keepsLink_takeReply _ s
  case meter => exact keepsLink_takeReply _ s
  case confirm => exact keepsLink_takeReply _ s
  case invalidReply chars =>
    show KeepsLink s (s.takeChars chars)
    unfold State.takeChars
    split
    · exact keepsLink_takeReply _ s
    · exact keepsLink_takeMiss s
  case replyTimeout => exact keepsLink_takeMiss s
  case allocationPass =>
    have requested : Regular s { s with alloc := { s.alloc with passRequested := false } } := regular_of_same (by rfl)
    exact closedIf (requested.trans (regular_allocate _))
  case holdTimerExpiry =>
    have expired : Regular s { s with run := { s.run with holdTimer := none, holdExpired := true } } := regular_of_same (by rfl)
    exact closedIf (expired.trans (regular_testStarting _))
  case supervisionExpiry =>
    have expired : Regular s (State.raiseCause .fallback
        { s with supervision := { condition := .expired, remaining := 0, fallback := true } }) := regular_of_same (by rfl)
    exact closedIf (expired.trans (regular_selfStart _))
  case minuteEvent => exact (regular_advanceMinute s).keepsLink
  case tripAssertion => exact closed (regular_assertTrip s).keepsLink
  case tripRelease => exact closed (regular_releaseTrip s).keepsLink
  case stopAssertion => exact closed (keepsLink_assertStop s)
  case stopRelease => exact closed (keepsLink_releaseStop s)
  case lineSample trip stop =>
    exact closed ((regular_sampleTrip trip s).keepsLink.trans (keepsLink_sampleStop stop _))

end

/-! ## POWER_ON (R163) -/

/-- R163: the berths of an image are as a berth is enrolled. -/
theorem readBerths_new (vs : List Int) (bs : List Berth) (h : readBerths vs = some bs) :
    ∀ x ∈ bs, ∃ n b t q mi me c o, x = newBerth n b t q mi me c o := by
  induction vs using readBerths.induct generalizing bs with
  | case1 => cases h; simp
  | case2 n b t q mi me c o rest hfit ih =>
    rw [readBerths, if_pos hfit, Option.map_eq_some_iff] at h
    obtain ⟨cs, hcs, rfl⟩ := h
    exact List.forall_mem_cons.2 ⟨⟨_, _, _, _, _, _, _, _, rfl⟩, ih cs hcs⟩
  | case3 n b t q mi me c o rest hfit =>
    rw [readBerths, if_neg hfit] at h
    cases h
  | case4 vs h0 h8 => rw [readBerths] at h <;> simp_all

theorem loadImage_new {image : List Byte} {p : Profile} {bs : List Berth} (h : loadImage image = some (p, bs)) :
    ∀ x ∈ bs, ∃ n b t q mi me c o, x = newBerth n b t q mi me c o := by
  unfold loadImage at h
  dsimp only at h
  split at h
  · obtain ⟨vs, _, h⟩ := Option.bind_eq_some_iff.1 h
    split at h
    · cases h
    · obtain ⟨q, _, h⟩ := Option.bind_eq_some_iff.1 h
      obtain ⟨cs, hcs, h⟩ := Option.bind_eq_some_iff.1 h
      split at h
      · cases h
      · cases h
        exact fun x hx => readBerths_new _ cs hcs x ((sortBy_perm _ cs).mem_iff.1 hx)
  · cases h

/-- R163: POWER_ON leaves every block's reset state, the berths as enrolled. -/
theorem powerOn_eq (s : State) :
    ∃ profile berths flags image index, s.powerOn = State.afterPowerOn profile berths flags image index s.cutWrite.pending
      ∧ ∀ x ∈ berths, ∃ n b t q mi me c o, x = newBerth n b t q mi me c o := by
  unfold State.powerOn
  dsimp only
  split
  · rename_i p bs himage
    exact ⟨p, bs, _, _, _, rfl, loadImage_new himage⟩
  · exact ⟨_, [], _, _, _, rfl, by simp⟩

theorem countersIn_powerOn (s : State) : CountersIn s.powerOn := by
  obtain ⟨profile, berths, flags, image, index, he, hnew⟩ := powerOn_eq s
  rw [he]
  refine ⟨fun x hx => ?_, Nat.zero_le _, Nat.zero_lt_succ _, Nat.zero_le _, Nat.zero_le _, Nat.zero_lt_succ _,
    Nat.zero_lt_succ _, Nat.zero_lt_succ _, fun x hx => by cases hx⟩
  obtain ⟨n, b, t, q, mi, me, c, o, rfl⟩ := hnew x hx
  exact Nat.zero_le _

theorem grantCapOk_powerOn (s : State) : s.powerOn.grantCapOk = true := by
  obtain ⟨profile, berths, flags, image, index, he, -⟩ := powerOn_eq s
  rw [he]
  rfl

theorem lineOk_powerOn (s : State) : s.powerOn.lineOk = true := by
  obtain ⟨profile, berths, flags, image, index, he, -⟩ := powerOn_eq s
  rw [he]
  rfl

theorem unsentAtBreak_powerOn (s : State) : s.powerOn.unsentAtBreak := by
  obtain ⟨profile, berths, flags, image, index, he, -⟩ := powerOn_eq s
  rw [he]
  intro hbrk
  cases hbrk

theorem linkOk_powerOn (s : State) : s.powerOn.linkOk = true := by
  obtain ⟨profile, berths, flags, image, index, he, -⟩ := powerOn_eq s
  rw [he]
  rfl

/-! ## The line and the counters -/

/-- A property that the operations keep and POWER_ON gives is kept by every step. -/
theorem kept_of_keepsLine {P : State → Prop} (hP : ∀ {s t : State}, KeepsLine s t → P s → P t) (hon : ∀ s : State, P s.powerOn) :
    Kept P where
  records h := hP h.keepsLine
  owner s r := hP (owner_keepsLink s r).toKeepsLine
  event hc s := hP (eventEffect_keepsLink hc s).toKeepsLine
  powerOn s _ := hon s
  second s := hP (regular_countSecond s).keepsLink.toKeepsLine

theorem grantCapOk_kept : Kept fun s => s.grantCapOk = true := kept_of_keepsLine (·.cap) grantCapOk_powerOn

theorem countersIn_kept : Kept CountersIn := kept_of_keepsLine (·.counters) countersIn_powerOn

theorem lineOk_kept : Kept fun s => s.lineOk = true := kept_of_keepsLine (·.line) lineOk_powerOn

theorem lineUnsent_kept : Kept fun s => s.lineOk = true ∧ s.unsentAtBreak :=
  kept_of_keepsLine (fun h hs => ⟨h.line hs.1, h.unsent hs.1 hs.2⟩) fun s => ⟨lineOk_powerOn s, unsentAtBreak_powerOn s⟩

/-! ## The depot link (R145 to R150, R164) -/

section
variable {s t : State}

/-- R145: the legal states read the power, the depot link and the write in progress alone. -/
theorem linkOk_congr (hp : t.powered = s.powered) (hd : t.depot = s.depot) (hs : t.store = s.store) : t.linkOk = s.linkOk := by
  unfold State.linkOk
  rw [hp, hd, hs]

/-- R145: while SENDs are accepted no response waits and no write is in progress. -/
theorem free_of_linkOk (hp : s.powered = true) (hb : s.linkBusy = false) (h : s.linkOk = true) :
    s.depot.response = none ∧ s.store.write = none := by
  unfold State.linkOk at h
  unfold State.linkBusy at hb
  cases hd : s.depot.state <;> simp_all

/-- R149: a response placed is the only thing the link holds. -/
theorem linkOk_place (bytes : List Byte) (hw : s.store.write = none) : (s.place bytes).linkOk = true := by
  simp [State.linkOk, hw]

/-- R149: a complete request ends in RESPONSE_WAITING or, for SAVE_PROFILE, in WORKING. -/
theorem linkOk_dispatch (h : RequestHead) (r : Option Request) (hr : s.depot.response = none) (hw : s.store.write = none) :
    (s.dispatch h r).linkOk = true := by
  have served (r : Request) : (s.restartSupervision.serve h r).linkOk = true := by
    unfold State.serve
    split
    · simp [State.linkOk, State.beginSave, hr]
    · have hstore := (owner_keepsLink s.restartSupervision r).store
      exact linkOk_place _ (by rw [hstore]; exact hw)
  unfold State.dispatch
  cases r with
  | none => exact linkOk_place _ hw
  | some r =>
    dsimp only
    split
    · exact served r
    · exact linkOk_place _ hw

theorem linkOk_request (h : RequestHead) (r : Request) (hp : s.powered = true) (hs : s.linkOk = true) :
    (s.request h r).linkOk = true := by
  unfold State.request
  dsimp only
  split
  · exact hs
  · rename_i hb
    obtain ⟨hresponse, hwrite⟩ := free_of_linkOk hp (Bool.eq_false_iff.2 hb) hs
    split
    · exact hs
    · exact linkOk_dispatch h _ (s := { s.statusOut with depot := { s.statusOut.depot with assembly := none } })
        hresponse hwrite

theorem linkOk_extend (a : Assembly) (last : Bool) (hr : s.depot.response = none) (hw : s.store.write = none) :
    (s.extend a last).linkOk = true := by
  unfold State.extend State.assembled
  split
  · exact linkOk_place _ hw
  · split
    · exact linkOk_dispatch a.head _ (s := { s with depot := { s.depot with assembly := none } }) hr hw
    · simp [State.linkOk, hr, hw]

theorem linkOk_takeSegment (g : Segment) (hp : s.powered = true) (hb : s.linkBusy = false) (hs : s.linkOk = true) :
    (s.takeSegment g).linkOk = true := by
  obtain ⟨hr, hw⟩ := free_of_linkOk hp hb hs
  unfold State.takeSegment
  split
  · exact linkOk_extend _ _ hr hw
  · split
    · exact hs
    · split
      · exact linkOk_place _ hw
      · split
        · exact linkOk_place _ hw
        · exact linkOk_extend _ _ hr hw

theorem linkOk_takeSend (bytes : List Byte) (hp : s.powered = true) (hs : s.linkOk = true) :
    (s.takeSend bytes).linkOk = true := by
  have taken : (if bytes.isEmpty then s.statusOut
      else if s.statusOut.linkBusy then s.statusOut.discardSend else s.statusOut.deliver bytes).linkOk = true := by
    split
    · exact hs
    · split
      · exact hs
      · rename_i hb
        unfold State.deliver
        split
        · exact linkOk_takeSegment _ hp (Bool.eq_false_iff.2 hb) hs
        · exact hs
  exact taken

/-- R150: the slot frees with the last byte. -/
theorem linkOk_advance (n : Nat) (hd : s.depot.state = .responseWaiting) (hs : s.linkOk = true) :
    (s.advance n).linkOk = true := by
  unfold State.linkOk at hs
  rw [hd] at hs
  unfold State.advance
  split
  · split <;> simp_all [State.linkOk]
  · simpa [State.linkOk, hd] using hs

theorem linkOk_takeFetch (clocked : Nat) (hs : s.linkOk = true) : (s.takeFetch clocked).linkOk = true := by
  unfold State.takeFetch
  dsimp only
  split
  · rename_i hd _
    exact linkOk_advance (s := s.statusOut) _ hd hs
  · exact hs

theorem linkOk_ignored (whole : Bool) (direction : Byte) (bytes : List Byte) (hp : s.powered = true) (hs : s.linkOk = true) :
    (s.ignored whole direction bytes).linkOk = true := by
  unfold State.ignored State.transact
  split
  · split
    · exact linkOk_takeSend bytes hp hs
    · split
      · exact linkOk_takeFetch _ hs
      · exact hs
  · exact hs

theorem linkOk_endWrite (hs : s.linkOk = true) : s.endWrite.linkOk = true := by
  unfold State.endWrite
  split
  · exact linkOk_place (s := { s with store := _ }) _ rfl
  · exact hs

/-- The power and the legal state of the link, which events keep. -/
theorem linkOk_event {c : Instr} {f : State → State} (hc : eventEffect c = some f) : (f s).linkOk = s.linkOk :=
  linkOk_congr (eventEffect_keepsLink hc s).powered (eventEffect_keepsLink hc s).depot (eventEffect_keepsLink hc s).store

theorem linkOk_ifPowered {f : State → State} (hf : s.powered = true → s.linkOk = true → (f s).linkOk = true)
    (h : ifPowered f s = .next t) (hs : s.linkOk = true) : t.linkOk = true := by
  cases hp : s.powered with
  | false => rw [ifPowered_off f s hp] at h; cases h; exact hs
  | true => rw [ifPowered_on f s hp] at h; cases h; exact hf hp hs

theorem linkOk_exec {c : Instr} (h : exec c s = .next t) (hs : s.linkOk = true) : t.linkOk = true := by
  cases hr : asRequest c with
  | some x =>
    rw [exec_of_asRequest s hr] at h
    exact linkOk_ifPowered (linkOk_request _ _) h hs
  | none =>
    cases he : eventEffect c with
    | some f =>
      rw [exec_of_eventEffect s he] at h
      exact linkOk_ifPowered (fun _ hs => (linkOk_event he).trans hs) h hs
    | none =>
      cases c
      case send bytes => exact linkOk_ifPowered (linkOk_takeSend bytes) h hs
      case fetch clocked => exact linkOk_ifPowered (fun _ => linkOk_takeFetch clocked) h hs
      case ignoredTransaction whole direction bytes => exact linkOk_ifPowered (linkOk_ignored whole direction bytes) h hs
      case profileWriteEnd => exact linkOk_ifPowered (fun _ => linkOk_endWrite) h hs
      case powerOn => cases h; exact linkOk_powerOn s
      case powerFailure => exact linkOk_ifPowered (fun _ _ => rfl) h hs
      all_goals cases hr <;> cases he

theorem linkOk_timerEvents (l : List TimerKind) (s : State) : (l.foldl State.timerEvent s).linkOk = s.linkOk := by
  have event (k : TimerKind) (u : State) : (u.timerEvent k).linkOk = u.linkOk := by
    cases k
    case hold => exact linkOk_event (c := .holdTimerExpiry) rfl
    case supervision => exact linkOk_event (c := .supervisionExpiry) rfl
    case minute => exact linkOk_event (c := .minuteEvent) rfl
  induction l generalizing s with
  | nil => rfl
  | cons k l ih => exact (ih _).trans (event k s)

theorem linkOk_passSecond (s : State) : s.passSecond.linkOk = s.linkOk := by
  unfold State.passSecond
  dsimp only
  split <;> exact linkOk_timerEvents _ _

theorem linkOk_step (h : step s = .next t) (hs : s.linkOk = true) : t.linkOk = true := by
  unfold Machine.step at h
  split at h
  · exact linkOk_exec h hs
  · exact linkOk_ifPowered (fun _ hs => (linkOk_passSecond s).trans hs) h hs

end

/-- Settles O60: the depot link by its transactions; the line and the counters by `KeepsLink` of every operation. Under break no
grant is due because nothing has been sent, and because the stop holds every target at 0 (O58). -/
theorem stepKeepsLinkStatesAndCounters : Obligations.StepKeepsLinkStatesAndCounters := by
  intro s t h
  refine ⟨linkOk_step h, grantCapOk_kept.step h, fun hs => ?_, lineOk_kept.step h, fun hceilings hheld hline hbreak => ?_⟩
  · exact (countersOk_iff t).2 (countersIn_kept.step h ((countersOk_iff s).1 hs))
  · obtain ⟨hline', hunsent⟩ := lineUnsent_kept.step h ⟨hline, unsentAtBreak_of_breakOk hbreak⟩
    obtain ⟨-, hzero, -⟩ := stepKeepsCeilingsAndZeroTargets s t hceilings h
    exact breakOk_of_unsentAtBreak hline' (hzero hheld) hunsent

end Sys2Proof.Machine
end

section
/-! PROOFS. The transactions of the depot link (R145 to R148, R150): the status byte, SEND, FETCH and an ignored transaction
(O6, O7, O10, O11). -/

namespace Sys2Proof.Machine

/-! ## The status byte and ATTN (R145, R157) -/

/-- Bit 2 of the status byte is OVERRUN. -/
theorem statusByte_overrun (s : State) : s.statusByte.getLsbD 2 = s.depot.overrun := by
  have hattn : ∀ a : Bool, (if a then 0x08#8 else 0#8).getLsbD 2 = false := by decide
  have hover : ∀ o : Bool, (if o then 0x04#8 else 0#8).getLsbD 2 = o := by decide
  have hcode : ∀ st : LinkState, st.code.getLsbD 2 = false := by rintro ⟨⟩ <;> rfl
  have hfixed : (0xA0#8).getLsbD 2 = false := rfl
  simp only [State.statusByte, BitVec.getLsbD_or, hattn, hover, hcode, hfixed, Bool.false_or, Bool.or_false]

theorem mem_causeNumbers (n : Nat) : n ∈ causeNumbers ↔ 1 ≤ n ∧ n ≤ 14 := by
  simp only [causeNumbers, List.mem_cons, List.not_mem_nil, or_false]
  omega

/-- A set of causes is empty where it holds no cause. -/
theorem causes_ne_zero_iff (v : BitVec 14) : v ≠ 0#14 ↔ ∃ n ∈ causeNumbers, hasCause v n = true := by
  constructor
  · intro hv
    by_contra hnone
    refine hv (BitVec.eq_of_getLsbD_eq fun i hi => ?_)
    have hcause : ¬ hasCause v (i + 1) = true := fun h => hnone ⟨i + 1, (mem_causeNumbers _).2 (by omega), h⟩
    simpa [hasCause] using hcause
  · rintro ⟨n, -, hn⟩ rfl
    simp [hasCause] at hn

/-- R157: ATTN is asserted by a pending cause whose enable is yes. -/
theorem attn_iff (s : State) :
    s.attn = true ↔
      s.powered = true ∧
        ∃ n ∈ causeNumbers, hasCause s.attention.flags n = true ∧ hasCause s.profile.enables n = true := by
  have hdriving (n : Nat) : hasCause s.drivingFlags n = (hasCause s.attention.flags n && hasCause s.profile.enables n) := by
    simp [hasCause, State.drivingFlags]
  simp only [State.attn, Bool.and_eq_true, bne_iff_ne, causes_ne_zero_iff, hdriving]

/-! ## SEND by the state of the link (R145 to R147) -/

section
variable {s : State} {bytes : List Byte}

theorem exec_send (hp : s.powered = true) (bytes : List Byte) : exec (.send bytes) s = .next (s.takeSend bytes) :=
  ifPowered_on _ s hp

/-- R146: a SEND with bytes on a busy link. -/
theorem takeSend_busy (hb : s.linkBusy = true) (hne : bytes ≠ []) :
    s.takeSend bytes = s.statusOut.discardSend.shifted (s.statusByte :: fill bytes.length) := by
  have hb' : s.statusOut.linkBusy = true := hb
  unfold State.takeSend
  dsimp only
  rw [if_neg (by simpa using hne), if_pos hb']

/-- R147: a SEND with bytes that the link accepts. -/
theorem takeSend_free (hb : s.linkBusy = false) (hne : bytes ≠ []) :
    s.takeSend bytes = (s.statusOut.deliver bytes).shifted (s.statusByte :: fill bytes.length) := by
  have hb' : s.statusOut.linkBusy = false := hb
  unfold State.takeSend
  dsimp only
  rw [if_neg (by simpa using hne), if_neg (Bool.not_eq_true _ ▸ hb')]

end

/-- Settles O7: the discarded SEND sets OVERRUN, which the next status byte shows. -/
theorem busyLinkDiscardsSend : Obligations.BusyLinkDiscardsSend := by
  intro s hp hstate bytes hne
  have hb : s.linkBusy = true := by rcases hstate with h | h <;> simp [State.linkBusy, h]
  refine ⟨_, (exec_send hp bytes).trans (congrArg _ (takeSend_busy hb hne)), rfl, statusByte_overrun s, ?_⟩
  rw [statusByte_overrun]
  rfl

/-! ## FETCH (R150) -/

/-- A FETCH with no response in RESPONSE_WAITING shifts out the status byte and fill. -/
theorem takeFetch_idle {s : State} (hd : s.depot.state ≠ .responseWaiting) (clocked : Nat) :
    s.takeFetch clocked = s.statusOut.shifted (s.statusByte :: fill clocked) := by
  unfold State.takeFetch
  cases h : s.depot.state with
  | responseWaiting => exact absurd h hd
  | ready => rfl
  | assembling => rfl
  | working => rfl

/-- A FETCH of a response shifts out its bytes from the fetch position. -/
theorem takeFetch_response {s : State} {r : ResponseBuffer} (hd : s.depot.state = .responseWaiting)
    (hr : s.depot.response = some r) (clocked : Nat) :
    s.takeFetch clocked =
      (s.statusOut.advance (r.position + ((r.bytes.drop r.position).take (min clocked 60)).length)).shifted
        (s.statusByte :: (r.bytes.drop r.position).take (min clocked 60)
          ++ fill (clocked - ((r.bytes.drop r.position).take (min clocked 60)).length)) := by
  unfold State.takeFetch
  rw [hd, hr]

section
variable {s : State} {r : ResponseBuffer} {n : Nat}

/-- The fetch position moves within the response. -/
theorem advance_more (hr : s.depot.response = some r) (hn : n < r.bytes.length) :
    s.advance n = { s with depot := { s.depot with response := some { r with position := n } } } := by
  unfold State.advance
  rw [hr]
  exact if_pos hn

/-- The slot frees at the end of the response. -/
theorem advance_done (hr : s.depot.response = some r) (hn : ¬ n < r.bytes.length) :
    s.advance n = { s with depot := { s.depot with response := none, state := .ready } } := by
  unfold State.advance
  rw [hr]
  exact if_neg hn

end

/-- Settles O10: the fetch position advances with the bytes shifted out, and the slot frees with the last one. -/
theorem fetchShiftsResponse : Obligations.FetchShiftsResponse := by
  intro clocked s hp
  have hexec : exec (.fetch clocked) s = .next (s.takeFetch clocked) := ifPowered_on _ s hp
  refine ⟨fun r hd hr => ?_, fun hd => ?_, fun _ _ _ _ => rfl⟩
  · intro out
    rw [hexec, takeFetch_response hd hr]
    by_cases hmore : r.position + out.length < r.bytes.length
    · rw [advance_more (s := s.statusOut) hr hmore, if_pos hmore, if_pos hmore, ← hd]
      rfl
    · rw [advance_done (s := s.statusOut) hr hmore, if_neg hmore, if_neg hmore]
      rfl
  · rw [hexec, takeFetch_idle hd]
    rfl

/-! ## Ignored transactions (R145) -/

/-- A FETCH that clocks no byte changes nothing but OVERRUN: a response is not yet at its end. -/
theorem takeFetch_zero {s : State} (hr : ∀ r, s.depot.response = some r → r.position < r.bytes.length) :
    s.takeFetch 0 = s.statusOut.shifted [s.statusByte] := by
  by_cases hd : s.depot.state = .responseWaiting
  · cases hresponse : s.depot.response with
    | none =>
      unfold State.takeFetch
      rw [hd, hresponse]
      rfl
    | some r =>
      rw [takeFetch_response hd hresponse, Nat.zero_min, List.take_zero, List.length_nil, Nat.add_zero,
        advance_more (s := s.statusOut) hresponse (hr r hresponse), ← hresponse]
      rfl
  · exact takeFetch_idle hd 0

/-- Settles O11: a transaction that is neither a SEND nor a FETCH shifts out its status byte and fill. -/
theorem ignoredTransactionKeepsState : Obligations.IgnoredTransactionKeepsState := by
  refine ⟨fun s => ⟨?_, attn_iff s⟩, fun direction bytes s hp => ?_⟩
  · unfold State.statusByte
    cases s.depot.state <;> rfl
  · have hexec (whole : Bool) (bytes : List Byte) :
        exec (.ignoredTransaction whole direction bytes) s = .next (s.ignored whole direction bytes) := ifPowered_on _ s hp
    refine ⟨hexec false bytes, fun hsend hfetch => ?_, fun hr => ?_⟩
    · rw [hexec]
      show Host.Outcome.next (s.transact direction bytes) = _
      unfold State.transact
      rw [if_neg hsend, if_neg hfetch]
      rfl
    · rw [hexec]
      show Host.Outcome.next (s.transact direction []) = _
      unfold State.transact
      split
      · rfl
      · split
        · exact congrArg _ (takeFetch_zero hr)
        · rfl

/-! ## Segments (R147, R148, section 11.1.2) -/

theorem joinHalf_toNat (a b : Byte) : (joinHalf a b).toNat = a.toNat * 256 + b.toNat := by
  unfold joinHalf
  rw [BitVec.toNat_append, Nat.shiftLeft_eq, Nat.mul_comm, ← Nat.two_pow_add_eq_or_of_lt b.isLt]

theorem segmentCount_eq (m : Byte) : (m.extractLsb' 0 6).toNat = m.toNat % 64 := by
  simp [BitVec.extractLsb'_toNat]

/-- The FIRST mark is bit 7 of the first byte. -/
theorem firstMark_eq (m : Byte) : m.getLsbD 7 = decide (128 ≤ m.toNat) := by
  revert m
  decide

/-- The LAST mark is bit 6 of the first byte. -/
theorem lastMark_eq (m : Byte) : m.getLsbD 6 = decide (64 ≤ m.toNat % 128) := by
  revert m
  decide

/-- The whole segment that seven bytes and more carry: at most 56 body bytes, all there, of a body of at most 1024. -/
theorem parseSegment_cons (m t1 t0 kind table k1 k0 : Byte) (rest : List Byte) :
    parseSegment (m :: t1 :: t0 :: kind :: table :: k1 :: k0 :: rest) =
      if m.toNat % 64 ≤ 56 ∧ t1.toNat * 256 + t0.toNat ≤ 1024 ∧ m.toNat % 64 ≤ rest.length then
        some
          { first := decide (128 ≤ m.toNat), last := decide (64 ≤ m.toNat % 128), total := t1.toNat * 256 + t0.toNat
            head := { kind := kind, table := table, key := k1 ++ k0 }, body := rest.take (m.toNat % 64) }
      else none := by
  unfold parseSegment
  simp only [segmentCount_eq, joinHalf_toNat, firstMark_eq, lastMark_eq]
  by_cases h : m.toNat % 64 ≤ 56 ∧ t1.toNat * 256 + t0.toNat ≤ 1024 ∧ m.toNat % 64 ≤ rest.length
  · rw [if_pos h, if_neg (by omega)]
    rfl
  · rw [if_neg h, if_pos (by omega)]

theorem parseSegment_short {bytes : List Byte} (h : bytes.length < 7) : parseSegment bytes = none := by
  unfold parseSegment
  split
  · simp only [List.length_cons] at h
    omega
  · rfl

/-! ## What a segment begins, continues, completes or ends (R147, R148) -/

section
variable {s : State} {a : Assembly}

/-- R148, check 3: more body bytes than the total. -/
theorem extend_long (h : a.total < a.body.length) (last : Bool) : s.extend a last = s.mismatch .lengthMismatch a.head := by
  simp [State.extend, lengthMismatch, h]

/-- R148, check 4: the last segment with fewer body bytes than the total. -/
theorem extend_short (h : a.body.length < a.total) : s.extend a true = s.mismatch .lengthMismatch a.head := by
  simp [State.extend, lengthMismatch, h]

/-- R147: an assembly goes on. -/
theorem extend_more (h : a.body.length ≤ a.total) :
    s.extend a false = { s with depot := { s.depot with state := .assembling, assembly := some a } } := by
  simp [State.extend, lengthMismatch, State.assembled, Nat.not_lt.2 h]

/-- R147: an assembly is complete. -/
theorem extend_whole (h : a.body.length = a.total) :
    s.extend a true =
      State.dispatch a.head (parseRequest a.head a.body) { s with depot := { s.depot with assembly := none } } := by
  simp [State.extend, lengthMismatch, State.assembled, h]

theorem takeSegment_first {g : Segment} (hf : g.first = true) :
    s.takeSegment g = s.extend { head := g.head, total := g.total, body := g.body } g.last := by
  simp [State.takeSegment, hf]

/-- R147: a segment that is not the first, with nothing assembled, is discarded. -/
theorem takeSegment_stray {g : Segment} (hf : g.first = false) (ha : s.depot.assembly = none) : s.takeSegment g = s := by
  simp [State.takeSegment, hf, ha]

theorem takeSegment_next {g : Segment} (hf : g.first = false) (ha : s.depot.assembly = some a) :
    s.takeSegment g =
      if g.head ≠ a.head then s.mismatch .segmentMismatch a.head
      else if g.total ≠ a.total then s.mismatch .lengthMismatch a.head
      else s.extend { a with body := a.body ++ g.body } g.last := by
  simp [State.takeSegment, hf, ha]

end

/-- Settles O6: the link takes the segment on the state in which OVERRUN has been shown, check by check. -/
theorem sendTakesSegment : Obligations.SendTakesSegment := by
  refine ⟨fun _ _ _ _ _ _ _ _ => parseSegment_cons .., fun _ => parseSegment_short, fun s hp => exec_send hp [], ?_⟩
  intro bytes s ht hne out kept ended taken
  have hsend : exec (.send bytes) s = .next ((s.statusOut.deliver bytes).shifted out) :=
    (exec_send ht.1 bytes).trans (congrArg _ (takeSend_free ht.2 hne))
  have htaken {a : Assembly} {last : Bool} (h : s.statusOut.deliver bytes = s.statusOut.extend a last) : taken a last := by
    rw [h] at hsend
    refine ⟨fun hlong => ?_, fun hlast hshort => ?_, fun hlast hmore => ?_, fun hlast hwhole => ?_⟩
    · rw [hsend, extend_long hlong]
      rfl
    · rw [hsend, hlast, extend_short hshort]
      rfl
    · rw [hsend, hlast, extend_more hmore]
      rfl
    · rw [hsend, hlast, extend_whole hwhole]
      rfl
  refine ⟨fun hparse => ?_, fun g hparse => ?_⟩
  · rw [hsend, State.deliver, hparse]
    rfl
  · have hdeliver : s.statusOut.deliver bytes = s.statusOut.takeSegment g := by rw [State.deliver, hparse]
    rw [hdeliver] at hsend htaken
    refine ⟨fun hf ha => ?_, fun hf => htaken (takeSegment_first hf), fun a hf ha =>
      ⟨fun hh => ?_, fun hh ht => ?_, fun hh ht => ?_⟩⟩
    · rw [hsend, takeSegment_stray (s := s.statusOut) hf ha]
      rfl
    · rw [hsend, takeSegment_next (s := s.statusOut) hf ha, if_pos hh]
      rfl
    · rw [hsend, takeSegment_next (s := s.statusOut) hf ha, if_neg (not_not.2 hh), if_pos ht]
      rfl
    · refine htaken ?_
      rw [takeSegment_next (s := s.statusOut) hf ha, if_neg (not_not.2 hh), if_neg (not_not.2 ht)]

end Sys2Proof.Machine
end

section
/-! PROOFS. Requests whose head check fails, as rows and as SENDs (O16): a segment's bytes are read back, the segments of a
request add up to its body, and what each kind's body must look like. -/

namespace Sys2Proof.Machine

/-! ## A segment's bytes are read back (section 11.1.2) -/

theorem joinHalf_bytes (v : Half) : joinHalf (hiByte v) (loByte v) = v := by
  unfold joinHalf hiByte loByte
  exact (BitVec.extractLsb'_append_extractLsb'_eq_extractLsb' (by rfl)).trans BitVec.extractLsb'_eq_self

theorem total_bytes {n : Nat} (hn : n ≤ 1024) :
    (hiByte (BitVec.ofNat 16 n)).toNat * 256 + (loByte (BitVec.ofNat 16 n)).toNat = n := by
  rw [← joinHalf_toNat, joinHalf_bytes, BitVec.toNat_ofNat, Nat.mod_eq_of_lt (by omega)]

/-- The first byte of a segment: its marks and the number of its body bytes. -/
def markByte (first last : Bool) (n : Nat) : Byte :=
  (if first then 0x80#8 else 0#8) ||| (if last then 0x40#8 else 0#8) ||| BitVec.ofNat 8 n

theorem markByte_spec (first last : Bool) {n : Nat} (hn : n ≤ 56) :
    (markByte first last n).toNat % 64 = n ∧ decide (128 ≤ (markByte first last n).toNat) = first
      ∧ decide (64 ≤ (markByte first last n).toNat % 128) = last := by
  have hall : ∀ (first last : Bool) (n : Fin 57),
      (markByte first last n).toNat % 64 = n ∧ decide (128 ≤ (markByte first last n).toNat) = first
        ∧ decide (64 ≤ (markByte first last n).toNat % 128) = last := by decide
  exact hall first last ⟨n, by omega⟩

theorem segmentBytes_eq (first last : Bool) (total : Nat) (h : RequestHead) (body : List Byte) :
    segmentBytes first last total h body =
      markByte first last body.length :: hiByte (BitVec.ofNat 16 total) :: loByte (BitVec.ofNat 16 total) :: h.kind :: h.table
        :: hiByte h.key :: loByte h.key :: body := rfl

theorem length_segmentBytes (first last : Bool) (total : Nat) (h : RequestHead) (body : List Byte) :
    (segmentBytes first last total h body).length = 7 + body.length := by
  rw [segmentBytes_eq]
  simp only [List.length_cons]
  omega

theorem parseSegment_segmentBytes (first last : Bool) {total : Nat} (h : RequestHead) {body : List Byte}
    (hbody : body.length ≤ 56) (htotal : total ≤ 1024) :
    parseSegment (segmentBytes first last total h body) =
      some { first := first, last := last, total := total, head := h, body := body } := by
  obtain ⟨hcount, hfirst, hlast⟩ := markByte_spec first last hbody
  have hkey : hiByte h.key ++ loByte h.key = h.key := joinHalf_bytes h.key
  rw [segmentBytes_eq, parseSegment_cons, hcount, hfirst, hlast, total_bytes htotal, hkey, List.take_length,
    if_pos ⟨hbody, htotal, le_rfl⟩]

/-! ## The segments of a request (R147) -/

/-- The state while the link assembles a request: OVERRUN has been shown, and `out` was shifted out last. -/
def State.gathering (s : State) (a : Assembly) (out : List Byte) : State :=
  { s with depot := { s.depot with state := .assembling, assembly := some a, overrun := false, miso := out } }

theorem takesRequests_gathering {s : State} (hp : s.powered = true) (a : Assembly) (out : List Byte) :
    (s.gathering a out).takesRequests := ⟨hp, rfl⟩

section
variable {s : State} {h : RequestHead} {total : Nat} {pre body : List Byte}

/-- A segment the link accepts, given as the bytes that carry it. -/
theorem exec_segment (ht : s.takesRequests) (first last : Bool) (h : RequestHead) (hbody : body.length ≤ 56)
    (htotal : total ≤ 1024) :
    exec (.send (segmentBytes first last total h body)) s =
      .next ((s.statusOut.takeSegment { first := first, last := last, total := total, head := h, body := body }).shifted
        (s.statusByte :: fill (7 + body.length))) := by
  have hne : segmentBytes first last total h body ≠ [] := List.cons_ne_nil _ _
  rw [exec_send ht.1, takeSend_free ht.2 hne, State.deliver, parseSegment_segmentBytes first last h hbody htotal,
    length_segmentBytes]

/-- The first segment of several begins an assembly. -/
theorem exec_segment_begins (ht : s.takesRequests) (h : RequestHead) (hbody : body.length ≤ 56)
    (hmore : body.length ≤ total) (htotal : total ≤ 1024) :
    exec (.send (segmentBytes true false total h body)) s =
      .next (s.gathering { head := h, total := total, body := body } (s.statusByte :: fill (7 + body.length))) := by
  rw [exec_segment ht true false h hbody htotal, takeSegment_first rfl, extend_more hmore]
  rfl

/-- A segment of the same request that is not the last one continues its assembly. -/
theorem exec_segment_continues (hp : s.powered = true) (out : List Byte) (hbody : body.length ≤ 56)
    (hmore : (pre ++ body).length ≤ total) (htotal : total ≤ 1024) :
    exec (.send (segmentBytes false false total h body)) (s.gathering { head := h, total := total, body := pre } out) =
      .next (s.gathering { head := h, total := total, body := pre ++ body }
        (s.midRequest.statusByte :: fill (7 + body.length))) := by
  rw [exec_segment (takesRequests_gathering hp _ _) false false h hbody htotal, takeSegment_next rfl rfl, if_neg (by simp),
    if_neg (by simp), extend_more hmore]
  rfl

end

/-! ## A malformed request (R151) -/

/-- R151: a head and body that spell no request, or one that fails the rest of the head check. -/
def Malformed (h : RequestHead) (body : List Byte) : Prop := ∀ r, parseRequest h body = some r → r.formOk = false

theorem dispatch_malformed {h : RequestHead} {body : List Byte} (hm : Malformed h body) (s : State) :
    State.dispatch h (parseRequest h body) s = (refuse .badRequest 0 { s with supervision := s.restarted }).respond h := by
  rw [← restartSupervision_eq]
  unfold State.dispatch
  cases hr : parseRequest h body with
  | none => rfl
  | some r => exact if_neg (by simp [hm r hr])

theorem lastSegmentLength_of_le {n : Nat} (hn : n ≤ 56) : lastSegmentLength n = n := by
  unfold lastSegmentLength
  omega

/-- What is left after whole segments of 56 bytes is the last segment. -/
theorem lastSegmentLength_add {n m : Nat} (hn : n % 56 = 0) (h0 : 0 < m) (hm : m ≤ 56) : lastSegmentLength (n + m) = m := by
  unfold lastSegmentLength
  omega

section
variable {s : State} {h : RequestHead} {body : List Byte}

/-- A malformed request in one segment. -/
theorem exec_segment_malformed (ht : s.takesRequests) (hbody : body.length ≤ 56) (hm : Malformed h body) :
    exec (.send (segmentBytes true true body.length h body)) s = .next (s.replied h body.length .badRequest 0 []) := by
  have hout : (if body.length ≤ 56 then s else s.midRequest).requestOut body.length =
      s.statusByte :: fill (7 + body.length) := by
    rw [if_pos hbody, State.requestOut, lastSegmentLength_of_le hbody]
  rw [exec_segment ht true true h hbody (by omega), takeSegment_first rfl, extend_whole rfl, dispatch_malformed hm, ← hout]
  rfl

/-- The last segment of a malformed request in several. -/
theorem exec_lastSegment_malformed (hp : s.powered = true) {pre : List Byte} (out : List Byte) (hpre : pre.length % 56 = 0)
    (hpos : pre ≠ []) (hne : body ≠ []) (hbody : body.length ≤ 56) (htotal : (pre ++ body).length ≤ 1024)
    (hm : Malformed h (pre ++ body)) :
    exec (.send (segmentBytes false true (pre ++ body).length h body))
        (s.gathering { head := h, total := (pre ++ body).length, body := pre } out) =
      .next (s.replied h (pre ++ body).length .badRequest 0 []) := by
  have hp0 := List.length_pos_iff.2 hpos
  have hb0 := List.length_pos_iff.2 hne
  have hlong : ¬ (pre ++ body).length ≤ 56 := by
    rw [List.length_append]
    omega
  have hout : (if (pre ++ body).length ≤ 56 then s else s.midRequest).requestOut (pre ++ body).length =
      s.midRequest.statusByte :: fill (7 + body.length) := by
    rw [if_neg hlong, State.requestOut, List.length_append, lastSegmentLength_add hpre hb0 hbody]
  rw [exec_segment (takesRequests_gathering hp _ _) false true h hbody htotal, takeSegment_next rfl rfl, if_neg (by simp),
    if_neg (by simp), extend_whole rfl, dispatch_malformed hm]
  unfold State.replied State.answered
  rw [hout]
  rfl

theorem runAll_cons_next {c : Instr} {t : State} (hc : exec c s = .next t) (rest : List Instr) :
    runAll (c :: rest) s = runAll rest t := by
  simp only [runAll, hc]

/-- The segments after the first of a malformed request. -/
theorem runAll_sendsFrom_malformed (hp : s.powered = true) (fuel : Nat) :
    ∀ (pre body : List Byte) (out : List Byte), pre.length % 56 = 0 → pre ≠ [] → body ≠ [] → body.length ≤ 56 * fuel →
      (pre ++ body).length ≤ 1024 → Malformed h (pre ++ body) →
        runAll (sendsFrom false (pre ++ body).length h fuel body)
            (s.gathering { head := h, total := (pre ++ body).length, body := pre } out) =
          some (s.replied h (pre ++ body).length .badRequest 0 []) := by
  induction fuel with
  | zero =>
    intro pre body out _ _ hne hfuel
    have := List.length_pos_iff.2 hne
    omega
  | succ fuel ih =>
    intro pre body out hpre hpos hne hfuel htotal hm
    unfold sendsFrom
    by_cases hlast : body.length ≤ 56
    · rw [if_pos hlast, runAll_cons_next (exec_lastSegment_malformed hp out hpre hpos hne hlast htotal hm)]
      rfl
    · have hjoin : pre ++ body.take 56 ++ body.drop 56 = pre ++ body := by rw [List.append_assoc, List.take_append_drop]
      have htake : (body.take 56).length = 56 := by
        rw [List.length_take]
        omega
      have hmore : (pre ++ body.take 56).length ≤ (pre ++ body).length := by
        simp only [List.length_append]
        omega
      have hrest := ih (pre ++ body.take 56) (body.drop 56) (s.midRequest.statusByte :: fill (7 + (body.take 56).length))
        (by rw [List.length_append]; omega) (by simp [hpos])
        (by rw [← List.length_pos_iff, List.length_drop]; omega) (by rw [List.length_drop]; omega)
      rw [hjoin] at hrest
      rw [if_neg hlast, runAll_cons_next (exec_segment_continues hp out htake.le hmore htotal)]
      exact hrest htotal hm

/-- A malformed request, sent in segments of 56 bytes. -/
theorem runAll_sends_malformed (ht : s.takesRequests) (htotal : body.length ≤ 1024) (hm : Malformed h body) :
    runAll (sendsFrom true body.length h 19 body) s = some (s.replied h body.length .badRequest 0 []) := by
  unfold sendsFrom
  by_cases hlast : body.length ≤ 56
  · rw [if_pos hlast, runAll_cons_next (exec_segment_malformed ht hlast hm)]
    rfl
  · have htake : (body.take 56).length = 56 := by
      rw [List.length_take]
      omega
    have hrest := runAll_sendsFrom_malformed (s := s) (h := h) ht.1 18 (body.take 56) (body.drop 56)
      (s.statusByte :: fill (7 + (body.take 56).length)) (by rw [htake]) (by rw [← List.length_pos_iff]; omega)
      (by rw [← List.length_pos_iff, List.length_drop]; omega) (by rw [List.length_drop]; omega)
    rw [List.take_append_drop] at hrest
    rw [if_neg hlast, runAll_cons_next (exec_segment_begins ht h htake.le (by omega) htotal)]
    exact hrest htotal hm

end

/-! ## Which bodies spell a request (R151, section 11.1.4) -/

theorem tableOf_eq_none_iff (b : Byte) : tableOf b = none ↔ 4 < b.toNat := by
  revert b
  decide

theorem parsePairs_eq_none_iff (body : List Byte) : parsePairs body = none ↔ body.length % 5 ≠ 0 := by
  fun_induction parsePairs body with
  | case1 => simp
  | case2 i a b c d rest ih =>
    rw [Option.map_eq_none_iff, ih]
    simp only [List.length_cons]
    omega
  | case3 body hnil hfive =>
    refine iff_of_true rfl ?_
    match body, hnil, hfive with
    | [_], _, _ => simp
    | [_, _], _, _ => simp
    | [_, _, _], _, _ => simp
    | [_, _, _, _], _, _ => simp
    | i :: a :: b :: c :: d :: rest, _, hfive => exact absurd rfl (hfive i a b c d rest)

theorem parseList_eq_none_iff (t : TableId) (k : Nat) (body : List Byte) : parseList t k body = none ↔ 1 < body.length := by
  unfold parseList
  split
  · simp
  · simp
  · rename_i hnil hone
    match body, hnil, hone with
    | [], hnil, _ => exact absurd rfl hnil
    | [b], _, hone => exact absurd rfl (hone b)
    | _ :: _ :: _, _, _ => simp

/-- A CONTROL body: a function byte of 1 to 11, and more bytes for SET_CLOCK alone, which are whole pairs. -/
theorem parseControl_cons_eq_none_iff (k : Nat) (f : Byte) (rest : List Byte) :
    parseControl k (f :: rest) = none ↔
      ¬ (1 ≤ f.toNat ∧ f.toNat ≤ 11 ∧ (rest = [] ∨ (f.toNat = 9 ∧ rest.length % 5 = 0))) := by
  unfold parseControl
  dsimp only
  split
  case h_9 hf =>
    have hnil (l : List Byte) (hl : l = []) : l.length % 5 = 0 := by rw [hl, List.length_nil]
    rw [Option.map_eq_none_iff, parsePairs_eq_none_iff, hf, not_iff_not]
    exact ⟨fun h => ⟨by omega, by omega, Or.inr ⟨rfl, h⟩⟩, fun h => h.2.2.elim (hnil _) And.right⟩
  case h_12 =>
    refine iff_of_true rfl ?_
    rintro ⟨hlo, hhi, rfl | ⟨hf, -⟩⟩
    · simp only [forall_const, imp_false] at *
      omega
    · contradiction
  all_goals
    rename_i hf
    simp [hf]

theorem parseControl_eq_none_iff (k : Nat) (body : List Byte) :
    parseControl k body = none ↔
      ¬ ∃ f rest, body = f :: rest ∧ 1 ≤ f.toNat ∧ f.toNat ≤ 11
        ∧ (rest = [] ∨ (f.toNat = 9 ∧ rest.length % 5 = 0)) := by
  cases body with
  | nil => simp [parseControl]
  | cons f rest => simp only [parseControl_cons_eq_none_iff, List.cons.injEq, exists_and_left, and_assoc,
      exists_eq_left']

section
variable {h : RequestHead} (body : List Byte)

theorem parseRequest_other (hk : h.kind.toNat = 0 ∨ 8 < h.kind.toNat) : parseRequest h body = none := by
  unfold parseRequest
  split
  case h_9 => rfl
  all_goals omega

/-- LOOKUP and RETIRE carry no body. -/
theorem parseRequest_bare (hk : h.kind.toNat = 1 ∨ h.kind.toNat = 5) :
    parseRequest h body = none ↔ 4 < h.table.toNat ∨ body ≠ [] := by
  rw [← tableOf_eq_none_iff]
  unfold parseRequest
  rcases hk with hk | hk <;> rw [hk] <;> cases body <;> simp

theorem parseRequest_list (hk : h.kind.toNat = 2) :
    parseRequest h body = none ↔ 4 < h.table.toNat ∨ 1 < body.length := by
  rw [← tableOf_eq_none_iff]
  unfold parseRequest
  rw [hk]
  cases tableOf h.table with
  | none => simp
  | some t => simp [parseList_eq_none_iff]

/-- ENROL and AMEND carry pairs. -/
theorem parseRequest_pairs (hk : h.kind.toNat = 3 ∨ h.kind.toNat = 4) :
    parseRequest h body = none ↔ 4 < h.table.toNat ∨ body.length % 5 ≠ 0 := by
  rw [← tableOf_eq_none_iff, ← parsePairs_eq_none_iff]
  unfold parseRequest
  rcases hk with hk | hk <;> rw [hk] <;> cases tableOf h.table <;> simp

theorem parseRequest_summary (hk : h.kind.toNat = 6) : parseRequest h body = none ↔ body ≠ [] := by
  unfold parseRequest
  rw [hk]
  cases body <;> simp

theorem parseRequest_attend (hk : h.kind.toNat = 7) : parseRequest h body = some (.attend body) := by
  unfold parseRequest
  rw [hk]
  rfl

theorem parseRequest_control (hk : h.kind.toNat = 8) :
    parseRequest h body = none ↔ parseControl h.key.toNat body = none := by
  unfold parseRequest
  rw [hk]
  exact Option.map_eq_none_iff

end

/-! ## The rest of the head check (R151, R153, R158, R166) -/

/-- R158: the causes of an ATTEND are numbers of 1 to 14, none of them twice. -/
theorem causesFit_iff (causes : List Byte) :
    causesFit causes = true ↔ (∀ c ∈ causes, 1 ≤ c.toNat ∧ c.toNat ≤ 14) ∧ causes.Nodup := by
  have hnodup : repeats (causes.map BitVec.toNat) = false ↔ causes.Nodup := by
    rw [repeats_eq_false_iff]
    exact List.nodup_map_iff fun a b hab => BitVec.eq_of_toNat_eq hab
  unfold causesFit
  rw [Bool.and_eq_true, Bool.not_eq_true', hnodup, List.all_eq_true]
  simp only [within_iff]
  norm_cast

/-- A row whose request fails the head check gets BAD_REQUEST, and changes no record. -/
theorem exec_badForm {c : Instr} {h : RequestHead} {r : Request} {s : State} (hc : asRequest c = some (h, r))
    (ht : s.takesRequests) (hb : r.body.length ≤ 1024) (hf : r.formOk = false) :
    exec c s = .next (s.replied h r.body.length .badRequest 0 []) := by
  rw [exec_of_asRequest s hc, ifPowered_on _ s ht.1, request_badForm h r s ht.2 hb hf]

/-- Settles O16: a row and the SENDs of a malformed request come to the same reply, and the head check by kind. -/
theorem malformedRequestsReachNoOwner : Obligations.MalformedRequestsReachNoOwner := by
  refine ⟨fun _ _ _ _ => exec_badForm,
    fun h body s ht hb hm => ⟨runAll_sends_malformed ht hb hm, fun hone => exec_segment_malformed ht hone hm⟩,
    fun h body => ⟨parseRequest_other body, parseRequest_bare body, parseRequest_list body, parseRequest_pairs body,
      parseRequest_summary body, parseRequest_attend body, fun hk => ?_⟩,
    fun t k ps => ?_, fun t k => ?_, fun t k c => ?_, causesFit_iff, rfl, fun _ => rfl⟩
  · rw [parseRequest_control body hk, parseControl_eq_none_iff]
  · simp [Request.formOk]
  · simp [Request.formOk, within_iff, listCount]
  · simp only [Request.formOk, listCount, Bool.and_eq_true, bne_iff_ne, within_iff]
    norm_cast

end Sys2Proof.Machine
end

section
/-! PROOFS. What LIST and SUMMARY return (O13, O14). -/

namespace Sys2Proof.Machine

/-! ## LIST (R153) -/

/-- The keys of a table's records; the profile has none. -/
def State.keysOf (s : State) : TableId → List Nat
  | .profile => []
  | .bus => s.buses.map Bus.fleet
  | .berth => s.berths.map Berth.number
  | .ticket => s.tickets.map Ticket.id
  | .pledge => s.pledges.map Pledge.id

theorem owner_list {table : TableId} (ht : table ≠ .profile) (k : Nat) (count : Option Byte) (s : State) :
    s.owner (.list table k count) =
      { status := .done, failing := 0, body := listBody (s.keysOf table) k (listCount count), state := s } := by
  cases table with
  | profile => exact absurd rfl ht
  | bus => rfl
  | berth => rfl
  | ticket => rfl
  | pledge => rfl

theorem listCount_eq (count : Option Byte) : listCount count = (count.map BitVec.toNat).getD 64 := by
  cases count <;> rfl

/-- A LIST passes the head check where it names a table of records and a count of 1 to 64. -/
theorem formOk_list_iff (table : TableId) (k : Nat) (count : Option Byte) :
    (Request.list table k count).formOk = true ↔ table ≠ .profile ∧ 1 ≤ listCount count ∧ listCount count ≤ 64 := by
  simp only [Request.formOk, Bool.and_eq_true, bne_iff_ne, within_iff]
  norm_cast

/-- The "more" mark says that keys are left. -/
theorem listBody_eq (keys : List Nat) (start count : Nat) :
    listBody keys start count =
      BitVec.ofNat 8 ((keys.filter fun k => decide (start ≤ k)).take count).length
        :: ((keys.filter fun k => decide (start ≤ k)).take count).flatMap halfBytes
        ++ [if (keys.filter fun k => decide (start ≤ k)).drop count = [] then 0#8 else 1#8] := by
  unfold listBody
  dsimp only
  by_cases hmore : (keys.filter fun k => decide (start ≤ k)).length ≤ count
  · rw [if_neg (Nat.not_lt.2 hmore), if_pos (List.drop_eq_nil_iff.2 hmore)]
  · rw [if_pos (Nat.lt_of_not_le hmore), if_neg (mt List.drop_eq_nil_iff.1 hmore)]

/-- Settles O13: by the owner of the table, or by the head check. -/
theorem listReturnsKeys : Obligations.ListReturnsKeys := by
  intro table key count s ht h n most keys above shown
  have hlen : count.toList.length ≤ 1024 := by cases count <;> simp
  have hmost : listCount count = most := listCount_eq count
  refine ⟨fun htable hlo hhi => ?_, fun hbad => ?_⟩
  · have hform : (Request.list table key.toNat count).formOk = true := by
      rw [formOk_list_iff, hmost]
      exact ⟨htable, hlo, hhi⟩
    have hbody : listBody (s.keysOf table) key.toNat (listCount count) =
        BitVec.ofNat 8 shown.length :: shown.flatMap halfBytes ++ [if above.drop most = [] then 0#8 else 1#8] := by
      rw [listBody_eq, hmost]
      cases table <;> rfl
    rw [← hbody]
    refine exec_replied (c := .list table key count) rfl ht rfl hlen hform (by simp) ?_
    rw [owner_list htable]
    cases table <;> rfl
  · have hform : (Request.list table key.toNat count).formOk = false := by
      rw [← Bool.not_eq_true, formOk_list_iff, hmost]
      rintro ⟨htable, hlo, hhi⟩
      rcases hbad with hprofile | hzero | hmany
      · exact htable hprofile
      · omega
      · omega
    exact exec_badForm (c := .list table key count) (h := h) (r := .list table key.toNat count) rfl ht hlen hform

/-! ## SUMMARY (R154) -/

/-- R21: the available reserve energy is that of the buses eligible for it. -/
theorem sumOf_reserveEnergy (buses : List Bus) :
    sumOf Bus.reserveEnergy buses = ((buses.filter Bus.exportEligible).map fun b => b.held.getD 0 - b.floor).sum := by
  unfold sumOf
  induction buses with
  | nil => rfl
  | cons b buses ih =>
    rw [List.map_cons, List.sum_cons, ih, List.filter_cons]
    by_cases hb : b.exportEligible = true
    · rw [if_pos hb, List.map_cons, List.sum_cons, Bus.reserveEnergy, if_pos hb]
    · rw [if_neg hb, Bus.reserveEnergy, if_neg hb, Nat.zero_add]

/-- The counted import in terms of the decided and the reported power. -/
theorem countedImport_eq : Berth.countedImport = fun b => max (max b.decided 0).toNat (max b.reported 0).toNat := by
  funext b
  unfold Berth.countedImport importPart
  omega

theorem countedExport_eq : Berth.countedExport = fun b => max (max (-b.decided) 0).toNat (max (-b.reported) 0).toNat := by
  funext b
  unfold Berth.countedExport exportPart
  omega

theorem optNat_map {α : Type} (f : α → Nat) (o : Option α) : optNat (o.map f) = o.map fun x => (f x : Int) := Option.map_map ..

/-- Settles O14: each item read from its definition, in the order of the groups. -/
theorem summaryReturnsSeventyItems : Obligations.SummaryReturnsSeventyItems := by
  refine ⟨fun s ht => exec_replied (c := .summary) rfl ht rfl (Nat.zero_le _) rfl (by simp) rfl, fun s => ?_⟩
  have hremaining : (if s.supervision.condition = .counting then (s.supervision.remaining : Int) else 0) =
      ((if s.supervision.condition = .counting then s.supervision.remaining else 0 : Nat) : Int) := by
    split <;> rfl
  intro flag many level buses tickets graded pledges drawn given branch
  unfold State.summaryItems State.storageItems State.feederItems State.totalImport State.totalExport State.branchImport
    State.ticketItems State.clockItems State.supervisionItems
  rw [sumOf_reserveEnergy, countedImport_eq, countedExport_eq, optNat_map, optNat_map, hremaining]
  rfl

end Sys2Proof.Machine
end

section
/-! PROOFS. The check of a body of pairs (R152, R166): which identifiers fail, the lowest of them, and the ranges of the fields
(O30). -/

namespace Sys2Proof.Machine

/-! ## The lowest failing identifier (R152) -/

theorem lowest_spec {l : List Nat} {f : Nat} (h : lowest l = some f) : f ∈ l ∧ ∀ i ∈ l, f ≤ i := by
  rw [lowest_eq_min?] at h
  exact List.min?_eq_some_iff.1 h

theorem pairCarried_eq_none_iff (p : Pair) : pairCarried p = none ↔ p.value = noValue := by simp [pairCarried]

/-- A pair fails with its identifier, where that names no field of the record or the field does not take the value. -/
theorem failingPair_eq_some_iff (count : Nat) (fits : Nat → Int → Bool) (p : Pair) (i : Nat) :
    failingPair count fits p = some i ↔
      pairId p = i ∧ (i = 0 ∨ count < i ∨ (p.value ≠ noValue ∧ fits i p.value.toInt = false)) := by
  unfold failingPair pairCarried
  by_cases hid : pairId p = 0 ∨ count < pairId p
  · rw [if_pos hid, Option.some.injEq]
    refine ⟨fun h => ⟨h, ?_⟩, And.left⟩
    rw [h] at hid
    exact hid.imp_right Or.inl
  · rw [if_neg hid]
    obtain ⟨h0, hcount⟩ := not_or.1 hid
    by_cases hv : p.value = noValue
    · rw [if_pos hv]
      refine iff_of_false (by simp) ?_
      rintro ⟨rfl, h | h | h⟩
      · exact h0 h
      · exact hcount h
      · exact h.1 hv
    · rw [if_neg hv]
      dsimp only
      cases hfit : fits (pairId p) p.value.toInt with
      | true =>
        refine iff_of_false (by simp) ?_
        rintro ⟨rfl, h | h | h⟩
        · exact h0 h
        · exact hcount h
        · rw [hfit] at h
          exact absurd h.2 (by simp)
      | false =>
        rw [if_neg (by simp), Option.some.injEq]
        refine ⟨fun h => ⟨h, Or.inr (Or.inr ⟨hv, h ▸ hfit⟩)⟩, And.left⟩

/-- An identifier is not carried where every pair that names it is a no-value pair. -/
theorem carries_eq_false_iff (pairs : List Pair) (i : Nat) :
    carries pairs i = false ↔ ∀ p ∈ pairs, pairId p = i → p.value = noValue := by
  simp only [carries, carriedFor, Option.isSome_eq_false_iff, Option.isNone_iff_eq_none, List.findSome?_eq_none_iff,
    ite_eq_right_iff, pairCarried_eq_none_iff]

section
variable (count : Nat) (fits : Nat → Int → Bool) (required also : List Nat) (pairs : List Pair)

/-- The identifiers with which a body of pairs fails its check. -/
def failingIds : List Nat :=
  pairs.filterMap (failingPair count fits) ++ required.filter (fun i => !carries pairs i) ++ also

theorem mem_failingIds (i : Nat) :
    i ∈ failingIds count fits required also pairs ↔
      (∃ p ∈ pairs, pairId p = i ∧ (i = 0 ∨ count < i ∨ (p.value ≠ noValue ∧ fits i p.value.toInt = false)))
      ∨ (i ∈ required ∧ ∀ p ∈ pairs, pairId p = i → p.value = noValue) ∨ i ∈ also := by
  simp only [failingIds, List.mem_append, List.mem_filterMap, failingPair_eq_some_iff, List.mem_filter, Bool.not_eq_true',
    carries_eq_false_iff, or_assoc]

theorem checkPairs_of_repeated (h : ¬ (pairs.map pairId).Nodup) :
    checkPairs count fits required also pairs = some (.badRequest, 0) :=
  if_pos (by rwa [← repeats_eq_false_iff, Bool.not_eq_false] at h)

theorem checkPairs_of_nodup (h : (pairs.map pairId).Nodup) :
    checkPairs count fits required also pairs =
      (lowest (failingIds count fits required also pairs)).map fun i => (.badField, i) :=
  if_neg (by rw [(repeats_eq_false_iff _).2 h]; exact Bool.false_ne_true)

end

/-! ## The ranges of the fields -/

/-- The value lies in one of the ranges listed for the identifier. -/
def InRanges (ranges : List (Nat × Int × Int)) (i : Nat) (v : Int) : Prop := ∃ r ∈ ranges, r.1 = i ∧ r.2.1 ≤ v ∧ v ≤ r.2.2

@[simp] theorem inRanges_nil (i : Nat) (v : Int) : ¬ InRanges [] i v := by simp [InRanges]

@[simp] theorem inRanges_cons (n : Nat) (lo hi : Int) (rest : List (Nat × Int × Int)) (i : Nat) (v : Int) :
    InRanges ((n, lo, hi) :: rest) i v ↔ (i = n ∧ lo ≤ v ∧ v ≤ hi) ∨ InRanges rest i v := by
  simp [InRanges, eq_comm (a := i)]

section
variable (i : Nat) (v : Int)

/-! Each branch of a field's check is one range of its list; the last branch, an identifier with no range, is none of them. -/

theorem busFieldFits_iff : busFieldFits i v = true ↔ InRanges [(2, 200, 4000), (3, 10, 150), (4, 0, 1), (5, 0, 1)] i v := by
  unfold busFieldFits
  split <;> simp_all [within_iff]

theorem berthFieldFits_iff :
    berthFieldFits i v = true ↔
      InRanges [(2, 1, 4), (3, 1, 8), (4, 1, 8), (5, 10, 150), (6, 0, 100), (7, -50, 50), (8, 0, 1)] i v := by
  unfold berthFieldFits
  split <;> simp_all [within_iff]

theorem ticketFieldFits_iff :
    ticketFieldFits i v = true ↔
      InRanges [(2, 1, 999), (3, 0, 94371839), (4, 10, 4000), (5, 0, 120), (6, 0, 30), (7, 0, 9999)] i v := by
  unfold ticketFieldFits
  split <;> simp_all [within_iff]

/-- The ranges of an ENROL of a ticket are those of a ticket without the bus. -/
theorem ticketEnrolFits_iff :
    ticketEnrolFits i v = true ↔
      InRanges [(2, 1, 999), (3, 0, 94371839), (4, 10, 4000), (5, 0, 120), (6, 0, 30)] i v := by
  unfold ticketEnrolFits
  rw [Bool.and_eq_true, decide_eq_true_eq, ticketFieldFits_iff]
  by_cases hi : i = 7 <;> simp [hi]

theorem pledgeFieldFits_iff :
    pledgeFieldFits i v = true ↔
      InRanges [(2, 0, 1), (3, 0, 94371839), (4, 15, 240), (5, 10, 2000), (6, 0, 1)] i v := by
  unfold pledgeFieldFits
  split <;> simp_all [within_iff]

theorem clockFieldFits_iff : clockFieldFits i v = true ↔ InRanges [(1, 0, 65535), (2, 0, 1439)] i v := by
  unfold clockFieldFits
  split <;> simp_all [within_iff]

/-- Two ranges of field 30 (0, or 5 to 600), and one range for all the fields from 32 to 59. -/
theorem profileFieldFits_iff :
    profileFieldFits i v = true ↔
      InRanges
        [(1, 50, 4000), (2, 0, 4000), (3, 0, 4000), (4, 0, 4000), (5, 0, 4000), (6, 0, 4000), (7, 0, 3200), (8, 0, 4000),
          (9, 0, 1), (10, 0, 1), (11, 800, 980), (12, 10, 100), (13, 2, 8), (14, 0, 1), (15, 0, 1), (16, 1, 20), (17, 30, 150),
          (18, 1, 3), (19, 0, 255), (20, 0, 63)] i v
      ∨ InRanges
          [(21, 0, 500), (22, 0, 80), (23, 0, 240), (24, 0, 120), (25, 0, 60), (26, 0, 60), (27, 10, 100), (28, 0, 20),
            (29, 0, 50), (30, 0, 0), (30, 5, 600), (31, 0, 1)] i v
      ∨ (32 ≤ i ∧ i ≤ 59 ∧ 0 ≤ v ∧ v ≤ 1) := by
  unfold profileFieldFits
  split
  case h_30 =>
    have hzero : v = 0 ↔ 0 ≤ v ∧ v ≤ 0 := by omega
    simp [within_iff, hzero]
  case h_32 => simp_all [within_iff, and_assoc]
  all_goals simp [within_iff]

end

/-- Settles O30: the lowest of the failing identifiers, and the ranges by kind of record. -/
theorem pairCheckNamesLowestFailure : Obligations.PairCheckNamesLowestFailure := by
  refine ⟨fun count fits required also pairs => ?_, fun i v => ⟨busFieldFits_iff i v, berthFieldFits_iff i v,
    ticketFieldFits_iff i v, ticketEnrolFits_iff i v, pledgeFieldFits_iff i v, clockFieldFits_iff i v, profileFieldFits_iff i v⟩⟩
  intro check fails
  have hfails (i : Nat) : i ∈ failingIds count fits required also pairs ↔ fails i := mem_failingIds ..
  refine ⟨checkPairs_of_repeated count fits required also pairs, fun hnodup => ?_⟩
  have hcheck : check = (lowest (failingIds count fits required also pairs)).map fun i => (.badField, i) :=
    checkPairs_of_nodup count fits required also pairs hnodup
  refine ⟨?_, fun st f hfail => ?_⟩
  · rw [hcheck, Option.map_eq_none_iff, lowest_eq_none_iff, List.eq_nil_iff_forall_not_mem]
    exact forall_congr' fun i => not_congr (hfails i)
  · rw [hcheck, Option.map_eq_some_iff] at hfail
    obtain ⟨i, hlowest, hpair⟩ := hfail
    obtain ⟨rfl, rfl⟩ := Prod.mk.inj hpair
    obtain ⟨hmem, hleast⟩ := lowest_spec hlowest
    exact ⟨rfl, (hfails i).1 hmem, fun j hj => hleast j ((hfails j).2 hj)⟩

end Sys2Proof.Machine
end
